-- ==== Sys2Proof/Word.lean ====
section
/-! DEFINITION. The machine's words and their plainest arithmetic: bytes, 32-bit words, operand widths (spec/00_scope.md R12). -/

namespace Sys2Proof

/-- A byte, `u8` of R12. -/
abbrev Byte := BitVec 8

/-- A 32-bit word, `u32` of R12. -/
abbrev Word := BitVec 32

/-- A 16-bit selector (R10). -/
abbrev Sel := BitVec 16

/-- An operand or address size of 16 or 32 bits (R207). -/
inductive Size where
  | w16
  | w32
  deriving DecidableEq, Repr

/-- An operand width `w` of 8, 16 or 32 bits (R12). -/
inductive Width where
  | b8
  | b16
  | b32
  deriving DecidableEq, Repr

/-- `w` in bits. -/
def Width.bits : Width → Nat
  | .b8 => 8
  | .b16 => 16
  | .b32 => 32

/-- `bytes(w) = w/8` (R12). -/
def Width.bytes : Width → Nat
  | .b8 => 1
  | .b16 => 2
  | .b32 => 4

/-- The width of an opsize operand. -/
def Size.width : Size → Width
  | .w16 => .b16
  | .w32 => .b32

/-- A size in bytes. -/
def Size.bytes : Size → Nat
  | .w16 => 2
  | .w32 => 4

/-- The page number `a[31:12]` of an address, as a Nat (R9, R19). -/
def pageOf (a : Word) : Nat := (a >>> 12).toNat

/-- `page : a[11:0]`, the address at a's offset in the given page. -/
def inPage (page : BitVec 20) (a : Word) : Word := page ++ a.extractLsb' 0 12

end Sys2Proof
end

