-- ==== Sys2Proof/Config.lean ====
section
/-! DEFINITION. What an implementation fixes: the launch parameters of spec/00_scope.md R11 as plain data (State holds one record of
them and no step changes it, notes/assumptions/1.md), and the free values the spec leaves open, as constants with no body. -/

namespace Sys2Proof

/-- `CPU_GEN` (R8). -/
inductive CpuGen where
  | g386
  | g486
  | g586
  deriving DecidableEq, Repr

/-- The generation as a number, to compare generations (R221). -/
def CpuGen.num : CpuGen → Nat
  | .g386 => 386
  | .g486 => 486
  | .g586 => 586

/-- `ROM_WRITE_POLICY` (R105). -/
inductive RomPolicy where
  | discard
  | trap
  deriving DecidableEq, Repr

/-- Which value a protected-mode parameter of R23 to R25 has: its default, `Refuse` for every input, or a supplied function, which
is a free one (Machine/Params.lean). -/
inductive PmSource where
  | refuse
  | supplied
  deriving DecidableEq, Repr

/-- Which eviction pattern the TLB follows (R134): none, which a test can evaluate, or the free one of `Config.evicts`, which stands for
every pattern (notes/assumptions/6.md). -/
inductive Eviction where
  | never
  | free
  deriving DecidableEq, Repr

/-- The launch parameters (R8, R11). -/
structure Config where
  /-- `CPU_GEN` (R8). -/
  gen : CpuGen
  /-- `INSTALLED_PAGES` (R100). -/
  installedPages : Nat
  /-- `UNMAPPED_FILL` (R106). -/
  unmappedFill : Byte
  /-- `ROM_WRITE_POLICY` (R105). -/
  romPolicy : RomPolicy
  /-- `ENV_PAGES`, the physical pages the environment may write between steps (R151). -/
  envPages : List Nat
  /-- The eviction pattern, in place of `LINK_CAPACITY` (R134). -/
  eviction : Eviction
  /-- `PM_LOAD_SEG` (R23). -/
  pmLoadSeg : PmSource
  /-- `PM_FAR_TRANSFER` (R24). -/
  pmFarTransfer : PmSource
  /-- `PM_IRET` (R24). -/
  pmIret : PmSource
  /-- `PM_DELIVER` (R25). -/
  pmDeliver : PmSource
  deriving DecidableEq, Repr

/-- The parameter values of the spec's worked examples (95_test_vectors.md, Conventions): DESIGN CHOICE, notes/assumptions/1.md. The TLB may
evict at will, as R134 says of every launch. -/
def Config.examples : Config :=
  { gen := .g486, installedPages := 256, unmappedFill := 0xFF#8, romPolicy := .discard, envPages := [], eviction := .free,
    pmLoadSeg := .refuse, pmFarTransfer := .refuse, pmIret := .refuse, pmDeliver := .refuse }

/-- The n-th draw of a run (R15, R26): nothing constrains it (notes/assumptions/4.md). -/
opaque Config.freeValue : Nat → BitVec 32

/-- What the byte of the flat store at a physical address held at launch (R54): nothing constrains it (notes/assumptions/3.md). -/
opaque Config.ramByte : Nat → Byte

/-- `DEVICE.read(d, pa, n, history, choice)` (R107), the choice numbering the read within the run: nothing constrains it
(notes/assumptions/5.md). -/
opaque Config.deviceRead : (device : Nat) → (pa : Word) → (n : Nat) → (choice : Nat) → BitVec 32

/-- Whether the entry of a linear page in the write (`true`) or read direction is evicted before the translation numbered by the
choice (R134): nothing constrains it (notes/assumptions/6.md). -/
opaque Config.evicts : (choice : Nat) → (write : Bool) → (lp : Nat) → Bool

end Sys2Proof
end

