-- ==== Sys2Proof/Syntax.lean ====
section
/-! DEFINITION. The instruction set as syntax: registers, conditions, prefixes, operand forms, and one constructor of `Instr` for every
row of spec/opcode_table.json. -/

namespace Sys2Proof

/-- A general register, named by its 32-bit name; its encoding number is `Reg.num` (spec/10_state.md R31). At width 8 the same number
names another byte register: `esp`, `ebp`, `esi`, `edi` stand there for AH, CH, DH, BH. -/
inductive Reg where
  | eax | ecx | edx | ebx | esp | ebp | esi | edi
  deriving DecidableEq, Repr

/-- A segment register, in the order of its number (R41). -/
inductive SegReg where
  | es | cs | ss | ds | fs | gs
  deriving DecidableEq, Repr

/-- A condition, in the order of its code `cc` (spec/30_encoding.md R224). -/
inductive Cond where
  | o | no | b | ae | e | ne | be | a | s | ns | p | np | l | ge | le | g
  deriving DecidableEq, Repr

/-- The repeat prefix in force (R205). -/
inductive Rep where
  | none
  | repe
  | repne
  deriving DecidableEq, Repr

/-- The prefix state of the instruction being decoded (R205). -/
structure Prefixes where
  seg : Option SegReg
  opsizeOvr : Bool
  addrsizeOvr : Bool
  lock : Bool
  rep : Rep
  deriving DecidableEq, Repr

/-- All clear, as at every instruction start (R205). -/
def Prefixes.clear : Prefixes := { seg := none, opsizeOvr := false, addrsizeOvr := false, lock := false, rep := .none }

/-- What the prefix state selects in the code segment at hand (R207, R222): the segment override, the effective operand and address size,
LOCK and the repeat prefix. -/
structure Pfx where
  seg : Option SegReg
  osz : Size
  asz : Size
  lock : Bool
  rep : Rep
  deriving DecidableEq, Repr

/-- The displacement of a ModRM memory form whose full displacement has `w` bits (R212, R213): none (mod 0), a signed byte (mod 1), or a
full one (mod 2). -/
inductive Disp (w : Nat) where
  | none
  | d8 (d : Byte)
  | full (d : BitVec w)
  deriving DecidableEq, Repr

/-- The base of a 16-bit form, in the order of rm (R212). -/
inductive Base16 where
  | bxSi | bxDi | bpSi | bpDi | si | di | bp | bx
  deriving DecidableEq, Repr

/-- A ModRM memory operand (R212 to R214). -/
inductive Mem where
  /-- 16-bit addressing with a base. -/
  | based16 (b : Base16) (d : Disp 16)
  /-- 16-bit addressing, mod 0, rm 6: the offset alone. -/
  | abs16 (d : BitVec 16)
  /-- 32-bit addressing with a base register. -/
  | based32 (b : Reg) (d : Disp 32)
  /-- 32-bit addressing, mod 0, rm 5: the offset alone. -/
  | abs32 (d : Word)
  /-- A SIB form with a base; `index` is absent when the field is 4. -/
  | sib (scale : BitVec 2) (index : Option Reg) (b : Reg) (d : Disp 32)
  /-- A SIB form with base 5 and mod 0: no base, a 32-bit displacement. -/
  | sibAbs (scale : BitVec 2) (index : Option Reg) (d : Word)
  deriving DecidableEq, Repr

/-- A register or memory operand (R211). -/
inductive RM where
  | reg (r : Reg)
  | mem (m : Mem)
  deriving DecidableEq, Repr

/-- The instructions, one constructor for each row of spec/opcode_table.json, in the table's order but for the rows with no operand field,
which stand last. The prefix state is not part of an instruction: it is the machine's (R55, R205), and selects sizes, segment, LOCK and
repetition when the instruction executes (R222). Immediates and displacements of opsize are held in 32 bits (R215). -/
inductive Instr where
  /-- op /r, R355 -/
  | addRm8R8 (rm : RM) (reg : Reg)
  /-- op /r, R355 -/
  | addRmR (rm : RM) (reg : Reg)
  /-- op /r, R355 -/
  | addR8Rm8 (rm : RM) (reg : Reg)
  /-- op /r, R355 -/
  | addRRm (rm : RM) (reg : Reg)
  /-- op ib, R355 -/
  | addAlIb (imm : Byte)
  /-- op iz, R355 -/
  | addEaxIz (imm : Word)
  /-- 80 /0 ib, R355 -/
  | addRm8Ib (rm : RM) (imm : Byte)
  /-- 81 /0 iz, R355 -/
  | addRmIz (rm : RM) (imm : Word)
  /-- 83 /0 ibs, R355 -/
  | addRmIbs (rm : RM) (imm : Byte)
  /-- op /r, R356 -/
  | orRm8R8 (rm : RM) (reg : Reg)
  /-- op /r, R356 -/
  | orRmR (rm : RM) (reg : Reg)
  /-- op /r, R356 -/
  | orR8Rm8 (rm : RM) (reg : Reg)
  /-- op /r, R356 -/
  | orRRm (rm : RM) (reg : Reg)
  /-- op ib, R356 -/
  | orAlIb (imm : Byte)
  /-- op iz, R356 -/
  | orEaxIz (imm : Word)
  /-- 80 /1 ib, R356 -/
  | orRm8Ib (rm : RM) (imm : Byte)
  /-- 81 /1 iz, R356 -/
  | orRmIz (rm : RM) (imm : Word)
  /-- 83 /1 ibs, R356 -/
  | orRmIbs (rm : RM) (imm : Byte)
  /-- op /r, R357 -/
  | adcRm8R8 (rm : RM) (reg : Reg)
  /-- op /r, R357 -/
  | adcRmR (rm : RM) (reg : Reg)
  /-- op /r, R357 -/
  | adcR8Rm8 (rm : RM) (reg : Reg)
  /-- op /r, R357 -/
  | adcRRm (rm : RM) (reg : Reg)
  /-- op ib, R357 -/
  | adcAlIb (imm : Byte)
  /-- op iz, R357 -/
  | adcEaxIz (imm : Word)
  /-- 80 /2 ib, R357 -/
  | adcRm8Ib (rm : RM) (imm : Byte)
  /-- 81 /2 iz, R357 -/
  | adcRmIz (rm : RM) (imm : Word)
  /-- 83 /2 ibs, R357 -/
  | adcRmIbs (rm : RM) (imm : Byte)
  /-- op /r, R358 -/
  | sbbRm8R8 (rm : RM) (reg : Reg)
  /-- op /r, R358 -/
  | sbbRmR (rm : RM) (reg : Reg)
  /-- op /r, R358 -/
  | sbbR8Rm8 (rm : RM) (reg : Reg)
  /-- op /r, R358 -/
  | sbbRRm (rm : RM) (reg : Reg)
  /-- op ib, R358 -/
  | sbbAlIb (imm : Byte)
  /-- op iz, R358 -/
  | sbbEaxIz (imm : Word)
  /-- 80 /3 ib, R358 -/
  | sbbRm8Ib (rm : RM) (imm : Byte)
  /-- 81 /3 iz, R358 -/
  | sbbRmIz (rm : RM) (imm : Word)
  /-- 83 /3 ibs, R358 -/
  | sbbRmIbs (rm : RM) (imm : Byte)
  /-- op /r, R359 -/
  | andRm8R8 (rm : RM) (reg : Reg)
  /-- op /r, R359 -/
  | andRmR (rm : RM) (reg : Reg)
  /-- op /r, R359 -/
  | andR8Rm8 (rm : RM) (reg : Reg)
  /-- op /r, R359 -/
  | andRRm (rm : RM) (reg : Reg)
  /-- op ib, R359 -/
  | andAlIb (imm : Byte)
  /-- op iz, R359 -/
  | andEaxIz (imm : Word)
  /-- 80 /4 ib, R359 -/
  | andRm8Ib (rm : RM) (imm : Byte)
  /-- 81 /4 iz, R359 -/
  | andRmIz (rm : RM) (imm : Word)
  /-- 83 /4 ibs, R359 -/
  | andRmIbs (rm : RM) (imm : Byte)
  /-- op /r, R360 -/
  | subRm8R8 (rm : RM) (reg : Reg)
  /-- op /r, R360 -/
  | subRmR (rm : RM) (reg : Reg)
  /-- op /r, R360 -/
  | subR8Rm8 (rm : RM) (reg : Reg)
  /-- op /r, R360 -/
  | subRRm (rm : RM) (reg : Reg)
  /-- op ib, R360 -/
  | subAlIb (imm : Byte)
  /-- op iz, R360 -/
  | subEaxIz (imm : Word)
  /-- 80 /5 ib, R360 -/
  | subRm8Ib (rm : RM) (imm : Byte)
  /-- 81 /5 iz, R360 -/
  | subRmIz (rm : RM) (imm : Word)
  /-- 83 /5 ibs, R360 -/
  | subRmIbs (rm : RM) (imm : Byte)
  /-- op /r, R361 -/
  | xorRm8R8 (rm : RM) (reg : Reg)
  /-- op /r, R361 -/
  | xorRmR (rm : RM) (reg : Reg)
  /-- op /r, R361 -/
  | xorR8Rm8 (rm : RM) (reg : Reg)
  /-- op /r, R361 -/
  | xorRRm (rm : RM) (reg : Reg)
  /-- op ib, R361 -/
  | xorAlIb (imm : Byte)
  /-- op iz, R361 -/
  | xorEaxIz (imm : Word)
  /-- 80 /6 ib, R361 -/
  | xorRm8Ib (rm : RM) (imm : Byte)
  /-- 81 /6 iz, R361 -/
  | xorRmIz (rm : RM) (imm : Word)
  /-- 83 /6 ibs, R361 -/
  | xorRmIbs (rm : RM) (imm : Byte)
  /-- op /r, R362 -/
  | cmpRm8R8 (rm : RM) (reg : Reg)
  /-- op /r, R362 -/
  | cmpRmR (rm : RM) (reg : Reg)
  /-- op /r, R362 -/
  | cmpR8Rm8 (rm : RM) (reg : Reg)
  /-- op /r, R362 -/
  | cmpRRm (rm : RM) (reg : Reg)
  /-- op ib, R362 -/
  | cmpAlIb (imm : Byte)
  /-- op iz, R362 -/
  | cmpEaxIz (imm : Word)
  /-- 80 /7 ib, R362 -/
  | cmpRm8Ib (rm : RM) (imm : Byte)
  /-- 81 /7 iz, R362 -/
  | cmpRmIz (rm : RM) (imm : Word)
  /-- 83 /7 ibs, R362 -/
  | cmpRmIbs (rm : RM) (imm : Byte)
  /-- op /r, R363 -/
  | testRm8R8 (rm : RM) (reg : Reg)
  /-- op /r, R363 -/
  | testRmR (rm : RM) (reg : Reg)
  /-- op ib, R363 -/
  | testAlIb (imm : Byte)
  /-- op iz, R363 -/
  | testEaxIz (imm : Word)
  /-- F6 /0 ib, R363 -/
  | testRm8Ib (rm : RM) (imm : Byte)
  /-- F7 /0 iz, R363 -/
  | testRmIz (rm : RM) (imm : Word)
  /-- 40+r, R364 -/
  | incR (reg : Reg)
  /-- FE /0, R364 -/
  | incRm8 (rm : RM)
  /-- FF /0, R364 -/
  | incRm (rm : RM)
  /-- 48+r, R365 -/
  | decR (reg : Reg)
  /-- FE /1, R365 -/
  | decRm8 (rm : RM)
  /-- FF /1, R365 -/
  | decRm (rm : RM)
  /-- F6 /2, R366 -/
  | notRm8 (rm : RM)
  /-- F7 /2, R366 -/
  | notRm (rm : RM)
  /-- F6 /3, R367 -/
  | negRm8 (rm : RM)
  /-- F7 /3, R367 -/
  | negRm (rm : RM)
  /-- F6 /4, R368 -/
  | mulRm8 (rm : RM)
  /-- F7 /4, R368 -/
  | mulRm (rm : RM)
  /-- F6 /5, R369 -/
  | imulRm8 (rm : RM)
  /-- F7 /5, R369 -/
  | imulRm (rm : RM)
  /-- F6 /6, R372 -/
  | divRm8 (rm : RM)
  /-- F7 /6, R372 -/
  | divRm (rm : RM)
  /-- F6 /7, R373 -/
  | idivRm8 (rm : RM)
  /-- F7 /7, R373 -/
  | idivRm (rm : RM)
  /-- 0F op /r, R370 -/
  | imulRRm (rm : RM) (reg : Reg)
  /-- op /r iz, R371 -/
  | imulRRmIz (rm : RM) (reg : Reg) (imm : Word)
  /-- op /r ibs, R371 -/
  | imulRRmIbs (rm : RM) (reg : Reg) (imm : Byte)
  /-- C0 /0 ib, R424 -/
  | rolRm8Ib (rm : RM) (imm : Byte)
  /-- C1 /0 ib, R424 -/
  | rolRmIb (rm : RM) (imm : Byte)
  /-- D0 /0, R424 -/
  | rolRm8By1 (rm : RM)
  /-- D1 /0, R424 -/
  | rolRmBy1 (rm : RM)
  /-- D2 /0, R424 -/
  | rolRm8Cl (rm : RM)
  /-- D3 /0, R424 -/
  | rolRmCl (rm : RM)
  /-- C0 /1 ib, R425 -/
  | rorRm8Ib (rm : RM) (imm : Byte)
  /-- C1 /1 ib, R425 -/
  | rorRmIb (rm : RM) (imm : Byte)
  /-- D0 /1, R425 -/
  | rorRm8By1 (rm : RM)
  /-- D1 /1, R425 -/
  | rorRmBy1 (rm : RM)
  /-- D2 /1, R425 -/
  | rorRm8Cl (rm : RM)
  /-- D3 /1, R425 -/
  | rorRmCl (rm : RM)
  /-- C0 /2 ib, R426 -/
  | rclRm8Ib (rm : RM) (imm : Byte)
  /-- C1 /2 ib, R426 -/
  | rclRmIb (rm : RM) (imm : Byte)
  /-- D0 /2, R426 -/
  | rclRm8By1 (rm : RM)
  /-- D1 /2, R426 -/
  | rclRmBy1 (rm : RM)
  /-- D2 /2, R426 -/
  | rclRm8Cl (rm : RM)
  /-- D3 /2, R426 -/
  | rclRmCl (rm : RM)
  /-- C0 /3 ib, R427 -/
  | rcrRm8Ib (rm : RM) (imm : Byte)
  /-- C1 /3 ib, R427 -/
  | rcrRmIb (rm : RM) (imm : Byte)
  /-- D0 /3, R427 -/
  | rcrRm8By1 (rm : RM)
  /-- D1 /3, R427 -/
  | rcrRmBy1 (rm : RM)
  /-- D2 /3, R427 -/
  | rcrRm8Cl (rm : RM)
  /-- D3 /3, R427 -/
  | rcrRmCl (rm : RM)
  /-- C0 /4 ib, R428 -/
  | shlRm8Ib (rm : RM) (imm : Byte)
  /-- C1 /4 ib, R428 -/
  | shlRmIb (rm : RM) (imm : Byte)
  /-- D0 /4, R428 -/
  | shlRm8By1 (rm : RM)
  /-- D1 /4, R428 -/
  | shlRmBy1 (rm : RM)
  /-- D2 /4, R428 -/
  | shlRm8Cl (rm : RM)
  /-- D3 /4, R428 -/
  | shlRmCl (rm : RM)
  /-- C0 /5 ib, R429 -/
  | shrRm8Ib (rm : RM) (imm : Byte)
  /-- C1 /5 ib, R429 -/
  | shrRmIb (rm : RM) (imm : Byte)
  /-- D0 /5, R429 -/
  | shrRm8By1 (rm : RM)
  /-- D1 /5, R429 -/
  | shrRmBy1 (rm : RM)
  /-- D2 /5, R429 -/
  | shrRm8Cl (rm : RM)
  /-- D3 /5, R429 -/
  | shrRmCl (rm : RM)
  /-- C0 /7 ib, R430 -/
  | sarRm8Ib (rm : RM) (imm : Byte)
  /-- C1 /7 ib, R430 -/
  | sarRmIb (rm : RM) (imm : Byte)
  /-- D0 /7, R430 -/
  | sarRm8By1 (rm : RM)
  /-- D1 /7, R430 -/
  | sarRmBy1 (rm : RM)
  /-- D2 /7, R430 -/
  | sarRm8Cl (rm : RM)
  /-- D3 /7, R430 -/
  | sarRmCl (rm : RM)
  /-- 0F op /r ib, R431 -/
  | shldRmRIb (rm : RM) (reg : Reg) (imm : Byte)
  /-- 0F op /r, R431 -/
  | shldRmRCl (rm : RM) (reg : Reg)
  /-- 0F op /r ib, R432 -/
  | shrdRmRIb (rm : RM) (reg : Reg) (imm : Byte)
  /-- 0F op /r, R432 -/
  | shrdRmRCl (rm : RM) (reg : Reg)
  /-- 0F op /r, R464 -/
  | btRmR (rm : RM) (reg : Reg)
  /-- 0F BA /4 ib, R464 -/
  | btRmIb (rm : RM) (imm : Byte)
  /-- 0F op /r, R465 -/
  | btsRmR (rm : RM) (reg : Reg)
  /-- 0F BA /5 ib, R465 -/
  | btsRmIb (rm : RM) (imm : Byte)
  /-- 0F op /r, R466 -/
  | btrRmR (rm : RM) (reg : Reg)
  /-- 0F BA /6 ib, R466 -/
  | btrRmIb (rm : RM) (imm : Byte)
  /-- 0F op /r, R467 -/
  | btcRmR (rm : RM) (reg : Reg)
  /-- 0F BA /7 ib, R467 -/
  | btcRmIb (rm : RM) (imm : Byte)
  /-- 0F op /r, R468 -/
  | bsfRRm (rm : RM) (reg : Reg)
  /-- 0F op /r, R469 -/
  | bsrRRm (rm : RM) (reg : Reg)
  /-- 0F C8+r, R470 -/
  | bswapR32 (reg : Reg)
  /-- 0F op /r, R522 -/
  | cmpxchgRm8R8 (rm : RM) (reg : Reg)
  /-- 0F op /r, R522 -/
  | cmpxchgRmR (rm : RM) (reg : Reg)
  /-- 0F op /r, R523 -/
  | xaddRm8R8 (rm : RM) (reg : Reg)
  /-- 0F op /r, R523 -/
  | xaddRmR (rm : RM) (reg : Reg)
  /-- 0F C7 /1, R524 -/
  | cmpxchg8bM64 (m : Mem)
  /-- op /r, R305 -/
  | movRm8R8 (rm : RM) (reg : Reg)
  /-- op /r, R305 -/
  | movRmR (rm : RM) (reg : Reg)
  /-- op /r, R305 -/
  | movR8Rm8 (rm : RM) (reg : Reg)
  /-- op /r, R305 -/
  | movRRm (rm : RM) (reg : Reg)
  /-- C6 /0 ib, R306 -/
  | movRm8Ib (rm : RM) (imm : Byte)
  /-- C7 /0 iz, R306 -/
  | movRmIz (rm : RM) (imm : Word)
  /-- B0+r ib, R307 -/
  | movR8Ib (reg : Reg) (imm : Byte)
  /-- B8+r iz, R307 -/
  | movRIz (reg : Reg) (imm : Word)
  /-- op moffs, R308 -/
  | movAlMoffs (off : Word)
  /-- op moffs, R308 -/
  | movEaxMoffs (off : Word)
  /-- op moffs, R308 -/
  | movMoffsAl (off : Word)
  /-- op moffs, R308 -/
  | movMoffsEax (off : Word)
  /-- op /r, R309 -/
  | xchgRm8R8 (rm : RM) (reg : Reg)
  /-- op /r, R309 -/
  | xchgRmR (rm : RM) (reg : Reg)
  /-- 90+r, R309 -/
  | xchgEaxR (reg : Reg)
  /-- op /r, R311 -/
  | leaRM (m : Mem) (reg : Reg)
  /-- 0F op /r, R312 -/
  | movzxRRm8 (rm : RM) (reg : Reg)
  /-- 0F op /r, R312 -/
  | movzxRRm16 (rm : RM) (reg : Reg)
  /-- 0F op /r, R313 -/
  | movsxRRm8 (rm : RM) (reg : Reg)
  /-- 0F op /r, R313 -/
  | movsxRRm16 (rm : RM) (reg : Reg)
  /-- 50+r, R316 -/
  | pushR (reg : Reg)
  /-- 58+r, R317 -/
  | popR (reg : Reg)
  /-- op iz, R318 -/
  | pushIz (imm : Word)
  /-- op ibs, R318 -/
  | pushIbs (imm : Byte)
  /-- FF /6, R319 -/
  | pushRm (rm : RM)
  /-- 8F /0, R320 -/
  | popRm (rm : RM)
  /-- 70+cc rel8, R553 -/
  | jccRel8 (cc : Cond) (rel : Byte)
  /-- 0F 80+cc relz, R554 -/
  | jccRelz (cc : Cond) (rel : Word)
  /-- op rel8, R555 -/
  | jmpRel8 (rel : Byte)
  /-- op relz, R555 -/
  | jmpRelz (rel : Word)
  /-- op rel8, R556 -/
  | loopRel8 (rel : Byte)
  /-- op rel8, R557 -/
  | loopeRel8 (rel : Byte)
  /-- op rel8, R558 -/
  | loopneRel8 (rel : Byte)
  /-- op rel8, R559 -/
  | jcxzRel8 (rel : Byte)
  /-- FF /4, R560 -/
  | jmpRm (rm : RM)
  /-- op relz, R561 -/
  | callRelz (rel : Word)
  /-- FF /2, R562 -/
  | callRm (rm : RM)
  /-- op iw, R563 -/
  | retIw (imm : BitVec 16)
  /-- op ptr, R564 -/
  | jmpPtr (off : Word) (sel : Sel)
  /-- FF /5, R565 -/
  | jmpMemFar (m : Mem)
  /-- op ptr, R566 -/
  | callPtr (off : Word) (sel : Sel)
  /-- FF /3, R567 -/
  | callMemFar (m : Mem)
  /-- op iw, R568 -/
  | retfIw (imm : BitVec 16)
  /-- op ib, R570 -/
  | intIb (imm : Byte)
  /-- 0F 90+cc /r, R623 -/
  | setccRm8 (cc : Cond) (rm : RM)
  /-- op /r, R643 -/
  | movSregRm16 (rm : RM) (sreg : SegReg)
  /-- op /r, R644 -/
  | movRm16Sreg (rm : RM) (sreg : SegReg)
  /-- op /r, R647 -/
  | ldsRMemFar (m : Mem) (reg : Reg)
  /-- op /r, R647 -/
  | lesRMemFar (m : Mem) (reg : Reg)
  /-- 0F op /r, R647 -/
  | lssRMemFar (m : Mem) (reg : Reg)
  /-- 0F op /r, R647 -/
  | lfsRMemFar (m : Mem) (reg : Reg)
  /-- 0F op /r, R647 -/
  | lgsRMemFar (m : Mem) (reg : Reg)
  /-- 0F 22 /r (reg = CR number, mod ignored), R670 -/
  | movCr0R32 (reg : Reg)
  /-- 0F 22 /r (reg = CR number, mod ignored), R672 -/
  | movCr2R32 (reg : Reg)
  /-- 0F 22 /r (reg = CR number, mod ignored), R671 -/
  | movCr3R32 (reg : Reg)
  /-- 0F 20 /r (reg = CR number, mod ignored), R673 -/
  | movR32Cr0 (reg : Reg)
  /-- 0F 20 /r (reg = CR number, mod ignored), R673 -/
  | movR32Cr2 (reg : Reg)
  /-- 0F 20 /r (reg = CR number, mod ignored), R673 -/
  | movR32Cr3 (reg : Reg)
  /-- 0F 01 /4, R677 -/
  | smswRm16 (rm : RM)
  /-- 0F 01 /6, R675 -/
  | lmswRm16 (rm : RM)
  /-- 0F 01 /7, R676 -/
  | invlpgM (m : Mem)
  /-- op, R497 -/
  | movsb
  /-- op, R497 -/
  | movsw
  /-- op, R498 -/
  | cmpsb
  /-- op, R498 -/
  | cmpsw
  /-- op, R499 -/
  | stosb
  /-- op, R499 -/
  | stosw
  /-- op, R500 -/
  | lodsb
  /-- op, R500 -/
  | lodsw
  /-- op, R501 -/
  | scasb
  /-- op, R501 -/
  | scasw
  /-- op, R310 -/
  | nop
  /-- op, R314 -/
  | cbw
  /-- op, R315 -/
  | cwd
  /-- op, R321 -/
  | pusha
  /-- op, R322 -/
  | popa
  /-- op, R323 -/
  | xlat
  /-- op, R324 -/
  | leave
  /-- op, R563 -/
  | ret
  /-- op, R568 -/
  | retf
  /-- op, R569 -/
  | iret
  /-- op, R570 -/
  | int3
  /-- op, R571 -/
  | into
  /-- op, R616 -/
  | pushf
  /-- op, R617 -/
  | popf
  /-- op, R618 -/
  | sahf
  /-- op, R619 -/
  | lahf
  /-- op, R620 -/
  | clc
  /-- op, R620 -/
  | stc
  /-- op, R620 -/
  | cmc
  /-- op, R621 -/
  | cld
  /-- op, R621 -/
  | std
  /-- op, R622 -/
  | cli
  /-- op, R622 -/
  | sti
  /-- op, R645 -/
  | pushEs
  /-- op, R645 -/
  | pushCs
  /-- op, R645 -/
  | pushSs
  /-- op, R645 -/
  | pushDs
  /-- 0F op, R645 -/
  | pushFs
  /-- 0F op, R645 -/
  | pushGs
  /-- op, R646 -/
  | popEs
  /-- op, R646 -/
  | popSs
  /-- op, R646 -/
  | popDs
  /-- 0F op, R646 -/
  | popFs
  /-- 0F op, R646 -/
  | popGs
  /-- 0F op, R678 -/
  | clts
  /-- 0F op, R679 -/
  | invd
  /-- 0F op, R679 -/
  | wbinvd
  /-- op, R680 -/
  | hlt
  /-- 0F op, R681 -/
  | ud2
  deriving DecidableEq, Repr

end Sys2Proof
end

