-- ==== Sys2Proof/WellFormed.lean ====
section
/-! DEFINITION. Which terms of `Instr` an encoding can produce: operand forms the ModRM and SIB bytes have (spec/30_encoding.md R212 to
R214), immediates of the width the sizes give (R215), and the register fields the table admits (R231, R238). -/

namespace Sys2Proof

/-- A value of opsize or addrsize fits it: at 16 bits the upper half is 0 (R215). -/
def fitsSize (sz : Size) (v : Word) : Bool :=
  match sz with
  | .w16 => v.extractLsb' 16 16 == 0#16
  | .w32 => true

/-- The ModRM and SIB bytes have a form for this operand at this address size: mod 0 has no BP, EBP or ESP base without a displacement,
ESP is a base only through SIB, and ESP is no index (R212 to R214). -/
def Mem.wellFormed (asz : Size) : Mem → Bool
  | .based16 b d => asz == .w16 && !(b == .bp && d == .none)
  | .abs16 _ => asz == .w16
  | .based32 b d => asz == .w32 && b != .esp && !(b == .ebp && d == .none)
  | .abs32 _ => asz == .w32
  | .sib _ index b d => asz == .w32 && index != some .esp && !(b == .ebp && d == .none)
  | .sibAbs _ index _ => asz == .w32 && index != some .esp

/-- A register operand always has an encoding (R211); a memory operand needs one. -/
def RM.wellFormed (asz : Size) : RM → Bool
  | .reg _ => true
  | .mem m => m.wellFormed asz

/-- The instruction is the reading of some encoding under these effective sizes. -/
def Instr.wellFormed (osz asz : Size) : Instr → Bool
  | .addRm8R8 rm _ => rm.wellFormed asz
  | .addRmR rm _ => rm.wellFormed asz
  | .addR8Rm8 rm _ => rm.wellFormed asz
  | .addRRm rm _ => rm.wellFormed asz
  | .addAlIb _ => true
  | .addEaxIz imm => fitsSize osz imm
  | .addRm8Ib rm _ => rm.wellFormed asz
  | .addRmIz rm imm => rm.wellFormed asz && fitsSize osz imm
  | .addRmIbs rm _ => rm.wellFormed asz
  | .orRm8R8 rm _ => rm.wellFormed asz
  | .orRmR rm _ => rm.wellFormed asz
  | .orR8Rm8 rm _ => rm.wellFormed asz
  | .orRRm rm _ => rm.wellFormed asz
  | .orAlIb _ => true
  | .orEaxIz imm => fitsSize osz imm
  | .orRm8Ib rm _ => rm.wellFormed asz
  | .orRmIz rm imm => rm.wellFormed asz && fitsSize osz imm
  | .orRmIbs rm _ => rm.wellFormed asz
  | .adcRm8R8 rm _ => rm.wellFormed asz
  | .adcRmR rm _ => rm.wellFormed asz
  | .adcR8Rm8 rm _ => rm.wellFormed asz
  | .adcRRm rm _ => rm.wellFormed asz
  | .adcAlIb _ => true
  | .adcEaxIz imm => fitsSize osz imm
  | .adcRm8Ib rm _ => rm.wellFormed asz
  | .adcRmIz rm imm => rm.wellFormed asz && fitsSize osz imm
  | .adcRmIbs rm _ => rm.wellFormed asz
  | .sbbRm8R8 rm _ => rm.wellFormed asz
  | .sbbRmR rm _ => rm.wellFormed asz
  | .sbbR8Rm8 rm _ => rm.wellFormed asz
  | .sbbRRm rm _ => rm.wellFormed asz
  | .sbbAlIb _ => true
  | .sbbEaxIz imm => fitsSize osz imm
  | .sbbRm8Ib rm _ => rm.wellFormed asz
  | .sbbRmIz rm imm => rm.wellFormed asz && fitsSize osz imm
  | .sbbRmIbs rm _ => rm.wellFormed asz
  | .andRm8R8 rm _ => rm.wellFormed asz
  | .andRmR rm _ => rm.wellFormed asz
  | .andR8Rm8 rm _ => rm.wellFormed asz
  | .andRRm rm _ => rm.wellFormed asz
  | .andAlIb _ => true
  | .andEaxIz imm => fitsSize osz imm
  | .andRm8Ib rm _ => rm.wellFormed asz
  | .andRmIz rm imm => rm.wellFormed asz && fitsSize osz imm
  | .andRmIbs rm _ => rm.wellFormed asz
  | .subRm8R8 rm _ => rm.wellFormed asz
  | .subRmR rm _ => rm.wellFormed asz
  | .subR8Rm8 rm _ => rm.wellFormed asz
  | .subRRm rm _ => rm.wellFormed asz
  | .subAlIb _ => true
  | .subEaxIz imm => fitsSize osz imm
  | .subRm8Ib rm _ => rm.wellFormed asz
  | .subRmIz rm imm => rm.wellFormed asz && fitsSize osz imm
  | .subRmIbs rm _ => rm.wellFormed asz
  | .xorRm8R8 rm _ => rm.wellFormed asz
  | .xorRmR rm _ => rm.wellFormed asz
  | .xorR8Rm8 rm _ => rm.wellFormed asz
  | .xorRRm rm _ => rm.wellFormed asz
  | .xorAlIb _ => true
  | .xorEaxIz imm => fitsSize osz imm
  | .xorRm8Ib rm _ => rm.wellFormed asz
  | .xorRmIz rm imm => rm.wellFormed asz && fitsSize osz imm
  | .xorRmIbs rm _ => rm.wellFormed asz
  | .cmpRm8R8 rm _ => rm.wellFormed asz
  | .cmpRmR rm _ => rm.wellFormed asz
  | .cmpR8Rm8 rm _ => rm.wellFormed asz
  | .cmpRRm rm _ => rm.wellFormed asz
  | .cmpAlIb _ => true
  | .cmpEaxIz imm => fitsSize osz imm
  | .cmpRm8Ib rm _ => rm.wellFormed asz
  | .cmpRmIz rm imm => rm.wellFormed asz && fitsSize osz imm
  | .cmpRmIbs rm _ => rm.wellFormed asz
  | .testRm8R8 rm _ => rm.wellFormed asz
  | .testRmR rm _ => rm.wellFormed asz
  | .testAlIb _ => true
  | .testEaxIz imm => fitsSize osz imm
  | .testRm8Ib rm _ => rm.wellFormed asz
  | .testRmIz rm imm => rm.wellFormed asz && fitsSize osz imm
  | .incR _ => true
  | .incRm8 rm => rm.wellFormed asz
  | .incRm rm => rm.wellFormed asz
  | .decR _ => true
  | .decRm8 rm => rm.wellFormed asz
  | .decRm rm => rm.wellFormed asz
  | .notRm8 rm => rm.wellFormed asz
  | .notRm rm => rm.wellFormed asz
  | .negRm8 rm => rm.wellFormed asz
  | .negRm rm => rm.wellFormed asz
  | .mulRm8 rm => rm.wellFormed asz
  | .mulRm rm => rm.wellFormed asz
  | .imulRm8 rm => rm.wellFormed asz
  | .imulRm rm => rm.wellFormed asz
  | .divRm8 rm => rm.wellFormed asz
  | .divRm rm => rm.wellFormed asz
  | .idivRm8 rm => rm.wellFormed asz
  | .idivRm rm => rm.wellFormed asz
  | .imulRRm rm _ => rm.wellFormed asz
  | .imulRRmIz rm _ imm => rm.wellFormed asz && fitsSize osz imm
  | .imulRRmIbs rm _ _ => rm.wellFormed asz
  | .rolRm8Ib rm _ => rm.wellFormed asz
  | .rolRmIb rm _ => rm.wellFormed asz
  | .rolRm8By1 rm => rm.wellFormed asz
  | .rolRmBy1 rm => rm.wellFormed asz
  | .rolRm8Cl rm => rm.wellFormed asz
  | .rolRmCl rm => rm.wellFormed asz
  | .rorRm8Ib rm _ => rm.wellFormed asz
  | .rorRmIb rm _ => rm.wellFormed asz
  | .rorRm8By1 rm => rm.wellFormed asz
  | .rorRmBy1 rm => rm.wellFormed asz
  | .rorRm8Cl rm => rm.wellFormed asz
  | .rorRmCl rm => rm.wellFormed asz
  | .rclRm8Ib rm _ => rm.wellFormed asz
  | .rclRmIb rm _ => rm.wellFormed asz
  | .rclRm8By1 rm => rm.wellFormed asz
  | .rclRmBy1 rm => rm.wellFormed asz
  | .rclRm8Cl rm => rm.wellFormed asz
  | .rclRmCl rm => rm.wellFormed asz
  | .rcrRm8Ib rm _ => rm.wellFormed asz
  | .rcrRmIb rm _ => rm.wellFormed asz
  | .rcrRm8By1 rm => rm.wellFormed asz
  | .rcrRmBy1 rm => rm.wellFormed asz
  | .rcrRm8Cl rm => rm.wellFormed asz
  | .rcrRmCl rm => rm.wellFormed asz
  | .shlRm8Ib rm _ => rm.wellFormed asz
  | .shlRmIb rm _ => rm.wellFormed asz
  | .shlRm8By1 rm => rm.wellFormed asz
  | .shlRmBy1 rm => rm.wellFormed asz
  | .shlRm8Cl rm => rm.wellFormed asz
  | .shlRmCl rm => rm.wellFormed asz
  | .shrRm8Ib rm _ => rm.wellFormed asz
  | .shrRmIb rm _ => rm.wellFormed asz
  | .shrRm8By1 rm => rm.wellFormed asz
  | .shrRmBy1 rm => rm.wellFormed asz
  | .shrRm8Cl rm => rm.wellFormed asz
  | .shrRmCl rm => rm.wellFormed asz
  | .sarRm8Ib rm _ => rm.wellFormed asz
  | .sarRmIb rm _ => rm.wellFormed asz
  | .sarRm8By1 rm => rm.wellFormed asz
  | .sarRmBy1 rm => rm.wellFormed asz
  | .sarRm8Cl rm => rm.wellFormed asz
  | .sarRmCl rm => rm.wellFormed asz
  | .shldRmRIb rm _ _ => rm.wellFormed asz
  | .shldRmRCl rm _ => rm.wellFormed asz
  | .shrdRmRIb rm _ _ => rm.wellFormed asz
  | .shrdRmRCl rm _ => rm.wellFormed asz
  | .btRmR rm _ => rm.wellFormed asz
  | .btRmIb rm _ => rm.wellFormed asz
  | .btsRmR rm _ => rm.wellFormed asz
  | .btsRmIb rm _ => rm.wellFormed asz
  | .btrRmR rm _ => rm.wellFormed asz
  | .btrRmIb rm _ => rm.wellFormed asz
  | .btcRmR rm _ => rm.wellFormed asz
  | .btcRmIb rm _ => rm.wellFormed asz
  | .bsfRRm rm _ => rm.wellFormed asz
  | .bsrRRm rm _ => rm.wellFormed asz
  | .bswapR32 _ => true
  | .movsb => true
  | .movsw => true
  | .cmpsb => true
  | .cmpsw => true
  | .stosb => true
  | .stosw => true
  | .lodsb => true
  | .lodsw => true
  | .scasb => true
  | .scasw => true
  | .cmpxchgRm8R8 rm _ => rm.wellFormed asz
  | .cmpxchgRmR rm _ => rm.wellFormed asz
  | .xaddRm8R8 rm _ => rm.wellFormed asz
  | .xaddRmR rm _ => rm.wellFormed asz
  | .cmpxchg8bM64 m => m.wellFormed asz
  | .movRm8R8 rm _ => rm.wellFormed asz
  | .movRmR rm _ => rm.wellFormed asz
  | .movR8Rm8 rm _ => rm.wellFormed asz
  | .movRRm rm _ => rm.wellFormed asz
  | .movRm8Ib rm _ => rm.wellFormed asz
  | .movRmIz rm imm => rm.wellFormed asz && fitsSize osz imm
  | .movR8Ib _ _ => true
  | .movRIz _ imm => fitsSize osz imm
  | .movAlMoffs off => fitsSize asz off
  | .movEaxMoffs off => fitsSize asz off
  | .movMoffsAl off => fitsSize asz off
  | .movMoffsEax off => fitsSize asz off
  | .xchgRm8R8 rm _ => rm.wellFormed asz
  | .xchgRmR rm _ => rm.wellFormed asz
  | .xchgEaxR reg => reg != .eax
  | .nop => true
  | .leaRM m _ => m.wellFormed asz
  | .movzxRRm8 rm _ => rm.wellFormed asz
  | .movzxRRm16 rm _ => rm.wellFormed asz
  | .movsxRRm8 rm _ => rm.wellFormed asz
  | .movsxRRm16 rm _ => rm.wellFormed asz
  | .cbw => true
  | .cwd => true
  | .pushR _ => true
  | .popR _ => true
  | .pushIz imm => fitsSize osz imm
  | .pushIbs _ => true
  | .pushRm rm => rm.wellFormed asz
  | .popRm rm => rm.wellFormed asz
  | .pusha => true
  | .popa => true
  | .xlat => true
  | .leave => true
  | .jccRel8 _ _ => true
  | .jccRelz _ rel => fitsSize osz rel
  | .jmpRel8 _ => true
  | .jmpRelz rel => fitsSize osz rel
  | .loopRel8 _ => true
  | .loopeRel8 _ => true
  | .loopneRel8 _ => true
  | .jcxzRel8 _ => true
  | .jmpRm rm => rm.wellFormed asz
  | .callRelz rel => fitsSize osz rel
  | .callRm rm => rm.wellFormed asz
  | .ret => true
  | .retIw _ => true
  | .jmpPtr off _ => fitsSize osz off
  | .jmpMemFar m => m.wellFormed asz
  | .callPtr off _ => fitsSize osz off
  | .callMemFar m => m.wellFormed asz
  | .retf => true
  | .retfIw _ => true
  | .iret => true
  | .intIb _ => true
  | .int3 => true
  | .into => true
  | .pushf => true
  | .popf => true
  | .sahf => true
  | .lahf => true
  | .clc => true
  | .stc => true
  | .cmc => true
  | .cld => true
  | .std => true
  | .cli => true
  | .sti => true
  | .setccRm8 _ rm => rm.wellFormed asz
  | .movSregRm16 rm sreg => rm.wellFormed asz && sreg != .cs
  | .movRm16Sreg rm _ => rm.wellFormed asz
  | .pushEs => true
  | .pushCs => true
  | .pushSs => true
  | .pushDs => true
  | .pushFs => true
  | .pushGs => true
  | .popEs => true
  | .popSs => true
  | .popDs => true
  | .popFs => true
  | .popGs => true
  | .ldsRMemFar m _ => m.wellFormed asz
  | .lesRMemFar m _ => m.wellFormed asz
  | .lssRMemFar m _ => m.wellFormed asz
  | .lfsRMemFar m _ => m.wellFormed asz
  | .lgsRMemFar m _ => m.wellFormed asz
  | .movCr0R32 _ => true
  | .movCr2R32 _ => true
  | .movCr3R32 _ => true
  | .movR32Cr0 _ => true
  | .movR32Cr2 _ => true
  | .movR32Cr3 _ => true
  | .smswRm16 rm => rm.wellFormed asz
  | .lmswRm16 rm => rm.wellFormed asz
  | .invlpgM m => m.wellFormed asz
  | .clts => true
  | .invd => true
  | .wbinvd => true
  | .hlt => true
  | .ud2 => true

end Sys2Proof
end

