-- ==== Sys2Proof/Decode.lean ====
section
/-! DEFINITION. The decoder (spec/30_encoding.md), total on any bytes, and after it the encoder.

A decoder is a tree that asks for one byte at a time (`Dec`), so that the same decoder reads a list of bytes (`Dec.run`) and the bytes the
machine fetches (Machine/Fetch.lean), and a fault of a later byte's fetch never hides a decision an earlier byte settles (R200, R702). -/

namespace Sys2Proof

/-- Where the decoder saw that a byte sequence is refused (R27, R232): the opcode byte, the byte after 0F, or the ModRM reg field. -/
inductive DecodeStage where
  | opcode
  | escaped
  | group
  deriving DecidableEq, Repr

/-- What the decoder reads. -/
inductive Decoded where
  /-- An admitted instruction, with what its prefixes select. -/
  | instr (p : Pfx) (i : Instr)
  /-- An encoding that raises #UD (R230, R231). -/
  | undefined
  /-- A refused encoding (R232). -/
  | refused (stage : DecodeStage)
  /-- The instruction would need a 16th byte (R204). -/
  | tooLong
  /-- The list of bytes ended within the instruction: never the outcome of a fetch, which always has a next byte or faults. -/
  | truncated
  deriving DecidableEq, Repr

/-- A decoder: an outcome, or a request for the next instruction byte. -/
inductive Dec where
  | done (r : Decoded)
  | byte (k : Byte → Dec)

/-- Run a decoder over a list of bytes, reading at most the given number of them (R204); the rest of the list is returned. -/
def Dec.run : Nat → Dec → List Byte → Decoded × List Byte
  | _, .done r, bs => (r, bs)
  | 0, .byte _, bs => (.tooLong, bs)
  | _ + 1, .byte _, [] => (.truncated, [])
  | n + 1, .byte k, b :: bs => Dec.run n (k b) bs

/-- The register with an encoding number (spec/10_state.md R31). -/
def Reg.ofNum (n : BitVec 3) : Reg :=
  match n.toNat with
  | 0 => .eax
  | 1 => .ecx
  | 2 => .edx
  | 3 => .ebx
  | 4 => .esp
  | 5 => .ebp
  | 6 => .esi
  | _ => .edi

/-- The encoding number of a register (R31). -/
def Reg.num : Reg → BitVec 3
  | .eax => 0
  | .ecx => 1
  | .edx => 2
  | .ebx => 3
  | .esp => 4
  | .ebp => 5
  | .esi => 6
  | .edi => 7

/-- The segment register with a number; 6 and 7 name none (R41). -/
def SegReg.ofNum (n : BitVec 3) : Option SegReg :=
  match n.toNat with
  | 0 => some .es
  | 1 => some .cs
  | 2 => some .ss
  | 3 => some .ds
  | 4 => some .fs
  | 5 => some .gs
  | _ => none

/-- The number of a segment register (R41). -/
def SegReg.num : SegReg → BitVec 3
  | .es => 0
  | .cs => 1
  | .ss => 2
  | .ds => 3
  | .fs => 4
  | .gs => 5

/-- The code `cc` of a condition (spec/30_encoding.md R224). -/
def Cond.num : Cond → BitVec 4
  | .o => 0
  | .no => 1
  | .b => 2
  | .ae => 3
  | .e => 4
  | .ne => 5
  | .be => 6
  | .a => 7
  | .s => 8
  | .ns => 9
  | .p => 10
  | .np => 11
  | .l => 12
  | .ge => 13
  | .le => 14
  | .g => 15

/-- The base of a 16-bit form with number rm (R212). -/
def Base16.ofNum (n : BitVec 3) : Base16 :=
  match n.toNat with
  | 0 => .bxSi
  | 1 => .bxDi
  | 2 => .bpSi
  | 3 => .bpDi
  | 4 => .si
  | 5 => .di
  | 6 => .bp
  | _ => .bx

/-- The rm number of a 16-bit base (R212). -/
def Base16.num : Base16 → BitVec 3
  | .bxSi => 0
  | .bxDi => 1
  | .bpSi => 2
  | .bpDi => 3
  | .si => 4
  | .di => 5
  | .bp => 6
  | .bx => 7

/-- The size a default and an override select (R207). -/
def sizeOf (big ovr : Bool) : Size :=
  if big ^^ ovr then .w32 else .w16

/-- The effective prefixes, with `D` = `big` (R207). -/
def Pfx.of (big : Bool) (q : Prefixes) : Pfx :=
  { seg := q.seg, osz := sizeOf big q.opsizeOvr, asz := sizeOf big q.addrsizeOvr, lock := q.lock, rep := q.rep }

/-- The prefix state that gives effective prefixes under `D` = `big` (R207). -/
def Pfx.raw (big : Bool) (p : Pfx) : Prefixes :=
  { seg := p.seg, opsizeOvr := p.osz != sizeOf big false, addrsizeOvr := p.asz != sizeOf big false, lock := p.lock, rep := p.rep }

/-- Fold a prefix byte into the prefix state; `none` when the byte is no prefix (R206). -/
def Prefixes.fold (q : Prefixes) (b : Byte) : Option Prefixes :=
  match b.toNat with
  | 0x26 => some { q with seg := some .es }
  | 0x2E => some { q with seg := some .cs }
  | 0x36 => some { q with seg := some .ss }
  | 0x3E => some { q with seg := some .ds }
  | 0x64 => some { q with seg := some .fs }
  | 0x65 => some { q with seg := some .gs }
  | 0x66 => some { q with opsizeOvr := true }
  | 0x67 => some { q with addrsizeOvr := true }
  | 0xF0 => some { q with lock := true }
  | 0xF2 => some { q with rep := .repne }
  | 0xF3 => some { q with rep := .repe }
  | _ => none

/-- The decoder's outcomes as decoders. -/
def decOk (p : Pfx) (i : Instr) : Dec := .done (.instr p i)

/-- An encoding of the #UD list (R230, R231). -/
def decUndefined : Dec := .done .undefined

/-- A refused encoding (R232). -/
def decRefused (stage : DecodeStage) : Dec := .done (.refused stage)

/-- One immediate byte: ib, ibs, rel8 (R215). -/
def decByte (k : Byte → Dec) : Dec := .byte k

/-- Two bytes, little-endian: iw, d16, a selector (R215). -/
def decWord16 (k : BitVec 16 → Dec) : Dec :=
  .byte fun b0 => .byte fun b1 => k (b1 ++ b0)

/-- Four bytes, little-endian (R215). -/
def decWord32 (k : Word → Dec) : Dec :=
  .byte fun b0 => .byte fun b1 => .byte fun b2 => .byte fun b3 => k (b3 ++ b2 ++ b1 ++ b0)

/-- A field of 2 or 4 bytes by size, held in 32 bits: iz, relz, moffs, the offset of ptr (R215). -/
def decSized (sz : Size) (k : Word → Dec) : Dec :=
  match sz with
  | .w16 => decWord16 fun v => k (v.setWidth 32)
  | .w32 => decWord32 k

/-- The ModRM byte's fields mod, reg and rm (R210). -/
def decModrm (k : BitVec 2 → BitVec 3 → BitVec 3 → Dec) : Dec :=
  .byte fun b => k (b.extractLsb' 6 2) (b.extractLsb' 3 3) (b.extractLsb' 0 3)

/-- The displacement mod calls for, with 16-bit addressing (R212). -/
def decDisp16 (mod : BitVec 2) (k : Disp 16 → Dec) : Dec :=
  match mod.toNat with
  | 0 => k .none
  | 1 => .byte fun d => k (.d8 d)
  | _ => decWord16 fun d => k (.full d)

/-- The displacement mod calls for, with 32-bit addressing (R213). -/
def decDisp32 (mod : BitVec 2) (k : Disp 32 → Dec) : Dec :=
  match mod.toNat with
  | 0 => k .none
  | 1 => .byte fun d => k (.d8 d)
  | _ => decWord32 fun d => k (.full d)

/-- The index of a SIB byte: none for 4 (R214). -/
def sibIndex (n : BitVec 3) : Option Reg :=
  if n = 4#3 then none else some (Reg.ofNum n)

/-- The SIB byte and the displacement after it (R214). -/
def decSib (mod : BitVec 2) (k : Mem → Dec) : Dec :=
  .byte fun b =>
    let scale := b.extractLsb' 6 2
    let index := sibIndex (b.extractLsb' 3 3)
    let base := b.extractLsb' 0 3
    if base = 5#3 ∧ mod = 0#2 then decWord32 fun d => k (.sibAbs scale index d)
    else decDisp32 mod fun d => k (.sib scale index (Reg.ofNum base) d)

/-- The SIB byte and displacement of a memory form, mod ≠ 3 (R212 to R214). -/
def decMem (asz : Size) (mod : BitVec 2) (rm : BitVec 3) (k : Mem → Dec) : Dec :=
  match asz with
  | .w16 =>
    if mod = 0#2 ∧ rm = 6#3 then decWord16 fun d => k (.abs16 d)
    else decDisp16 mod fun d => k (.based16 (Base16.ofNum rm) d)
  | .w32 =>
    if rm = 4#3 then decSib mod k
    else if mod = 0#2 ∧ rm = 5#3 then decWord32 fun d => k (.abs32 d)
    else decDisp32 mod fun d => k (.based32 (Reg.ofNum rm) d)

/-- A register operand for mod = 3, else a memory operand (R211). -/
def decRM (asz : Size) (mod : BitVec 2) (rm : BitVec 3) (k : RM → Dec) : Dec :=
  if mod = 3#2 then k (.reg (Reg.ofNum rm)) else decMem asz mod rm fun m => k (.mem m)

/-- An operand that must be memory: mod = 3 is #UD (R230). -/
def decMemOnly (asz : Size) (mod : BitVec 2) (rm : BitVec 3) (k : Mem → Dec) : Dec :=
  if mod = 3#2 then decUndefined else decMem asz mod rm k

/-- A segment register field: 6 and 7 are #UD (R231). -/
def decSreg (reg : BitVec 3) (k : SegReg → Dec) : Dec :=
  match SegReg.ofNum reg with
  | some sreg => k sreg
  | none => decUndefined

/-- The dispatch table's index (R219). -/
def dispatchIndex (osz : Size) (escaped : Bool) (op : Byte) : Nat :=
  (if osz = .w32 then 0x200 else 0) + (if escaped then 0x100 else 0) + op.toNat

/-- Opcode 80: the nested table of its ModRM reg field (R220, R230, R232). -/
def decGroup80 (p : Pfx) : Dec :=
  decModrm fun mod reg rm => match reg.toNat with
  | 0 => decRM p.asz mod rm fun o => decByte fun imm => decOk p (.addRm8Ib o imm)
  | 1 => decRM p.asz mod rm fun o => decByte fun imm => decOk p (.orRm8Ib o imm)
  | 2 => decRM p.asz mod rm fun o => decByte fun imm => decOk p (.adcRm8Ib o imm)
  | 3 => decRM p.asz mod rm fun o => decByte fun imm => decOk p (.sbbRm8Ib o imm)
  | 4 => decRM p.asz mod rm fun o => decByte fun imm => decOk p (.andRm8Ib o imm)
  | 5 => decRM p.asz mod rm fun o => decByte fun imm => decOk p (.subRm8Ib o imm)
  | 6 => decRM p.asz mod rm fun o => decByte fun imm => decOk p (.xorRm8Ib o imm)
  | 7 => decRM p.asz mod rm fun o => decByte fun imm => decOk p (.cmpRm8Ib o imm)
  | _ => decUndefined

/-- Opcode 81: the nested table of its ModRM reg field (R220, R230, R232). -/
def decGroup81 (p : Pfx) : Dec :=
  decModrm fun mod reg rm => match reg.toNat with
  | 0 => decRM p.asz mod rm fun o => decSized p.osz fun imm => decOk p (.addRmIz o imm)
  | 1 => decRM p.asz mod rm fun o => decSized p.osz fun imm => decOk p (.orRmIz o imm)
  | 2 => decRM p.asz mod rm fun o => decSized p.osz fun imm => decOk p (.adcRmIz o imm)
  | 3 => decRM p.asz mod rm fun o => decSized p.osz fun imm => decOk p (.sbbRmIz o imm)
  | 4 => decRM p.asz mod rm fun o => decSized p.osz fun imm => decOk p (.andRmIz o imm)
  | 5 => decRM p.asz mod rm fun o => decSized p.osz fun imm => decOk p (.subRmIz o imm)
  | 6 => decRM p.asz mod rm fun o => decSized p.osz fun imm => decOk p (.xorRmIz o imm)
  | 7 => decRM p.asz mod rm fun o => decSized p.osz fun imm => decOk p (.cmpRmIz o imm)
  | _ => decUndefined

/-- Opcode 83: the nested table of its ModRM reg field (R220, R230, R232). -/
def decGroup83 (p : Pfx) : Dec :=
  decModrm fun mod reg rm => match reg.toNat with
  | 0 => decRM p.asz mod rm fun o => decByte fun imm => decOk p (.addRmIbs o imm)
  | 1 => decRM p.asz mod rm fun o => decByte fun imm => decOk p (.orRmIbs o imm)
  | 2 => decRM p.asz mod rm fun o => decByte fun imm => decOk p (.adcRmIbs o imm)
  | 3 => decRM p.asz mod rm fun o => decByte fun imm => decOk p (.sbbRmIbs o imm)
  | 4 => decRM p.asz mod rm fun o => decByte fun imm => decOk p (.andRmIbs o imm)
  | 5 => decRM p.asz mod rm fun o => decByte fun imm => decOk p (.subRmIbs o imm)
  | 6 => decRM p.asz mod rm fun o => decByte fun imm => decOk p (.xorRmIbs o imm)
  | 7 => decRM p.asz mod rm fun o => decByte fun imm => decOk p (.cmpRmIbs o imm)
  | _ => decUndefined

/-- Opcode 8F: the nested table of its ModRM reg field (R220, R230, R232). -/
def decGroup8F (p : Pfx) : Dec :=
  decModrm fun mod reg rm => match reg.toNat with
  | 0 => decRM p.asz mod rm fun o => decOk p (.popRm o)
  | _ => decRefused .group

/-- Opcode C0: the nested table of its ModRM reg field (R220, R230, R232). -/
def decGroupC0 (p : Pfx) : Dec :=
  decModrm fun mod reg rm => match reg.toNat with
  | 0 => decRM p.asz mod rm fun o => decByte fun imm => decOk p (.rolRm8Ib o imm)
  | 1 => decRM p.asz mod rm fun o => decByte fun imm => decOk p (.rorRm8Ib o imm)
  | 2 => decRM p.asz mod rm fun o => decByte fun imm => decOk p (.rclRm8Ib o imm)
  | 3 => decRM p.asz mod rm fun o => decByte fun imm => decOk p (.rcrRm8Ib o imm)
  | 4 => decRM p.asz mod rm fun o => decByte fun imm => decOk p (.shlRm8Ib o imm)
  | 5 => decRM p.asz mod rm fun o => decByte fun imm => decOk p (.shrRm8Ib o imm)
  | 7 => decRM p.asz mod rm fun o => decByte fun imm => decOk p (.sarRm8Ib o imm)
  | _ => decRefused .group

/-- Opcode C1: the nested table of its ModRM reg field (R220, R230, R232). -/
def decGroupC1 (p : Pfx) : Dec :=
  decModrm fun mod reg rm => match reg.toNat with
  | 0 => decRM p.asz mod rm fun o => decByte fun imm => decOk p (.rolRmIb o imm)
  | 1 => decRM p.asz mod rm fun o => decByte fun imm => decOk p (.rorRmIb o imm)
  | 2 => decRM p.asz mod rm fun o => decByte fun imm => decOk p (.rclRmIb o imm)
  | 3 => decRM p.asz mod rm fun o => decByte fun imm => decOk p (.rcrRmIb o imm)
  | 4 => decRM p.asz mod rm fun o => decByte fun imm => decOk p (.shlRmIb o imm)
  | 5 => decRM p.asz mod rm fun o => decByte fun imm => decOk p (.shrRmIb o imm)
  | 7 => decRM p.asz mod rm fun o => decByte fun imm => decOk p (.sarRmIb o imm)
  | _ => decRefused .group

/-- Opcode C6: the nested table of its ModRM reg field (R220, R230, R232). -/
def decGroupC6 (p : Pfx) : Dec :=
  decModrm fun mod reg rm => match reg.toNat with
  | 0 => decRM p.asz mod rm fun o => decByte fun imm => decOk p (.movRm8Ib o imm)
  | _ => decRefused .group

/-- Opcode C7: the nested table of its ModRM reg field (R220, R230, R232). -/
def decGroupC7 (p : Pfx) : Dec :=
  decModrm fun mod reg rm => match reg.toNat with
  | 0 => decRM p.asz mod rm fun o => decSized p.osz fun imm => decOk p (.movRmIz o imm)
  | _ => decRefused .group

/-- Opcode D0: the nested table of its ModRM reg field (R220, R230, R232). -/
def decGroupD0 (p : Pfx) : Dec :=
  decModrm fun mod reg rm => match reg.toNat with
  | 0 => decRM p.asz mod rm fun o => decOk p (.rolRm8By1 o)
  | 1 => decRM p.asz mod rm fun o => decOk p (.rorRm8By1 o)
  | 2 => decRM p.asz mod rm fun o => decOk p (.rclRm8By1 o)
  | 3 => decRM p.asz mod rm fun o => decOk p (.rcrRm8By1 o)
  | 4 => decRM p.asz mod rm fun o => decOk p (.shlRm8By1 o)
  | 5 => decRM p.asz mod rm fun o => decOk p (.shrRm8By1 o)
  | 7 => decRM p.asz mod rm fun o => decOk p (.sarRm8By1 o)
  | _ => decRefused .group

/-- Opcode D1: the nested table of its ModRM reg field (R220, R230, R232). -/
def decGroupD1 (p : Pfx) : Dec :=
  decModrm fun mod reg rm => match reg.toNat with
  | 0 => decRM p.asz mod rm fun o => decOk p (.rolRmBy1 o)
  | 1 => decRM p.asz mod rm fun o => decOk p (.rorRmBy1 o)
  | 2 => decRM p.asz mod rm fun o => decOk p (.rclRmBy1 o)
  | 3 => decRM p.asz mod rm fun o => decOk p (.rcrRmBy1 o)
  | 4 => decRM p.asz mod rm fun o => decOk p (.shlRmBy1 o)
  | 5 => decRM p.asz mod rm fun o => decOk p (.shrRmBy1 o)
  | 7 => decRM p.asz mod rm fun o => decOk p (.sarRmBy1 o)
  | _ => decRefused .group

/-- Opcode D2: the nested table of its ModRM reg field (R220, R230, R232). -/
def decGroupD2 (p : Pfx) : Dec :=
  decModrm fun mod reg rm => match reg.toNat with
  | 0 => decRM p.asz mod rm fun o => decOk p (.rolRm8Cl o)
  | 1 => decRM p.asz mod rm fun o => decOk p (.rorRm8Cl o)
  | 2 => decRM p.asz mod rm fun o => decOk p (.rclRm8Cl o)
  | 3 => decRM p.asz mod rm fun o => decOk p (.rcrRm8Cl o)
  | 4 => decRM p.asz mod rm fun o => decOk p (.shlRm8Cl o)
  | 5 => decRM p.asz mod rm fun o => decOk p (.shrRm8Cl o)
  | 7 => decRM p.asz mod rm fun o => decOk p (.sarRm8Cl o)
  | _ => decRefused .group

/-- Opcode D3: the nested table of its ModRM reg field (R220, R230, R232). -/
def decGroupD3 (p : Pfx) : Dec :=
  decModrm fun mod reg rm => match reg.toNat with
  | 0 => decRM p.asz mod rm fun o => decOk p (.rolRmCl o)
  | 1 => decRM p.asz mod rm fun o => decOk p (.rorRmCl o)
  | 2 => decRM p.asz mod rm fun o => decOk p (.rclRmCl o)
  | 3 => decRM p.asz mod rm fun o => decOk p (.rcrRmCl o)
  | 4 => decRM p.asz mod rm fun o => decOk p (.shlRmCl o)
  | 5 => decRM p.asz mod rm fun o => decOk p (.shrRmCl o)
  | 7 => decRM p.asz mod rm fun o => decOk p (.sarRmCl o)
  | _ => decRefused .group

/-- Opcode F6: the nested table of its ModRM reg field (R220, R230, R232). -/
def decGroupF6 (p : Pfx) : Dec :=
  decModrm fun mod reg rm => match reg.toNat with
  | 0 => decRM p.asz mod rm fun o => decByte fun imm => decOk p (.testRm8Ib o imm)
  | 2 => decRM p.asz mod rm fun o => decOk p (.notRm8 o)
  | 3 => decRM p.asz mod rm fun o => decOk p (.negRm8 o)
  | 4 => decRM p.asz mod rm fun o => decOk p (.mulRm8 o)
  | 5 => decRM p.asz mod rm fun o => decOk p (.imulRm8 o)
  | 6 => decRM p.asz mod rm fun o => decOk p (.divRm8 o)
  | 7 => decRM p.asz mod rm fun o => decOk p (.idivRm8 o)
  | _ => decRefused .group

/-- Opcode F7: the nested table of its ModRM reg field (R220, R230, R232). -/
def decGroupF7 (p : Pfx) : Dec :=
  decModrm fun mod reg rm => match reg.toNat with
  | 0 => decRM p.asz mod rm fun o => decSized p.osz fun imm => decOk p (.testRmIz o imm)
  | 2 => decRM p.asz mod rm fun o => decOk p (.notRm o)
  | 3 => decRM p.asz mod rm fun o => decOk p (.negRm o)
  | 4 => decRM p.asz mod rm fun o => decOk p (.mulRm o)
  | 5 => decRM p.asz mod rm fun o => decOk p (.imulRm o)
  | 6 => decRM p.asz mod rm fun o => decOk p (.divRm o)
  | 7 => decRM p.asz mod rm fun o => decOk p (.idivRm o)
  | _ => decRefused .group

/-- Opcode FE: the nested table of its ModRM reg field (R220, R230, R232). -/
def decGroupFE (p : Pfx) : Dec :=
  decModrm fun mod reg rm => match reg.toNat with
  | 0 => decRM p.asz mod rm fun o => decOk p (.incRm8 o)
  | 1 => decRM p.asz mod rm fun o => decOk p (.decRm8 o)
  | 2 => decUndefined
  | 3 => decUndefined
  | 4 => decUndefined
  | 5 => decUndefined
  | 6 => decUndefined
  | 7 => decUndefined
  | _ => decUndefined

/-- Opcode FF: the nested table of its ModRM reg field (R220, R230, R232). -/
def decGroupFF (p : Pfx) : Dec :=
  decModrm fun mod reg rm => match reg.toNat with
  | 0 => decRM p.asz mod rm fun o => decOk p (.incRm o)
  | 1 => decRM p.asz mod rm fun o => decOk p (.decRm o)
  | 2 => decRM p.asz mod rm fun o => decOk p (.callRm o)
  | 3 => decMemOnly p.asz mod rm fun m => decOk p (.callMemFar m)
  | 4 => decRM p.asz mod rm fun o => decOk p (.jmpRm o)
  | 5 => decMemOnly p.asz mod rm fun m => decOk p (.jmpMemFar m)
  | 6 => decRM p.asz mod rm fun o => decOk p (.pushRm o)
  | 7 => decUndefined
  | _ => decUndefined

/-- Opcode 0F 01: the nested table of its ModRM reg field (R220, R230, R232). -/
def decGroup0F01 (p : Pfx) : Dec :=
  decModrm fun mod reg rm => match reg.toNat with
  | 4 => decRM p.asz mod rm fun o => decOk p (.smswRm16 o)
  | 5 => decUndefined
  | 6 => decRM p.asz mod rm fun o => decOk p (.lmswRm16 o)
  | 7 => decMemOnly p.asz mod rm fun m => decOk p (.invlpgM m)
  | _ => decRefused .group

/-- Opcode 0F 20: the nested table of its ModRM reg field (R220, R230, R232). -/
def decGroup0F20 (gen : CpuGen) (p : Pfx) : Dec :=
  decModrm fun _ reg rm => match reg.toNat with
  | 0 => decOk p (.movR32Cr0 (Reg.ofNum rm))
  | 1 => decUndefined
  | 2 => decOk p (.movR32Cr2 (Reg.ofNum rm))
  | 3 => decOk p (.movR32Cr3 (Reg.ofNum rm))
  | 4 => if gen = .g586 then decRefused .group else decUndefined
  | 5 => decUndefined
  | 6 => decUndefined
  | 7 => decUndefined
  | _ => decUndefined

/-- Opcode 0F 22: the nested table of its ModRM reg field (R220, R230, R232). -/
def decGroup0F22 (gen : CpuGen) (p : Pfx) : Dec :=
  decModrm fun _ reg rm => match reg.toNat with
  | 0 => decOk p (.movCr0R32 (Reg.ofNum rm))
  | 1 => decUndefined
  | 2 => decOk p (.movCr2R32 (Reg.ofNum rm))
  | 3 => decOk p (.movCr3R32 (Reg.ofNum rm))
  | 4 => if gen = .g586 then decRefused .group else decUndefined
  | 5 => decUndefined
  | 6 => decUndefined
  | 7 => decUndefined
  | _ => decUndefined

/-- Opcode 0F BA: the nested table of its ModRM reg field (R220, R230, R232). -/
def decGroup0FBA (p : Pfx) : Dec :=
  decModrm fun mod reg rm => match reg.toNat with
  | 0 => decUndefined
  | 1 => decUndefined
  | 2 => decUndefined
  | 3 => decUndefined
  | 4 => decRM p.asz mod rm fun o => decByte fun imm => decOk p (.btRmIb o imm)
  | 5 => decRM p.asz mod rm fun o => decByte fun imm => decOk p (.btsRmIb o imm)
  | 6 => decRM p.asz mod rm fun o => decByte fun imm => decOk p (.btrRmIb o imm)
  | 7 => decRM p.asz mod rm fun o => decByte fun imm => decOk p (.btcRmIb o imm)
  | _ => decUndefined

/-- Opcode 0F C7: the nested table of its ModRM reg field (R220, R230, R232). -/
def decGroup0FC7 (p : Pfx) : Dec :=
  decModrm fun mod reg rm => match reg.toNat with
  | 0 => decUndefined
  | 1 => decMemOnly p.asz mod rm fun m => decOk p (.cmpxchg8bM64 m)
  | 2 => decUndefined
  | 3 => decUndefined
  | 4 => decUndefined
  | 5 => decUndefined
  | 6 => decUndefined
  | 7 => decUndefined
  | _ => decUndefined

/-- One-byte opcodes 00 to 0F (R225). -/
def decRow0 (p : Pfx) (lo : Nat) : Dec :=
  match lo with
  | 0x0 => decModrm fun mod reg rm => decRM p.asz mod rm fun o => decOk p (.addRm8R8 o (Reg.ofNum reg))
  | 0x1 => decModrm fun mod reg rm => decRM p.asz mod rm fun o => decOk p (.addRmR o (Reg.ofNum reg))
  | 0x2 => decModrm fun mod reg rm => decRM p.asz mod rm fun o => decOk p (.addR8Rm8 o (Reg.ofNum reg))
  | 0x3 => decModrm fun mod reg rm => decRM p.asz mod rm fun o => decOk p (.addRRm o (Reg.ofNum reg))
  | 0x4 => decByte fun imm => decOk p (.addAlIb imm)
  | 0x5 => decSized p.osz fun imm => decOk p (.addEaxIz imm)
  | 0x6 => decOk p .pushEs
  | 0x7 => decOk p .popEs
  | 0x8 => decModrm fun mod reg rm => decRM p.asz mod rm fun o => decOk p (.orRm8R8 o (Reg.ofNum reg))
  | 0x9 => decModrm fun mod reg rm => decRM p.asz mod rm fun o => decOk p (.orRmR o (Reg.ofNum reg))
  | 0xA => decModrm fun mod reg rm => decRM p.asz mod rm fun o => decOk p (.orR8Rm8 o (Reg.ofNum reg))
  | 0xB => decModrm fun mod reg rm => decRM p.asz mod rm fun o => decOk p (.orRRm o (Reg.ofNum reg))
  | 0xC => decByte fun imm => decOk p (.orAlIb imm)
  | 0xD => decSized p.osz fun imm => decOk p (.orEaxIz imm)
  | 0xE => decOk p .pushCs
  | _ => decRefused .opcode

/-- One-byte opcodes 10 to 1F (R225). -/
def decRow1 (p : Pfx) (lo : Nat) : Dec :=
  match lo with
  | 0x0 => decModrm fun mod reg rm => decRM p.asz mod rm fun o => decOk p (.adcRm8R8 o (Reg.ofNum reg))
  | 0x1 => decModrm fun mod reg rm => decRM p.asz mod rm fun o => decOk p (.adcRmR o (Reg.ofNum reg))
  | 0x2 => decModrm fun mod reg rm => decRM p.asz mod rm fun o => decOk p (.adcR8Rm8 o (Reg.ofNum reg))
  | 0x3 => decModrm fun mod reg rm => decRM p.asz mod rm fun o => decOk p (.adcRRm o (Reg.ofNum reg))
  | 0x4 => decByte fun imm => decOk p (.adcAlIb imm)
  | 0x5 => decSized p.osz fun imm => decOk p (.adcEaxIz imm)
  | 0x6 => decOk p .pushSs
  | 0x7 => decOk p .popSs
  | 0x8 => decModrm fun mod reg rm => decRM p.asz mod rm fun o => decOk p (.sbbRm8R8 o (Reg.ofNum reg))
  | 0x9 => decModrm fun mod reg rm => decRM p.asz mod rm fun o => decOk p (.sbbRmR o (Reg.ofNum reg))
  | 0xA => decModrm fun mod reg rm => decRM p.asz mod rm fun o => decOk p (.sbbR8Rm8 o (Reg.ofNum reg))
  | 0xB => decModrm fun mod reg rm => decRM p.asz mod rm fun o => decOk p (.sbbRRm o (Reg.ofNum reg))
  | 0xC => decByte fun imm => decOk p (.sbbAlIb imm)
  | 0xD => decSized p.osz fun imm => decOk p (.sbbEaxIz imm)
  | 0xE => decOk p .pushDs
  | 0xF => decOk p .popDs
  | _ => decRefused .opcode

/-- One-byte opcodes 20 to 2F (R225). -/
def decRow2 (p : Pfx) (lo : Nat) : Dec :=
  match lo with
  | 0x0 => decModrm fun mod reg rm => decRM p.asz mod rm fun o => decOk p (.andRm8R8 o (Reg.ofNum reg))
  | 0x1 => decModrm fun mod reg rm => decRM p.asz mod rm fun o => decOk p (.andRmR o (Reg.ofNum reg))
  | 0x2 => decModrm fun mod reg rm => decRM p.asz mod rm fun o => decOk p (.andR8Rm8 o (Reg.ofNum reg))
  | 0x3 => decModrm fun mod reg rm => decRM p.asz mod rm fun o => decOk p (.andRRm o (Reg.ofNum reg))
  | 0x4 => decByte fun imm => decOk p (.andAlIb imm)
  | 0x5 => decSized p.osz fun imm => decOk p (.andEaxIz imm)
  | 0x8 => decModrm fun mod reg rm => decRM p.asz mod rm fun o => decOk p (.subRm8R8 o (Reg.ofNum reg))
  | 0x9 => decModrm fun mod reg rm => decRM p.asz mod rm fun o => decOk p (.subRmR o (Reg.ofNum reg))
  | 0xA => decModrm fun mod reg rm => decRM p.asz mod rm fun o => decOk p (.subR8Rm8 o (Reg.ofNum reg))
  | 0xB => decModrm fun mod reg rm => decRM p.asz mod rm fun o => decOk p (.subRRm o (Reg.ofNum reg))
  | 0xC => decByte fun imm => decOk p (.subAlIb imm)
  | 0xD => decSized p.osz fun imm => decOk p (.subEaxIz imm)
  | _ => decRefused .opcode

/-- One-byte opcodes 30 to 3F (R225). -/
def decRow3 (p : Pfx) (lo : Nat) : Dec :=
  match lo with
  | 0x0 => decModrm fun mod reg rm => decRM p.asz mod rm fun o => decOk p (.xorRm8R8 o (Reg.ofNum reg))
  | 0x1 => decModrm fun mod reg rm => decRM p.asz mod rm fun o => decOk p (.xorRmR o (Reg.ofNum reg))
  | 0x2 => decModrm fun mod reg rm => decRM p.asz mod rm fun o => decOk p (.xorR8Rm8 o (Reg.ofNum reg))
  | 0x3 => decModrm fun mod reg rm => decRM p.asz mod rm fun o => decOk p (.xorRRm o (Reg.ofNum reg))
  | 0x4 => decByte fun imm => decOk p (.xorAlIb imm)
  | 0x5 => decSized p.osz fun imm => decOk p (.xorEaxIz imm)
  | 0x8 => decModrm fun mod reg rm => decRM p.asz mod rm fun o => decOk p (.cmpRm8R8 o (Reg.ofNum reg))
  | 0x9 => decModrm fun mod reg rm => decRM p.asz mod rm fun o => decOk p (.cmpRmR o (Reg.ofNum reg))
  | 0xA => decModrm fun mod reg rm => decRM p.asz mod rm fun o => decOk p (.cmpR8Rm8 o (Reg.ofNum reg))
  | 0xB => decModrm fun mod reg rm => decRM p.asz mod rm fun o => decOk p (.cmpRRm o (Reg.ofNum reg))
  | 0xC => decByte fun imm => decOk p (.cmpAlIb imm)
  | 0xD => decSized p.osz fun imm => decOk p (.cmpEaxIz imm)
  | _ => decRefused .opcode

/-- One-byte opcodes 40 to 4F (R225). -/
def decRow4 (p : Pfx) (lo : Nat) : Dec :=
  match lo with
  | 0x0 => decOk p (.incR .eax)
  | 0x1 => decOk p (.incR .ecx)
  | 0x2 => decOk p (.incR .edx)
  | 0x3 => decOk p (.incR .ebx)
  | 0x4 => decOk p (.incR .esp)
  | 0x5 => decOk p (.incR .ebp)
  | 0x6 => decOk p (.incR .esi)
  | 0x7 => decOk p (.incR .edi)
  | 0x8 => decOk p (.decR .eax)
  | 0x9 => decOk p (.decR .ecx)
  | 0xA => decOk p (.decR .edx)
  | 0xB => decOk p (.decR .ebx)
  | 0xC => decOk p (.decR .esp)
  | 0xD => decOk p (.decR .ebp)
  | 0xE => decOk p (.decR .esi)
  | 0xF => decOk p (.decR .edi)
  | _ => decRefused .opcode

/-- One-byte opcodes 50 to 5F (R225). -/
def decRow5 (p : Pfx) (lo : Nat) : Dec :=
  match lo with
  | 0x0 => decOk p (.pushR .eax)
  | 0x1 => decOk p (.pushR .ecx)
  | 0x2 => decOk p (.pushR .edx)
  | 0x3 => decOk p (.pushR .ebx)
  | 0x4 => decOk p (.pushR .esp)
  | 0x5 => decOk p (.pushR .ebp)
  | 0x6 => decOk p (.pushR .esi)
  | 0x7 => decOk p (.pushR .edi)
  | 0x8 => decOk p (.popR .eax)
  | 0x9 => decOk p (.popR .ecx)
  | 0xA => decOk p (.popR .edx)
  | 0xB => decOk p (.popR .ebx)
  | 0xC => decOk p (.popR .esp)
  | 0xD => decOk p (.popR .ebp)
  | 0xE => decOk p (.popR .esi)
  | 0xF => decOk p (.popR .edi)
  | _ => decRefused .opcode

/-- One-byte opcodes 60 to 6F (R225). -/
def decRow6 (p : Pfx) (lo : Nat) : Dec :=
  match lo with
  | 0x0 => decOk p .pusha
  | 0x1 => decOk p .popa
  | 0x8 => decSized p.osz fun imm => decOk p (.pushIz imm)
  | 0x9 => decModrm fun mod reg rm => decRM p.asz mod rm fun o => decSized p.osz fun imm => decOk p (.imulRRmIz o (Reg.ofNum reg) imm)
  | 0xA => decByte fun imm => decOk p (.pushIbs imm)
  | 0xB => decModrm fun mod reg rm => decRM p.asz mod rm fun o => decByte fun imm => decOk p (.imulRRmIbs o (Reg.ofNum reg) imm)
  | _ => decRefused .opcode

/-- One-byte opcodes 70 to 7F (R225). -/
def decRow7 (p : Pfx) (lo : Nat) : Dec :=
  match lo with
  | 0x0 => decByte fun rel => decOk p (.jccRel8 .o rel)
  | 0x1 => decByte fun rel => decOk p (.jccRel8 .no rel)
  | 0x2 => decByte fun rel => decOk p (.jccRel8 .b rel)
  | 0x3 => decByte fun rel => decOk p (.jccRel8 .ae rel)
  | 0x4 => decByte fun rel => decOk p (.jccRel8 .e rel)
  | 0x5 => decByte fun rel => decOk p (.jccRel8 .ne rel)
  | 0x6 => decByte fun rel => decOk p (.jccRel8 .be rel)
  | 0x7 => decByte fun rel => decOk p (.jccRel8 .a rel)
  | 0x8 => decByte fun rel => decOk p (.jccRel8 .s rel)
  | 0x9 => decByte fun rel => decOk p (.jccRel8 .ns rel)
  | 0xA => decByte fun rel => decOk p (.jccRel8 .p rel)
  | 0xB => decByte fun rel => decOk p (.jccRel8 .np rel)
  | 0xC => decByte fun rel => decOk p (.jccRel8 .l rel)
  | 0xD => decByte fun rel => decOk p (.jccRel8 .ge rel)
  | 0xE => decByte fun rel => decOk p (.jccRel8 .le rel)
  | 0xF => decByte fun rel => decOk p (.jccRel8 .g rel)
  | _ => decRefused .opcode

/-- One-byte opcodes 80 to 8F (R225). -/
def decRow8 (p : Pfx) (lo : Nat) : Dec :=
  match lo with
  | 0x0 => decGroup80 p
  | 0x1 => decGroup81 p
  | 0x3 => decGroup83 p
  | 0x4 => decModrm fun mod reg rm => decRM p.asz mod rm fun o => decOk p (.testRm8R8 o (Reg.ofNum reg))
  | 0x5 => decModrm fun mod reg rm => decRM p.asz mod rm fun o => decOk p (.testRmR o (Reg.ofNum reg))
  | 0x6 => decModrm fun mod reg rm => decRM p.asz mod rm fun o => decOk p (.xchgRm8R8 o (Reg.ofNum reg))
  | 0x7 => decModrm fun mod reg rm => decRM p.asz mod rm fun o => decOk p (.xchgRmR o (Reg.ofNum reg))
  | 0x8 => decModrm fun mod reg rm => decRM p.asz mod rm fun o => decOk p (.movRm8R8 o (Reg.ofNum reg))
  | 0x9 => decModrm fun mod reg rm => decRM p.asz mod rm fun o => decOk p (.movRmR o (Reg.ofNum reg))
  | 0xA => decModrm fun mod reg rm => decRM p.asz mod rm fun o => decOk p (.movR8Rm8 o (Reg.ofNum reg))
  | 0xB => decModrm fun mod reg rm => decRM p.asz mod rm fun o => decOk p (.movRRm o (Reg.ofNum reg))
  | 0xC => decModrm fun mod reg rm => decSreg reg fun sreg => decRM p.asz mod rm fun o => decOk p (.movRm16Sreg o sreg)
  | 0xD => decModrm fun mod reg rm => decMemOnly p.asz mod rm fun m => decOk p (.leaRM m (Reg.ofNum reg))
  | 0xE => decModrm fun mod reg rm => decSreg reg fun sreg => if sreg = .cs then decUndefined else decRM p.asz mod rm fun o => decOk p (.movSregRm16 o sreg)
  | 0xF => decGroup8F p
  | _ => decRefused .opcode

/-- One-byte opcodes 90 to 9F (R225). -/
def decRow9 (p : Pfx) (lo : Nat) : Dec :=
  match lo with
  | 0x0 => decOk p .nop
  | 0x1 => decOk p (.xchgEaxR .ecx)
  | 0x2 => decOk p (.xchgEaxR .edx)
  | 0x3 => decOk p (.xchgEaxR .ebx)
  | 0x4 => decOk p (.xchgEaxR .esp)
  | 0x5 => decOk p (.xchgEaxR .ebp)
  | 0x6 => decOk p (.xchgEaxR .esi)
  | 0x7 => decOk p (.xchgEaxR .edi)
  | 0x8 => decOk p .cbw
  | 0x9 => decOk p .cwd
  | 0xA => decSized p.osz fun off => decWord16 fun sel => decOk p (.callPtr off sel)
  | 0xC => decOk p .pushf
  | 0xD => decOk p .popf
  | 0xE => decOk p .sahf
  | 0xF => decOk p .lahf
  | _ => decRefused .opcode

/-- One-byte opcodes A0 to AF (R225). -/
def decRowA (p : Pfx) (lo : Nat) : Dec :=
  match lo with
  | 0x0 => decSized p.asz fun off => decOk p (.movAlMoffs off)
  | 0x1 => decSized p.asz fun off => decOk p (.movEaxMoffs off)
  | 0x2 => decSized p.asz fun off => decOk p (.movMoffsAl off)
  | 0x3 => decSized p.asz fun off => decOk p (.movMoffsEax off)
  | 0x4 => decOk p .movsb
  | 0x5 => decOk p .movsw
  | 0x6 => decOk p .cmpsb
  | 0x7 => decOk p .cmpsw
  | 0x8 => decByte fun imm => decOk p (.testAlIb imm)
  | 0x9 => decSized p.osz fun imm => decOk p (.testEaxIz imm)
  | 0xA => decOk p .stosb
  | 0xB => decOk p .stosw
  | 0xC => decOk p .lodsb
  | 0xD => decOk p .lodsw
  | 0xE => decOk p .scasb
  | 0xF => decOk p .scasw
  | _ => decRefused .opcode

/-- One-byte opcodes B0 to BF (R225). -/
def decRowB (p : Pfx) (lo : Nat) : Dec :=
  match lo with
  | 0x0 => decByte fun imm => decOk p (.movR8Ib .eax imm)
  | 0x1 => decByte fun imm => decOk p (.movR8Ib .ecx imm)
  | 0x2 => decByte fun imm => decOk p (.movR8Ib .edx imm)
  | 0x3 => decByte fun imm => decOk p (.movR8Ib .ebx imm)
  | 0x4 => decByte fun imm => decOk p (.movR8Ib .esp imm)
  | 0x5 => decByte fun imm => decOk p (.movR8Ib .ebp imm)
  | 0x6 => decByte fun imm => decOk p (.movR8Ib .esi imm)
  | 0x7 => decByte fun imm => decOk p (.movR8Ib .edi imm)
  | 0x8 => decSized p.osz fun imm => decOk p (.movRIz .eax imm)
  | 0x9 => decSized p.osz fun imm => decOk p (.movRIz .ecx imm)
  | 0xA => decSized p.osz fun imm => decOk p (.movRIz .edx imm)
  | 0xB => decSized p.osz fun imm => decOk p (.movRIz .ebx imm)
  | 0xC => decSized p.osz fun imm => decOk p (.movRIz .esp imm)
  | 0xD => decSized p.osz fun imm => decOk p (.movRIz .ebp imm)
  | 0xE => decSized p.osz fun imm => decOk p (.movRIz .esi imm)
  | 0xF => decSized p.osz fun imm => decOk p (.movRIz .edi imm)
  | _ => decRefused .opcode

/-- One-byte opcodes C0 to CF (R225). -/
def decRowC (p : Pfx) (lo : Nat) : Dec :=
  match lo with
  | 0x0 => decGroupC0 p
  | 0x1 => decGroupC1 p
  | 0x2 => decWord16 fun imm => decOk p (.retIw imm)
  | 0x3 => decOk p .ret
  | 0x4 => decModrm fun mod reg rm => decMemOnly p.asz mod rm fun m => decOk p (.lesRMemFar m (Reg.ofNum reg))
  | 0x5 => decModrm fun mod reg rm => decMemOnly p.asz mod rm fun m => decOk p (.ldsRMemFar m (Reg.ofNum reg))
  | 0x6 => decGroupC6 p
  | 0x7 => decGroupC7 p
  | 0x9 => decOk p .leave
  | 0xA => decWord16 fun imm => decOk p (.retfIw imm)
  | 0xB => decOk p .retf
  | 0xC => decOk p .int3
  | 0xD => decByte fun imm => decOk p (.intIb imm)
  | 0xE => decOk p .into
  | 0xF => decOk p .iret
  | _ => decRefused .opcode

/-- One-byte opcodes D0 to DF (R225). -/
def decRowD (p : Pfx) (lo : Nat) : Dec :=
  match lo with
  | 0x0 => decGroupD0 p
  | 0x1 => decGroupD1 p
  | 0x2 => decGroupD2 p
  | 0x3 => decGroupD3 p
  | 0x7 => decOk p .xlat
  | _ => decRefused .opcode

/-- One-byte opcodes E0 to EF (R225). -/
def decRowE (p : Pfx) (lo : Nat) : Dec :=
  match lo with
  | 0x0 => decByte fun rel => decOk p (.loopneRel8 rel)
  | 0x1 => decByte fun rel => decOk p (.loopeRel8 rel)
  | 0x2 => decByte fun rel => decOk p (.loopRel8 rel)
  | 0x3 => decByte fun rel => decOk p (.jcxzRel8 rel)
  | 0x8 => decSized p.osz fun rel => decOk p (.callRelz rel)
  | 0x9 => decSized p.osz fun rel => decOk p (.jmpRelz rel)
  | 0xA => decSized p.osz fun off => decWord16 fun sel => decOk p (.jmpPtr off sel)
  | 0xB => decByte fun rel => decOk p (.jmpRel8 rel)
  | _ => decRefused .opcode

/-- One-byte opcodes F0 to FF (R225). -/
def decRowF (p : Pfx) (lo : Nat) : Dec :=
  match lo with
  | 0x4 => decOk p .hlt
  | 0x5 => decOk p .cmc
  | 0x6 => decGroupF6 p
  | 0x7 => decGroupF7 p
  | 0x8 => decOk p .clc
  | 0x9 => decOk p .stc
  | 0xA => decOk p .cli
  | 0xB => decOk p .sti
  | 0xC => decOk p .cld
  | 0xD => decOk p .std
  | 0xE => decGroupFE p
  | 0xF => decGroupFF p
  | _ => decRefused .opcode

/-- Two-byte opcodes 0F 00 to 0F 0F (R226). -/
def decEscRow0 (_ : CpuGen) (p : Pfx) (lo : Nat) : Dec :=
  match lo with
  | 0x1 => decGroup0F01 p
  | 0x6 => decOk p .clts
  | 0x8 => decOk p .invd
  | 0x9 => decOk p .wbinvd
  | 0xB => decOk p .ud2
  | _ => decRefused .escaped

/-- Two-byte opcodes 0F 10 to 0F 1F (R226). -/
def decEscRow1 (_ : CpuGen) (_ : Pfx) (_ : Nat) : Dec := decRefused .escaped

/-- Two-byte opcodes 0F 20 to 0F 2F (R226). -/
def decEscRow2 (gen : CpuGen) (p : Pfx) (lo : Nat) : Dec :=
  match lo with
  | 0x0 => decGroup0F20 gen p
  | 0x2 => decGroup0F22 gen p
  | _ => decRefused .escaped

/-- Two-byte opcodes 0F 30 to 0F 3F (R226). -/
def decEscRow3 (_ : CpuGen) (_ : Pfx) (_ : Nat) : Dec := decRefused .escaped

/-- Two-byte opcodes 0F 40 to 0F 4F (R226). -/
def decEscRow4 (_ : CpuGen) (_ : Pfx) (_ : Nat) : Dec := decRefused .escaped

/-- Two-byte opcodes 0F 50 to 0F 5F (R226). -/
def decEscRow5 (_ : CpuGen) (_ : Pfx) (_ : Nat) : Dec := decRefused .escaped

/-- Two-byte opcodes 0F 60 to 0F 6F (R226). -/
def decEscRow6 (_ : CpuGen) (_ : Pfx) (_ : Nat) : Dec := decRefused .escaped

/-- Two-byte opcodes 0F 70 to 0F 7F (R226). -/
def decEscRow7 (_ : CpuGen) (_ : Pfx) (_ : Nat) : Dec := decRefused .escaped

/-- Two-byte opcodes 0F 80 to 0F 8F (R226). -/
def decEscRow8 (_ : CpuGen) (p : Pfx) (lo : Nat) : Dec :=
  match lo with
  | 0x0 => decSized p.osz fun rel => decOk p (.jccRelz .o rel)
  | 0x1 => decSized p.osz fun rel => decOk p (.jccRelz .no rel)
  | 0x2 => decSized p.osz fun rel => decOk p (.jccRelz .b rel)
  | 0x3 => decSized p.osz fun rel => decOk p (.jccRelz .ae rel)
  | 0x4 => decSized p.osz fun rel => decOk p (.jccRelz .e rel)
  | 0x5 => decSized p.osz fun rel => decOk p (.jccRelz .ne rel)
  | 0x6 => decSized p.osz fun rel => decOk p (.jccRelz .be rel)
  | 0x7 => decSized p.osz fun rel => decOk p (.jccRelz .a rel)
  | 0x8 => decSized p.osz fun rel => decOk p (.jccRelz .s rel)
  | 0x9 => decSized p.osz fun rel => decOk p (.jccRelz .ns rel)
  | 0xA => decSized p.osz fun rel => decOk p (.jccRelz .p rel)
  | 0xB => decSized p.osz fun rel => decOk p (.jccRelz .np rel)
  | 0xC => decSized p.osz fun rel => decOk p (.jccRelz .l rel)
  | 0xD => decSized p.osz fun rel => decOk p (.jccRelz .ge rel)
  | 0xE => decSized p.osz fun rel => decOk p (.jccRelz .le rel)
  | 0xF => decSized p.osz fun rel => decOk p (.jccRelz .g rel)
  | _ => decRefused .escaped

/-- Two-byte opcodes 0F 90 to 0F 9F (R226). -/
def decEscRow9 (_ : CpuGen) (p : Pfx) (lo : Nat) : Dec :=
  match lo with
  | 0x0 => decModrm fun mod _ rm => decRM p.asz mod rm fun o => decOk p (.setccRm8 .o o)
  | 0x1 => decModrm fun mod _ rm => decRM p.asz mod rm fun o => decOk p (.setccRm8 .no o)
  | 0x2 => decModrm fun mod _ rm => decRM p.asz mod rm fun o => decOk p (.setccRm8 .b o)
  | 0x3 => decModrm fun mod _ rm => decRM p.asz mod rm fun o => decOk p (.setccRm8 .ae o)
  | 0x4 => decModrm fun mod _ rm => decRM p.asz mod rm fun o => decOk p (.setccRm8 .e o)
  | 0x5 => decModrm fun mod _ rm => decRM p.asz mod rm fun o => decOk p (.setccRm8 .ne o)
  | 0x6 => decModrm fun mod _ rm => decRM p.asz mod rm fun o => decOk p (.setccRm8 .be o)
  | 0x7 => decModrm fun mod _ rm => decRM p.asz mod rm fun o => decOk p (.setccRm8 .a o)
  | 0x8 => decModrm fun mod _ rm => decRM p.asz mod rm fun o => decOk p (.setccRm8 .s o)
  | 0x9 => decModrm fun mod _ rm => decRM p.asz mod rm fun o => decOk p (.setccRm8 .ns o)
  | 0xA => decModrm fun mod _ rm => decRM p.asz mod rm fun o => decOk p (.setccRm8 .p o)
  | 0xB => decModrm fun mod _ rm => decRM p.asz mod rm fun o => decOk p (.setccRm8 .np o)
  | 0xC => decModrm fun mod _ rm => decRM p.asz mod rm fun o => decOk p (.setccRm8 .l o)
  | 0xD => decModrm fun mod _ rm => decRM p.asz mod rm fun o => decOk p (.setccRm8 .ge o)
  | 0xE => decModrm fun mod _ rm => decRM p.asz mod rm fun o => decOk p (.setccRm8 .le o)
  | 0xF => decModrm fun mod _ rm => decRM p.asz mod rm fun o => decOk p (.setccRm8 .g o)
  | _ => decRefused .escaped

/-- Two-byte opcodes 0F A0 to 0F AF (R226). -/
def decEscRowA (_ : CpuGen) (p : Pfx) (lo : Nat) : Dec :=
  match lo with
  | 0x0 => decOk p .pushFs
  | 0x1 => decOk p .popFs
  | 0x3 => decModrm fun mod reg rm => decRM p.asz mod rm fun o => decOk p (.btRmR o (Reg.ofNum reg))
  | 0x4 => decModrm fun mod reg rm => decRM p.asz mod rm fun o => decByte fun imm => decOk p (.shldRmRIb o (Reg.ofNum reg) imm)
  | 0x5 => decModrm fun mod reg rm => decRM p.asz mod rm fun o => decOk p (.shldRmRCl o (Reg.ofNum reg))
  | 0x8 => decOk p .pushGs
  | 0x9 => decOk p .popGs
  | 0xB => decModrm fun mod reg rm => decRM p.asz mod rm fun o => decOk p (.btsRmR o (Reg.ofNum reg))
  | 0xC => decModrm fun mod reg rm => decRM p.asz mod rm fun o => decByte fun imm => decOk p (.shrdRmRIb o (Reg.ofNum reg) imm)
  | 0xD => decModrm fun mod reg rm => decRM p.asz mod rm fun o => decOk p (.shrdRmRCl o (Reg.ofNum reg))
  | 0xF => decModrm fun mod reg rm => decRM p.asz mod rm fun o => decOk p (.imulRRm o (Reg.ofNum reg))
  | _ => decRefused .escaped

/-- Two-byte opcodes 0F B0 to 0F BF (R226). -/
def decEscRowB (_ : CpuGen) (p : Pfx) (lo : Nat) : Dec :=
  match lo with
  | 0x0 => decModrm fun mod reg rm => decRM p.asz mod rm fun o => decOk p (.cmpxchgRm8R8 o (Reg.ofNum reg))
  | 0x1 => decModrm fun mod reg rm => decRM p.asz mod rm fun o => decOk p (.cmpxchgRmR o (Reg.ofNum reg))
  | 0x2 => decModrm fun mod reg rm => decMemOnly p.asz mod rm fun m => decOk p (.lssRMemFar m (Reg.ofNum reg))
  | 0x3 => decModrm fun mod reg rm => decRM p.asz mod rm fun o => decOk p (.btrRmR o (Reg.ofNum reg))
  | 0x4 => decModrm fun mod reg rm => decMemOnly p.asz mod rm fun m => decOk p (.lfsRMemFar m (Reg.ofNum reg))
  | 0x5 => decModrm fun mod reg rm => decMemOnly p.asz mod rm fun m => decOk p (.lgsRMemFar m (Reg.ofNum reg))
  | 0x6 => decModrm fun mod reg rm => decRM p.asz mod rm fun o => decOk p (.movzxRRm8 o (Reg.ofNum reg))
  | 0x7 => decModrm fun mod reg rm => decRM p.asz mod rm fun o => decOk p (.movzxRRm16 o (Reg.ofNum reg))
  | 0xA => decGroup0FBA p
  | 0xB => decModrm fun mod reg rm => decRM p.asz mod rm fun o => decOk p (.btcRmR o (Reg.ofNum reg))
  | 0xC => decModrm fun mod reg rm => decRM p.asz mod rm fun o => decOk p (.bsfRRm o (Reg.ofNum reg))
  | 0xD => decModrm fun mod reg rm => decRM p.asz mod rm fun o => decOk p (.bsrRRm o (Reg.ofNum reg))
  | 0xE => decModrm fun mod reg rm => decRM p.asz mod rm fun o => decOk p (.movsxRRm8 o (Reg.ofNum reg))
  | 0xF => decModrm fun mod reg rm => decRM p.asz mod rm fun o => decOk p (.movsxRRm16 o (Reg.ofNum reg))
  | _ => decRefused .escaped

/-- Two-byte opcodes 0F C0 to 0F CF (R226). -/
def decEscRowC (_ : CpuGen) (p : Pfx) (lo : Nat) : Dec :=
  match lo with
  | 0x0 => decModrm fun mod reg rm => decRM p.asz mod rm fun o => decOk p (.xaddRm8R8 o (Reg.ofNum reg))
  | 0x1 => decModrm fun mod reg rm => decRM p.asz mod rm fun o => decOk p (.xaddRmR o (Reg.ofNum reg))
  | 0x7 => decGroup0FC7 p
  | 0x8 => decOk p (.bswapR32 .eax)
  | 0x9 => decOk p (.bswapR32 .ecx)
  | 0xA => decOk p (.bswapR32 .edx)
  | 0xB => decOk p (.bswapR32 .ebx)
  | 0xC => decOk p (.bswapR32 .esp)
  | 0xD => decOk p (.bswapR32 .ebp)
  | 0xE => decOk p (.bswapR32 .esi)
  | 0xF => decOk p (.bswapR32 .edi)
  | _ => decRefused .escaped

/-- Two-byte opcodes 0F D0 to 0F DF (R226). -/
def decEscRowD (_ : CpuGen) (_ : Pfx) (_ : Nat) : Dec := decRefused .escaped

/-- Two-byte opcodes 0F E0 to 0F EF (R226). -/
def decEscRowE (_ : CpuGen) (_ : Pfx) (_ : Nat) : Dec := decRefused .escaped

/-- Two-byte opcodes 0F F0 to 0F FF (R226). -/
def decEscRowF (_ : CpuGen) (_ : Pfx) (lo : Nat) : Dec :=
  match lo with
  | 0xF => decUndefined
  | _ => decRefused .escaped

/-- The one-byte opcode map (R225), by the opcode byte's two nibbles. -/
def decOneByte (p : Pfx) (op : Nat) : Dec :=
  match op / 16 with
  | 0x0 => decRow0 p (op % 16)
  | 0x1 => decRow1 p (op % 16)
  | 0x2 => decRow2 p (op % 16)
  | 0x3 => decRow3 p (op % 16)
  | 0x4 => decRow4 p (op % 16)
  | 0x5 => decRow5 p (op % 16)
  | 0x6 => decRow6 p (op % 16)
  | 0x7 => decRow7 p (op % 16)
  | 0x8 => decRow8 p (op % 16)
  | 0x9 => decRow9 p (op % 16)
  | 0xA => decRowA p (op % 16)
  | 0xB => decRowB p (op % 16)
  | 0xC => decRowC p (op % 16)
  | 0xD => decRowD p (op % 16)
  | 0xE => decRowE p (op % 16)
  | _ => decRowF p (op % 16)

/-- The two-byte opcode map (R226), by the nibbles of the byte after 0F. -/
def decEscaped (gen : CpuGen) (p : Pfx) (op : Nat) : Dec :=
  match op / 16 with
  | 0x0 => decEscRow0 gen p (op % 16)
  | 0x1 => decEscRow1 gen p (op % 16)
  | 0x2 => decEscRow2 gen p (op % 16)
  | 0x3 => decEscRow3 gen p (op % 16)
  | 0x4 => decEscRow4 gen p (op % 16)
  | 0x5 => decEscRow5 gen p (op % 16)
  | 0x6 => decEscRow6 gen p (op % 16)
  | 0x7 => decEscRow7 gen p (op % 16)
  | 0x8 => decEscRow8 gen p (op % 16)
  | 0x9 => decEscRow9 gen p (op % 16)
  | 0xA => decEscRowA gen p (op % 16)
  | 0xB => decEscRowB gen p (op % 16)
  | 0xC => decEscRowC gen p (op % 16)
  | 0xD => decEscRowD gen p (op % 16)
  | 0xE => decEscRowE gen p (op % 16)
  | _ => decEscRowF gen p (op % 16)

/-- The dispatch entry of an index (R219): bit 0x100 says that the opcode was escaped, bits 7:0 are the opcode byte, and the entries of the
two operand sizes (bit 0x200) are the same rows, whose immediates have the size the prefixes give. -/
def decEntry (gen : CpuGen) (p : Pfx) (index : Nat) : Dec :=
  if index / 256 % 2 = 1 then decEscaped gen p (index % 256) else decOneByte p (index % 256)

/-- From the first byte that is no prefix (R200 step 3). -/
def decOpcode (gen : CpuGen) (p : Pfx) (b : Byte) : Dec :=
  if b = 0x0F#8 then .byte fun b2 => decEntry gen p (dispatchIndex p.osz true b2)
  else decEntry gen p (dispatchIndex p.osz false b)

/-- Prefix bytes, then the opcode (R200 steps 2 and 3); the number bounds the prefix bytes, since a 16th byte is never fetched (R204). -/
def decPrefixes (gen : CpuGen) (big : Bool) : Nat → Prefixes → Dec
  | 0, _ => .done .tooLong
  | n + 1, q => .byte fun b =>
    match q.fold b with
    | some q' => decPrefixes gen big n q'
    | none => decOpcode gen (Pfx.of big q) b

/-- The decoder of a whole instruction, under the generation and the default size `D` of the code segment (R207). -/
def decInstr (gen : CpuGen) (big : Bool) (q : Prefixes) : Dec := decPrefixes gen big 15 q

/-- Decode an instruction from a list of bytes; the rest of the list is returned with it. -/
def decode (gen : CpuGen) (big : Bool) (bs : List Byte) : Decoded × List Byte :=
  (decInstr gen big .clear).run 15 bs

/-! The encoder, written from the same tables. -/

/-- The ModRM byte of its fields (R210). -/
def modrmByte (mod : BitVec 2) (reg rm : BitVec 3) : Byte := mod ++ reg ++ rm

/-- Two bytes, little-endian. -/
def enc16 (v : BitVec 16) : List Byte := [v.extractLsb' 0 8, v.extractLsb' 8 8]

/-- Four bytes, little-endian. -/
def enc32 (v : Word) : List Byte :=
  [v.extractLsb' 0 8, v.extractLsb' 8 8, v.extractLsb' 16 8, v.extractLsb' 24 8]

/-- A field of 2 or 4 bytes by size (R215). -/
def encSized (sz : Size) (v : Word) : List Byte :=
  match sz with
  | .w16 => enc16 (v.setWidth 16)
  | .w32 => enc32 v

/-- The mod field of a displacement (R210). -/
def Disp.mod {w : Nat} : Disp w → BitVec 2
  | .none => 0#2
  | .d8 _ => 1#2
  | .full _ => 2#2

/-- The bytes of a 16-bit form's displacement. -/
def encDisp16 : Disp 16 → List Byte
  | .none => []
  | .d8 d => [d]
  | .full d => enc16 d

/-- The bytes of a 32-bit form's displacement. -/
def encDisp32 : Disp 32 → List Byte
  | .none => []
  | .d8 d => [d]
  | .full d => enc32 d

/-- The index field of a SIB byte (R214). -/
def indexNum : Option Reg → BitVec 3
  | some r => r.num
  | none => 4#3

/-- ModRM, SIB and displacement of a memory operand (R212 to R214). -/
def encMem (reg : BitVec 3) : Mem → List Byte
  | .based16 b d => modrmByte d.mod reg b.num :: encDisp16 d
  | .abs16 d => modrmByte 0#2 reg 6#3 :: enc16 d
  | .based32 b d => modrmByte d.mod reg b.num :: encDisp32 d
  | .abs32 d => modrmByte 0#2 reg 5#3 :: enc32 d
  | .sib scale index b d => modrmByte d.mod reg 4#3 :: modrmByte scale (indexNum index) b.num :: encDisp32 d
  | .sibAbs scale index d => modrmByte 0#2 reg 4#3 :: modrmByte scale (indexNum index) 5#3 :: enc32 d

/-- ModRM and what follows it, of a register or memory operand (R211). -/
def encRM (reg : BitVec 3) : RM → List Byte
  | .reg r => [modrmByte 3#2 reg r.num]
  | .mem m => encMem reg m

/-- The prefix byte of a segment override (R206). -/
def segPrefix : SegReg → Byte
  | .es => 0x26#8
  | .cs => 0x2E#8
  | .ss => 0x36#8
  | .ds => 0x3E#8
  | .fs => 0x64#8
  | .gs => 0x65#8

/-- One prefix byte for each prefix in force, in the order segment, 66, 67, F0, F2 or F3 (any order decodes the same, R206). -/
def encPrefixes (q : Prefixes) : List Byte :=
  q.seg.toList.map segPrefix ++ (if q.opsizeOvr then [0x66#8] else []) ++ (if q.addrsizeOvr then [0x67#8] else []) ++
    (if q.lock then [0xF0#8] else []) ++ (match q.rep with | .none => [] | .repe => [0xF3#8] | .repne => [0xF2#8])

/-- The bytes of an instruction after its prefixes (opcode_table.json: `match` with the register fields filled in, then ModRM, SIB,
displacement, immediate, R201). -/
def encodeBody (osz asz : Size) : Instr → List Byte
  | .addRm8R8 rm reg => [0x00#8] ++ encRM reg.num rm
  | .addRmR rm reg => [0x01#8] ++ encRM reg.num rm
  | .addR8Rm8 rm reg => [0x02#8] ++ encRM reg.num rm
  | .addRRm rm reg => [0x03#8] ++ encRM reg.num rm
  | .addAlIb imm => [0x04#8] ++ [imm]
  | .addEaxIz imm => [0x05#8] ++ encSized osz imm
  | .addRm8Ib rm imm => [0x80#8] ++ encRM 0#3 rm ++ [imm]
  | .addRmIz rm imm => [0x81#8] ++ encRM 0#3 rm ++ encSized osz imm
  | .addRmIbs rm imm => [0x83#8] ++ encRM 0#3 rm ++ [imm]
  | .orRm8R8 rm reg => [0x08#8] ++ encRM reg.num rm
  | .orRmR rm reg => [0x09#8] ++ encRM reg.num rm
  | .orR8Rm8 rm reg => [0x0A#8] ++ encRM reg.num rm
  | .orRRm rm reg => [0x0B#8] ++ encRM reg.num rm
  | .orAlIb imm => [0x0C#8] ++ [imm]
  | .orEaxIz imm => [0x0D#8] ++ encSized osz imm
  | .orRm8Ib rm imm => [0x80#8] ++ encRM 1#3 rm ++ [imm]
  | .orRmIz rm imm => [0x81#8] ++ encRM 1#3 rm ++ encSized osz imm
  | .orRmIbs rm imm => [0x83#8] ++ encRM 1#3 rm ++ [imm]
  | .adcRm8R8 rm reg => [0x10#8] ++ encRM reg.num rm
  | .adcRmR rm reg => [0x11#8] ++ encRM reg.num rm
  | .adcR8Rm8 rm reg => [0x12#8] ++ encRM reg.num rm
  | .adcRRm rm reg => [0x13#8] ++ encRM reg.num rm
  | .adcAlIb imm => [0x14#8] ++ [imm]
  | .adcEaxIz imm => [0x15#8] ++ encSized osz imm
  | .adcRm8Ib rm imm => [0x80#8] ++ encRM 2#3 rm ++ [imm]
  | .adcRmIz rm imm => [0x81#8] ++ encRM 2#3 rm ++ encSized osz imm
  | .adcRmIbs rm imm => [0x83#8] ++ encRM 2#3 rm ++ [imm]
  | .sbbRm8R8 rm reg => [0x18#8] ++ encRM reg.num rm
  | .sbbRmR rm reg => [0x19#8] ++ encRM reg.num rm
  | .sbbR8Rm8 rm reg => [0x1A#8] ++ encRM reg.num rm
  | .sbbRRm rm reg => [0x1B#8] ++ encRM reg.num rm
  | .sbbAlIb imm => [0x1C#8] ++ [imm]
  | .sbbEaxIz imm => [0x1D#8] ++ encSized osz imm
  | .sbbRm8Ib rm imm => [0x80#8] ++ encRM 3#3 rm ++ [imm]
  | .sbbRmIz rm imm => [0x81#8] ++ encRM 3#3 rm ++ encSized osz imm
  | .sbbRmIbs rm imm => [0x83#8] ++ encRM 3#3 rm ++ [imm]
  | .andRm8R8 rm reg => [0x20#8] ++ encRM reg.num rm
  | .andRmR rm reg => [0x21#8] ++ encRM reg.num rm
  | .andR8Rm8 rm reg => [0x22#8] ++ encRM reg.num rm
  | .andRRm rm reg => [0x23#8] ++ encRM reg.num rm
  | .andAlIb imm => [0x24#8] ++ [imm]
  | .andEaxIz imm => [0x25#8] ++ encSized osz imm
  | .andRm8Ib rm imm => [0x80#8] ++ encRM 4#3 rm ++ [imm]
  | .andRmIz rm imm => [0x81#8] ++ encRM 4#3 rm ++ encSized osz imm
  | .andRmIbs rm imm => [0x83#8] ++ encRM 4#3 rm ++ [imm]
  | .subRm8R8 rm reg => [0x28#8] ++ encRM reg.num rm
  | .subRmR rm reg => [0x29#8] ++ encRM reg.num rm
  | .subR8Rm8 rm reg => [0x2A#8] ++ encRM reg.num rm
  | .subRRm rm reg => [0x2B#8] ++ encRM reg.num rm
  | .subAlIb imm => [0x2C#8] ++ [imm]
  | .subEaxIz imm => [0x2D#8] ++ encSized osz imm
  | .subRm8Ib rm imm => [0x80#8] ++ encRM 5#3 rm ++ [imm]
  | .subRmIz rm imm => [0x81#8] ++ encRM 5#3 rm ++ encSized osz imm
  | .subRmIbs rm imm => [0x83#8] ++ encRM 5#3 rm ++ [imm]
  | .xorRm8R8 rm reg => [0x30#8] ++ encRM reg.num rm
  | .xorRmR rm reg => [0x31#8] ++ encRM reg.num rm
  | .xorR8Rm8 rm reg => [0x32#8] ++ encRM reg.num rm
  | .xorRRm rm reg => [0x33#8] ++ encRM reg.num rm
  | .xorAlIb imm => [0x34#8] ++ [imm]
  | .xorEaxIz imm => [0x35#8] ++ encSized osz imm
  | .xorRm8Ib rm imm => [0x80#8] ++ encRM 6#3 rm ++ [imm]
  | .xorRmIz rm imm => [0x81#8] ++ encRM 6#3 rm ++ encSized osz imm
  | .xorRmIbs rm imm => [0x83#8] ++ encRM 6#3 rm ++ [imm]
  | .cmpRm8R8 rm reg => [0x38#8] ++ encRM reg.num rm
  | .cmpRmR rm reg => [0x39#8] ++ encRM reg.num rm
  | .cmpR8Rm8 rm reg => [0x3A#8] ++ encRM reg.num rm
  | .cmpRRm rm reg => [0x3B#8] ++ encRM reg.num rm
  | .cmpAlIb imm => [0x3C#8] ++ [imm]
  | .cmpEaxIz imm => [0x3D#8] ++ encSized osz imm
  | .cmpRm8Ib rm imm => [0x80#8] ++ encRM 7#3 rm ++ [imm]
  | .cmpRmIz rm imm => [0x81#8] ++ encRM 7#3 rm ++ encSized osz imm
  | .cmpRmIbs rm imm => [0x83#8] ++ encRM 7#3 rm ++ [imm]
  | .testRm8R8 rm reg => [0x84#8] ++ encRM reg.num rm
  | .testRmR rm reg => [0x85#8] ++ encRM reg.num rm
  | .testAlIb imm => [0xA8#8] ++ [imm]
  | .testEaxIz imm => [0xA9#8] ++ encSized osz imm
  | .testRm8Ib rm imm => [0xF6#8] ++ encRM 0#3 rm ++ [imm]
  | .testRmIz rm imm => [0xF7#8] ++ encRM 0#3 rm ++ encSized osz imm
  | .incR reg => [0x40#8 + reg.num.setWidth 8]
  | .incRm8 rm => [0xFE#8] ++ encRM 0#3 rm
  | .incRm rm => [0xFF#8] ++ encRM 0#3 rm
  | .decR reg => [0x48#8 + reg.num.setWidth 8]
  | .decRm8 rm => [0xFE#8] ++ encRM 1#3 rm
  | .decRm rm => [0xFF#8] ++ encRM 1#3 rm
  | .notRm8 rm => [0xF6#8] ++ encRM 2#3 rm
  | .notRm rm => [0xF7#8] ++ encRM 2#3 rm
  | .negRm8 rm => [0xF6#8] ++ encRM 3#3 rm
  | .negRm rm => [0xF7#8] ++ encRM 3#3 rm
  | .mulRm8 rm => [0xF6#8] ++ encRM 4#3 rm
  | .mulRm rm => [0xF7#8] ++ encRM 4#3 rm
  | .imulRm8 rm => [0xF6#8] ++ encRM 5#3 rm
  | .imulRm rm => [0xF7#8] ++ encRM 5#3 rm
  | .divRm8 rm => [0xF6#8] ++ encRM 6#3 rm
  | .divRm rm => [0xF7#8] ++ encRM 6#3 rm
  | .idivRm8 rm => [0xF6#8] ++ encRM 7#3 rm
  | .idivRm rm => [0xF7#8] ++ encRM 7#3 rm
  | .imulRRm rm reg => [0x0F#8, 0xAF#8] ++ encRM reg.num rm
  | .imulRRmIz rm reg imm => [0x69#8] ++ encRM reg.num rm ++ encSized osz imm
  | .imulRRmIbs rm reg imm => [0x6B#8] ++ encRM reg.num rm ++ [imm]
  | .rolRm8Ib rm imm => [0xC0#8] ++ encRM 0#3 rm ++ [imm]
  | .rolRmIb rm imm => [0xC1#8] ++ encRM 0#3 rm ++ [imm]
  | .rolRm8By1 rm => [0xD0#8] ++ encRM 0#3 rm
  | .rolRmBy1 rm => [0xD1#8] ++ encRM 0#3 rm
  | .rolRm8Cl rm => [0xD2#8] ++ encRM 0#3 rm
  | .rolRmCl rm => [0xD3#8] ++ encRM 0#3 rm
  | .rorRm8Ib rm imm => [0xC0#8] ++ encRM 1#3 rm ++ [imm]
  | .rorRmIb rm imm => [0xC1#8] ++ encRM 1#3 rm ++ [imm]
  | .rorRm8By1 rm => [0xD0#8] ++ encRM 1#3 rm
  | .rorRmBy1 rm => [0xD1#8] ++ encRM 1#3 rm
  | .rorRm8Cl rm => [0xD2#8] ++ encRM 1#3 rm
  | .rorRmCl rm => [0xD3#8] ++ encRM 1#3 rm
  | .rclRm8Ib rm imm => [0xC0#8] ++ encRM 2#3 rm ++ [imm]
  | .rclRmIb rm imm => [0xC1#8] ++ encRM 2#3 rm ++ [imm]
  | .rclRm8By1 rm => [0xD0#8] ++ encRM 2#3 rm
  | .rclRmBy1 rm => [0xD1#8] ++ encRM 2#3 rm
  | .rclRm8Cl rm => [0xD2#8] ++ encRM 2#3 rm
  | .rclRmCl rm => [0xD3#8] ++ encRM 2#3 rm
  | .rcrRm8Ib rm imm => [0xC0#8] ++ encRM 3#3 rm ++ [imm]
  | .rcrRmIb rm imm => [0xC1#8] ++ encRM 3#3 rm ++ [imm]
  | .rcrRm8By1 rm => [0xD0#8] ++ encRM 3#3 rm
  | .rcrRmBy1 rm => [0xD1#8] ++ encRM 3#3 rm
  | .rcrRm8Cl rm => [0xD2#8] ++ encRM 3#3 rm
  | .rcrRmCl rm => [0xD3#8] ++ encRM 3#3 rm
  | .shlRm8Ib rm imm => [0xC0#8] ++ encRM 4#3 rm ++ [imm]
  | .shlRmIb rm imm => [0xC1#8] ++ encRM 4#3 rm ++ [imm]
  | .shlRm8By1 rm => [0xD0#8] ++ encRM 4#3 rm
  | .shlRmBy1 rm => [0xD1#8] ++ encRM 4#3 rm
  | .shlRm8Cl rm => [0xD2#8] ++ encRM 4#3 rm
  | .shlRmCl rm => [0xD3#8] ++ encRM 4#3 rm
  | .shrRm8Ib rm imm => [0xC0#8] ++ encRM 5#3 rm ++ [imm]
  | .shrRmIb rm imm => [0xC1#8] ++ encRM 5#3 rm ++ [imm]
  | .shrRm8By1 rm => [0xD0#8] ++ encRM 5#3 rm
  | .shrRmBy1 rm => [0xD1#8] ++ encRM 5#3 rm
  | .shrRm8Cl rm => [0xD2#8] ++ encRM 5#3 rm
  | .shrRmCl rm => [0xD3#8] ++ encRM 5#3 rm
  | .sarRm8Ib rm imm => [0xC0#8] ++ encRM 7#3 rm ++ [imm]
  | .sarRmIb rm imm => [0xC1#8] ++ encRM 7#3 rm ++ [imm]
  | .sarRm8By1 rm => [0xD0#8] ++ encRM 7#3 rm
  | .sarRmBy1 rm => [0xD1#8] ++ encRM 7#3 rm
  | .sarRm8Cl rm => [0xD2#8] ++ encRM 7#3 rm
  | .sarRmCl rm => [0xD3#8] ++ encRM 7#3 rm
  | .shldRmRIb rm reg imm => [0x0F#8, 0xA4#8] ++ encRM reg.num rm ++ [imm]
  | .shldRmRCl rm reg => [0x0F#8, 0xA5#8] ++ encRM reg.num rm
  | .shrdRmRIb rm reg imm => [0x0F#8, 0xAC#8] ++ encRM reg.num rm ++ [imm]
  | .shrdRmRCl rm reg => [0x0F#8, 0xAD#8] ++ encRM reg.num rm
  | .btRmR rm reg => [0x0F#8, 0xA3#8] ++ encRM reg.num rm
  | .btRmIb rm imm => [0x0F#8, 0xBA#8] ++ encRM 4#3 rm ++ [imm]
  | .btsRmR rm reg => [0x0F#8, 0xAB#8] ++ encRM reg.num rm
  | .btsRmIb rm imm => [0x0F#8, 0xBA#8] ++ encRM 5#3 rm ++ [imm]
  | .btrRmR rm reg => [0x0F#8, 0xB3#8] ++ encRM reg.num rm
  | .btrRmIb rm imm => [0x0F#8, 0xBA#8] ++ encRM 6#3 rm ++ [imm]
  | .btcRmR rm reg => [0x0F#8, 0xBB#8] ++ encRM reg.num rm
  | .btcRmIb rm imm => [0x0F#8, 0xBA#8] ++ encRM 7#3 rm ++ [imm]
  | .bsfRRm rm reg => [0x0F#8, 0xBC#8] ++ encRM reg.num rm
  | .bsrRRm rm reg => [0x0F#8, 0xBD#8] ++ encRM reg.num rm
  | .bswapR32 reg => [0x0F#8, 0xC8#8 + reg.num.setWidth 8]
  | .movsb => [0xA4#8]
  | .movsw => [0xA5#8]
  | .cmpsb => [0xA6#8]
  | .cmpsw => [0xA7#8]
  | .stosb => [0xAA#8]
  | .stosw => [0xAB#8]
  | .lodsb => [0xAC#8]
  | .lodsw => [0xAD#8]
  | .scasb => [0xAE#8]
  | .scasw => [0xAF#8]
  | .cmpxchgRm8R8 rm reg => [0x0F#8, 0xB0#8] ++ encRM reg.num rm
  | .cmpxchgRmR rm reg => [0x0F#8, 0xB1#8] ++ encRM reg.num rm
  | .xaddRm8R8 rm reg => [0x0F#8, 0xC0#8] ++ encRM reg.num rm
  | .xaddRmR rm reg => [0x0F#8, 0xC1#8] ++ encRM reg.num rm
  | .cmpxchg8bM64 m => [0x0F#8, 0xC7#8] ++ encMem 1#3 m
  | .movRm8R8 rm reg => [0x88#8] ++ encRM reg.num rm
  | .movRmR rm reg => [0x89#8] ++ encRM reg.num rm
  | .movR8Rm8 rm reg => [0x8A#8] ++ encRM reg.num rm
  | .movRRm rm reg => [0x8B#8] ++ encRM reg.num rm
  | .movRm8Ib rm imm => [0xC6#8] ++ encRM 0#3 rm ++ [imm]
  | .movRmIz rm imm => [0xC7#8] ++ encRM 0#3 rm ++ encSized osz imm
  | .movR8Ib reg imm => [0xB0#8 + reg.num.setWidth 8] ++ [imm]
  | .movRIz reg imm => [0xB8#8 + reg.num.setWidth 8] ++ encSized osz imm
  | .movAlMoffs off => [0xA0#8] ++ encSized asz off
  | .movEaxMoffs off => [0xA1#8] ++ encSized asz off
  | .movMoffsAl off => [0xA2#8] ++ encSized asz off
  | .movMoffsEax off => [0xA3#8] ++ encSized asz off
  | .xchgRm8R8 rm reg => [0x86#8] ++ encRM reg.num rm
  | .xchgRmR rm reg => [0x87#8] ++ encRM reg.num rm
  | .xchgEaxR reg => [0x90#8 + reg.num.setWidth 8]
  | .nop => [0x90#8]
  | .leaRM m reg => [0x8D#8] ++ encMem reg.num m
  | .movzxRRm8 rm reg => [0x0F#8, 0xB6#8] ++ encRM reg.num rm
  | .movzxRRm16 rm reg => [0x0F#8, 0xB7#8] ++ encRM reg.num rm
  | .movsxRRm8 rm reg => [0x0F#8, 0xBE#8] ++ encRM reg.num rm
  | .movsxRRm16 rm reg => [0x0F#8, 0xBF#8] ++ encRM reg.num rm
  | .cbw => [0x98#8]
  | .cwd => [0x99#8]
  | .pushR reg => [0x50#8 + reg.num.setWidth 8]
  | .popR reg => [0x58#8 + reg.num.setWidth 8]
  | .pushIz imm => [0x68#8] ++ encSized osz imm
  | .pushIbs imm => [0x6A#8] ++ [imm]
  | .pushRm rm => [0xFF#8] ++ encRM 6#3 rm
  | .popRm rm => [0x8F#8] ++ encRM 0#3 rm
  | .pusha => [0x60#8]
  | .popa => [0x61#8]
  | .xlat => [0xD7#8]
  | .leave => [0xC9#8]
  | .jccRel8 cc rel => [0x70#8 + cc.num.setWidth 8] ++ [rel]
  | .jccRelz cc rel => [0x0F#8, 0x80#8 + cc.num.setWidth 8] ++ encSized osz rel
  | .jmpRel8 rel => [0xEB#8] ++ [rel]
  | .jmpRelz rel => [0xE9#8] ++ encSized osz rel
  | .loopRel8 rel => [0xE2#8] ++ [rel]
  | .loopeRel8 rel => [0xE1#8] ++ [rel]
  | .loopneRel8 rel => [0xE0#8] ++ [rel]
  | .jcxzRel8 rel => [0xE3#8] ++ [rel]
  | .jmpRm rm => [0xFF#8] ++ encRM 4#3 rm
  | .callRelz rel => [0xE8#8] ++ encSized osz rel
  | .callRm rm => [0xFF#8] ++ encRM 2#3 rm
  | .ret => [0xC3#8]
  | .retIw imm => [0xC2#8] ++ enc16 imm
  | .jmpPtr off sel => [0xEA#8] ++ encSized osz off ++ enc16 sel
  | .jmpMemFar m => [0xFF#8] ++ encMem 5#3 m
  | .callPtr off sel => [0x9A#8] ++ encSized osz off ++ enc16 sel
  | .callMemFar m => [0xFF#8] ++ encMem 3#3 m
  | .retf => [0xCB#8]
  | .retfIw imm => [0xCA#8] ++ enc16 imm
  | .iret => [0xCF#8]
  | .intIb imm => [0xCD#8] ++ [imm]
  | .int3 => [0xCC#8]
  | .into => [0xCE#8]
  | .pushf => [0x9C#8]
  | .popf => [0x9D#8]
  | .sahf => [0x9E#8]
  | .lahf => [0x9F#8]
  | .clc => [0xF8#8]
  | .stc => [0xF9#8]
  | .cmc => [0xF5#8]
  | .cld => [0xFC#8]
  | .std => [0xFD#8]
  | .cli => [0xFA#8]
  | .sti => [0xFB#8]
  | .setccRm8 cc rm => [0x0F#8, 0x90#8 + cc.num.setWidth 8] ++ encRM 0#3 rm
  | .movSregRm16 rm sreg => [0x8E#8] ++ encRM sreg.num rm
  | .movRm16Sreg rm sreg => [0x8C#8] ++ encRM sreg.num rm
  | .pushEs => [0x06#8]
  | .pushCs => [0x0E#8]
  | .pushSs => [0x16#8]
  | .pushDs => [0x1E#8]
  | .pushFs => [0x0F#8, 0xA0#8]
  | .pushGs => [0x0F#8, 0xA8#8]
  | .popEs => [0x07#8]
  | .popSs => [0x17#8]
  | .popDs => [0x1F#8]
  | .popFs => [0x0F#8, 0xA1#8]
  | .popGs => [0x0F#8, 0xA9#8]
  | .ldsRMemFar m reg => [0xC5#8] ++ encMem reg.num m
  | .lesRMemFar m reg => [0xC4#8] ++ encMem reg.num m
  | .lssRMemFar m reg => [0x0F#8, 0xB2#8] ++ encMem reg.num m
  | .lfsRMemFar m reg => [0x0F#8, 0xB4#8] ++ encMem reg.num m
  | .lgsRMemFar m reg => [0x0F#8, 0xB5#8] ++ encMem reg.num m
  | .movCr0R32 reg => [0x0F#8, 0x22#8] ++ [modrmByte 3#2 0#3 reg.num]
  | .movCr2R32 reg => [0x0F#8, 0x22#8] ++ [modrmByte 3#2 2#3 reg.num]
  | .movCr3R32 reg => [0x0F#8, 0x22#8] ++ [modrmByte 3#2 3#3 reg.num]
  | .movR32Cr0 reg => [0x0F#8, 0x20#8] ++ [modrmByte 3#2 0#3 reg.num]
  | .movR32Cr2 reg => [0x0F#8, 0x20#8] ++ [modrmByte 3#2 2#3 reg.num]
  | .movR32Cr3 reg => [0x0F#8, 0x20#8] ++ [modrmByte 3#2 3#3 reg.num]
  | .smswRm16 rm => [0x0F#8, 0x01#8] ++ encRM 4#3 rm
  | .lmswRm16 rm => [0x0F#8, 0x01#8] ++ encRM 6#3 rm
  | .invlpgM m => [0x0F#8, 0x01#8] ++ encMem 7#3 m
  | .clts => [0x0F#8, 0x06#8]
  | .invd => [0x0F#8, 0x08#8]
  | .wbinvd => [0x0F#8, 0x09#8]
  | .hlt => [0xF4#8]
  | .ud2 => [0x0F#8, 0x0B#8]

/-- The bytes of an instruction with the prefixes that select `p`, in code whose default size is `big` (R207). -/
def encode (big : Bool) (p : Pfx) (i : Instr) : List Byte := encPrefixes (p.raw big) ++ encodeBody p.osz p.asz i

/-- The n low bytes of a number, the lowest first. -/
def bytesOfNat : Nat → Nat → List Byte
  | 0, _ => []
  | n + 1, w => BitVec.ofNat 8 w :: bytesOfNat n (w / 256)

/-- The bytes of a word of spec/opcode_table.json (bit 0 the least significant bit of the first byte), with zeros after it up to the longest
instruction, 15 bytes (R204). -/
def tableBytes (nbits w : Nat) : List Byte :=
  bytesOfNat (nbits / 8) w ++ List.replicate (15 - nbits / 8) 0#8

/-- The instruction the decoder reads from a word of spec/opcode_table.json, in 16-bit code, the size after reset. -/
def decodeTableWord (nbits w : Nat) : Option Instr :=
  match (decode .g486 false (tableBytes nbits w)).1 with
  | .instr _ i => some i
  | _ => none

end Sys2Proof
end

