-- ==== Sys2Proof/Machine/State.lean ====
section
/-! DEFINITION. The state of the core as plain data (spec/10_state.md), the reasons a step can stop, and the state after reset (R70). -/

namespace Sys2Proof.Machine

/-- The general registers (R30). -/
structure RegFile where
  eax : Word
  ecx : Word
  edx : Word
  ebx : Word
  esp : Word
  ebp : Word
  esi : Word
  edi : Word
  deriving DecidableEq, Repr, Inhabited

/-- A segment register: the visible selector and the hidden cache (R40). -/
structure SegCache where
  sel : Sel
  base : Word
  limit : Word
  big : Bool
  null : Bool
  deriving DecidableEq, Repr, Inhabited

/-- The six segment registers (R40, R41). -/
structure SegFile where
  es : SegCache
  cs : SegCache
  ss : SegCache
  ds : SegCache
  fs : SegCache
  gs : SegCache
  deriving DecidableEq, Repr, Inhabited

/-- A non-empty TLB entry (R50). -/
structure TlbEntry where
  physPage : BitVec 20
  uOk : Bool
  wOk : Bool
  deriving DecidableEq, Repr

/-- An entry of the forced map (R52). -/
structure FMapEntry where
  physPage : BitVec 20
  readOnly : Bool
  deriving DecidableEq, Repr

/-- The handler of a physical page (R53); `d` names the device. -/
inductive Handler where
  | ram
  | rom
  | mmio (d : Nat)
  | unmapped
  deriving DecidableEq, Repr

/-- The capability flags of a physical page (R53). -/
structure Cap where
  readable : Bool
  writable : Bool
  hasRom : Bool
  has32BitCode : Bool
  has16BitCode : Bool
  noDynamicCode : Bool
  init : Bool
  deriving DecidableEq, Repr

/-- The kind of a delivered event (spec/60_exceptions.md R712). -/
inductive EventKind where
  | fault
  | trap
  | software
  | external
  deriving DecidableEq, Repr

/-- An entry of the event history (R57). -/
inductive Event where
  /-- A read of `n` bytes at `pa` through an MMIO handler, with the value returned. -/
  | mmioRead (pa : Word) (n : Nat) (v : Word)
  /-- A write of `n` bytes at `pa` through an MMIO handler. -/
  | mmioWrite (pa : Word) (n : Nat) (v : Word)
  /-- A write to a ROM page that was dropped. -/
  | romWriteDiscarded (pa : Word) (n : Nat) (v : Word)
  /-- A write is about to reach a page flagged as holding code (R113). -/
  | smcInvalidate (page : Nat)
  /-- The environment wrote a byte (R151). -/
  | envWrite (pa : Word) (v : Byte)
  /-- An event was delivered (R712). -/
  | delivered (vector : Byte) (kind : EventKind)
  deriving DecidableEq, Repr

/-- The one-instruction interrupt inhibit (R55). -/
inductive Shadow where
  | none
  | sti
  | movss
  deriving DecidableEq, Repr, Inhabited

/-- The kind and detail of a `Fault` outcome; as a mark, why a run ended in a terminal fault (spec/00_scope.md R28, spec/60_exceptions.md
R709). -/
inductive Fault where
  /-- Raised by event delivery. As a mark: a fault-class guest fault in protected mode that PM_DELIVER refuses, with its vector and error code,
  and vector 8, error code 0 for a guest fault during real-mode delivery (R713, R715). As an outcome without a mark: a delivered guest fault
  (R716). Safe: the spec ends the run at the first and goes on after the second. -/
  | guest (vector : Byte) (err : Option Word)
  /-- Raised by a write to a ROM page, or through a read-only forced mapping, under the policy `trap` (R105). Safe: the spec ends the run
  there. -/
  | romWrite (pa : Word)
  /-- Raised by the instruction fetch if the decoder had no outcome (R740): the decoder is total, so no state reaches it. Safe. -/
  | hostFatal (bytes : List Byte)
  deriving DecidableEq, Repr

/-- Why a step has no meaning (R27). -/
inductive Refusal where
  /-- An instruction the model has no meaning for. Safe. No arm raises it. -/
  | notModelled (mnemonic : String)
  /-- Raised by the instruction fetch on an encoding of the refused list, with the stage that showed it and the bytes fetched
  (spec/30_encoding.md R232). Safe: the spec refuses it. -/
  | encoding (stage : DecodeStage) (bytes : List Byte)
  /-- Raised by a protected-mode load of a segment register that PM_LOAD_SEG refuses, with the instruction's bytes (R23). Safe: the spec
  refuses it. -/
  | pmLoadSeg (s : SegReg) (sel : Sel) (bytes : List Byte)
  /-- Raised by a protected-mode far jump, call or return that PM_FAR_TRANSFER refuses, with the instruction's bytes (R24). Safe: the spec
  refuses it. -/
  | pmFarTransfer (sel : Sel) (off : Word) (bytes : List Byte)
  /-- Raised by a protected-mode IRET that PM_IRET refuses, with the instruction's bytes (R24). Safe: the spec refuses it. -/
  | pmIret (bytes : List Byte)
  /-- Raised by the delivery of a software interrupt, a trap or an external interrupt that PM_DELIVER refuses, with the bytes of the
  instruction that led to it (R25). Safe: the spec refuses it. -/
  | pmDeliver (vector : Byte) (kind : EventKind) (bytes : List Byte)
  deriving DecidableEq, Repr

/-- What a step returns, beside the state (R15; spec/60_exceptions.md R716, R731). -/
inductive StepOutcome where
  /-- `Continue(state)`. -/
  | cont
  /-- `Fault(kind, detail)`: a delivered guest fault, after which the run goes on, or a terminal fault, whose mark is then set. -/
  | fault (f : Fault)
  /-- `Halted(state)`. -/
  | halted
  /-- `Refused(reason)`, whose mark is then set. -/
  | refused (r : Refusal)
  deriving DecidableEq, Repr

/-- The state of the core. -/
structure State where
  /-- The launch parameters (spec/00_scope.md R11); no step changes them. -/
  cfg : Config
  /-- The general registers (R30). -/
  regs : RegFile
  /-- The written bits (R34): bit 4·i + k for byte k of the register with number i. -/
  written : Word
  /-- The instruction pointer (R35). -/
  eip : Word
  /-- The offset of the first byte of the instruction being executed (R36). -/
  eipStart : Word
  /-- The flags register (R37). -/
  eflags : Word
  /-- The segment registers (R40). -/
  segs : SegFile
  /-- CR0 (R44). -/
  cr0 : Word
  /-- CR2, the last page fault's linear address (R45). -/
  cr2 : Word
  /-- CR3, the page directory base (R46). -/
  cr3 : Word
  /-- The current privilege level (R48). -/
  cpl : BitVec 2
  /-- The read direction of the TLB: the non-empty entries by linear page, ascending (R50). -/
  tlbR : List (Nat × TlbEntry)
  /-- The write direction of the TLB (R50). -/
  tlbW : List (Nat × TlbEntry)
  /-- The forced map: its entries by linear page, ascending (R52). -/
  fmap : List (Nat × FMapEntry)
  /-- The physical pages whose handler is not their reset handler, ascending (R53). -/
  handlers : List (Nat × Handler)
  /-- The physical pages whose capability flags are not their reset flags, ascending (R53). -/
  caps : List (Nat × Cap)
  /-- The flat memory store: the bytes written since launch or given by it, by physical address, ascending (R54). -/
  mem : List Host.Cell
  /-- HLT was executed and no event has been accepted since (R55). -/
  halted : Bool
  /-- The interrupt shadow (R55). -/
  shadow : Shadow
  /-- The sticky refusal mark (R27). -/
  refused : Option Refusal
  /-- The sticky terminal-fault mark (R28). -/
  faulted : Option Fault
  /-- The prefix state of the instruction being decoded or executed (R55, R205). -/
  prefixes : Prefixes
  /-- The bytes of the instruction being executed, for the reason of a refusal (R27, notes/assumptions/26.md). -/
  fetched : List Byte
  /-- What the last step returned (R15; spec/60_exceptions.md R716; notes/assumptions/9.md). -/
  outcome : StepOutcome
  /-- The event history, the newest event first (R57). -/
  history : List Event
  /-- The external interrupt line (R720). -/
  intr : Option Byte
  /-- The model's own counter of the draws taken (R26, notes/assumptions/4.md). -/
  draws : Nat
  deriving DecidableEq, Repr

/-- A real-mode segment register (R42) with the reset limit. -/
def SegCache.real (sel : Sel) (base : Word) : SegCache := { sel, base, limit := 0xFFFF#32, big := false, null := false }

/-- CR0 after reset, by generation (R70). -/
def resetCr0 (gen : CpuGen) : Word :=
  match gen with
  | .g386 => 0x00000010#32
  | .g486 | .g586 => 0x60000010#32

/-- The state after reset under given launch parameters (R70, R770). The general registers, `eipStart`, `prefixes`,
`fetched`, `outcome` and `draws` have no reset value in the spec (notes/assumptions/2.md, 4.md, 9.md, 19.md, 26.md). -/
def State.resetWith (c : Config) : State :=
  { cfg := c
    regs := { eax := 0, ecx := 0, edx := 0, ebx := 0, esp := 0, ebp := 0, esi := 0, edi := 0 }
    written := 0
    eip := 0x0000FFF0#32
    eipStart := 0x0000FFF0#32
    eflags := 0x00000002#32
    segs :=
      { es := SegCache.real 0 0
        cs := SegCache.real 0xF000#16 0xFFFF0000#32
        ss := SegCache.real 0 0
        ds := SegCache.real 0 0
        fs := SegCache.real 0 0
        gs := SegCache.real 0 0 }
    cr0 := resetCr0 c.gen
    cr2 := 0
    cr3 := 0
    cpl := 0
    tlbR := []
    tlbW := []
    fmap := []
    handlers := []
    caps := []
    mem := []
    halted := false
    shadow := .none
    refused := none
    faulted := none
    prefixes := Prefixes.clear
    fetched := []
    outcome := .cont
    history := []
    intr := none
    draws := 0 }

/-- The state after reset, with the parameter values of the spec's examples (notes/assumptions/1.md). -/
def State.reset : State := State.resetWith Config.examples

end Sys2Proof.Machine
end

