-- ==== Sys2Proof/Machine/Store.lean ====
section
/-! DEFINITION. Tables held as ascending lists, and the flat memory store (spec/20_memory.md R101, R102). -/

namespace Sys2Proof.Machine

/-- The value of a key in an ascending list of keys and values. -/
def tableGet {α : Type} : List (Nat × α) → Nat → Option α
  | [], _ => none
  | (k, v) :: rest, a => if k = a then some v else tableGet rest a

/-- Give a key a value, keeping the list ascending. -/
def tableSet {α : Type} : List (Nat × α) → Nat → α → List (Nat × α)
  | [], a, x => [(a, x)]
  | (k, v) :: rest, a, x =>
    if a < k then (a, x) :: (k, v) :: rest
    else if a = k then (a, x) :: rest
    else (k, v) :: tableSet rest a x

/-- Take a key's entry out. -/
def tableErase {α : Type} (l : List (Nat × α)) (a : Nat) : List (Nat × α) := l.filter fun e => e.1 != a

/-- The canonical form: keys strictly ascending and below a bound. -/
def tableWf {α : Type} (bound : Nat) : List (Nat × α) → Bool
  | [] => true
  | [(k, _)] => k < bound
  | (k, _) :: (k', v') :: rest => k < k' && tableWf bound ((k', v') :: rest)

/-- The canonical form of the flat store: addresses strictly rising, all in the 32-bit physical space (R100). An unlisted address has no
value of its own, so every written byte is listed (notes/assumptions/3.md). -/
def memWf (m : List Host.Cell) : Bool := tableWf (2 ^ 32) m

/-- The byte at a physical address of the store: the one written last, else the one the launch left there, a free value (R54). -/
def memByte (m : List Host.Cell) (a : Nat) : Byte := (tableGet m a).getD (Config.ramByte a)

/-- The value of little-endian bytes (R102). -/
def leNat : List Byte → Nat
  | [] => 0
  | b :: bs => b.toNat + 256 * leNat bs

/-- The n low bytes of a value, the lowest first (R102). -/
def leBytes : Nat → Nat → List Byte
  | 0, _ => []
  | n + 1, v => BitVec.ofNat 8 v :: leBytes n (v / 256)

/-- n bytes of the store from a physical address, modulo 2^32 (R105, R110). -/
def memRead (m : List Host.Cell) (a : Word) : Nat → List Byte
  | 0 => []
  | n + 1 => memByte m a.toNat :: memRead m (a + 1#32) n

/-- Store bytes from a physical address, modulo 2^32 (R105, R110). -/
def memWrite (m : List Host.Cell) (a : Word) : List Byte → List Host.Cell
  | [] => m
  | b :: bs => memWrite (tableSet m a.toNat b) (a + 1#32) bs

end Sys2Proof.Machine
end

