-- ==== Sys2Proof/Machine/Regs.lean ====
section
/-! DEFINITION. Reading and writing registers: the general registers with their 8- and 16-bit views (spec/10_state.md R31, R32), the
segment registers (R40, R41), the control bits of CR0 (R44), and what the prefix state selects (spec/30_encoding.md R207). -/

namespace Sys2Proof.Machine

/-- A 32-bit general register (R31). -/
def RegFile.get (f : RegFile) (r : Reg) : Word :=
  match r with
  | .eax => f.eax
  | .ecx => f.ecx
  | .edx => f.edx
  | .ebx => f.ebx
  | .esp => f.esp
  | .ebp => f.ebp
  | .esi => f.esi
  | .edi => f.edi

/-- Replace a 32-bit general register (R32). -/
def RegFile.set (f : RegFile) (r : Reg) (v : Word) : RegFile :=
  match r with
  | .eax => { f with eax := v }
  | .ecx => { f with ecx := v }
  | .edx => { f with edx := v }
  | .ebx => { f with ebx := v }
  | .esp => { f with esp := v }
  | .ebp => { f with ebp := v }
  | .esi => { f with esi := v }
  | .edi => { f with edi := v }

/-- The 32-bit register that holds the byte register with this number: i for i < 4, i - 4 otherwise (R31). -/
def byteParent (r : Reg) : Reg :=
  match r with
  | .eax | .esp => .eax
  | .ecx | .ebp => .ecx
  | .edx | .esi => .edx
  | .ebx | .edi => .ebx

/-- The byte register with this number is bits 15:8 of its parent, and not bits 7:0 (R31). -/
def byteIsHigh (r : Reg) : Bool :=
  match r with
  | .eax | .ecx | .edx | .ebx => false
  | .esp | .ebp | .esi | .edi => true

/-- `GPR8[i]` (R31). -/
def RegFile.get8 (f : RegFile) (r : Reg) : Byte :=
  if byteIsHigh r then (f.get (byteParent r)).extractLsb' 8 8 else (f.get (byteParent r)).extractLsb' 0 8

/-- `GPR16[i]` (R31). -/
def RegFile.get16 (f : RegFile) (r : Reg) : BitVec 16 := (f.get r).extractLsb' 0 16

/-- Write `GPR8[i]`: only its 8 bits change (R32). -/
def RegFile.set8 (f : RegFile) (r : Reg) (v : Byte) : RegFile :=
  let old := f.get (byteParent r)
  if byteIsHigh r then f.set (byteParent r) (old.extractLsb' 16 16 ++ v ++ old.extractLsb' 0 8)
  else f.set (byteParent r) (old.extractLsb' 8 24 ++ v)

/-- Write `GPR16[i]`: bits 31:16 stay (R32). -/
def RegFile.set16 (f : RegFile) (r : Reg) (v : BitVec 16) : RegFile := f.set r ((f.get r).extractLsb' 16 16 ++ v)

/-- `GPRw[i]` (R31). -/
def State.gpr (s : State) (w : Width) (r : Reg) : BitVec w.bits :=
  match w with
  | .b8 => s.regs.get8 r
  | .b16 => s.regs.get16 r
  | .b32 => s.regs.get r

/-- `GPR32[i]` (R31). -/
def State.gpr32 (s : State) (r : Reg) : Word := s.regs.get r

/-- `GPR16[i]` (R31). -/
def State.gpr16 (s : State) (r : Reg) : BitVec 16 := s.regs.get16 r

/-- The written bits a write of width w sets (R34). -/
def writtenMask (w : Width) (r : Reg) : Word :=
  match w with
  | .b8 => 1#32 <<< (4 * (byteParent r).num.toNat + (if byteIsHigh r then 1 else 0))
  | .b16 => 3#32 <<< (4 * r.num.toNat)
  | .b32 => 15#32 <<< (4 * r.num.toNat)

/-- The register file after a write of width w (R32). -/
def RegFile.setW (f : RegFile) (w : Width) (r : Reg) (v : BitVec w.bits) : RegFile :=
  match w with
  | .b8 => f.set8 r v
  | .b16 => f.set16 r v
  | .b32 => f.set r v

/-- `GPRw[i] <- v` (R32, R34). -/
def State.setGpr (s : State) (w : Width) (r : Reg) (v : BitVec w.bits) : State :=
  { s with regs := s.regs.setW w r v, written := s.written ||| writtenMask w r }

/-- A segment register (R41). -/
def SegFile.get (f : SegFile) (r : SegReg) : SegCache :=
  match r with
  | .es => f.es
  | .cs => f.cs
  | .ss => f.ss
  | .ds => f.ds
  | .fs => f.fs
  | .gs => f.gs

/-- Replace a segment register. -/
def SegFile.set (f : SegFile) (r : SegReg) (c : SegCache) : SegFile :=
  match r with
  | .es => { f with es := c }
  | .cs => { f with cs := c }
  | .ss => { f with ss := c }
  | .ds => { f with ds := c }
  | .fs => { f with fs := c }
  | .gs => { f with gs := c }

/-- `SEG[r]`. -/
def State.seg (s : State) (r : SegReg) : SegCache := s.segs.get r

/-- `SEG[r] <- c`. -/
def State.setSeg (s : State) (r : SegReg) (c : SegCache) : State := { s with segs := s.segs.set r c }

/-- The real-mode load of a selector: `sel` and `base` change, `null` clears, `limit` and `big` stay (R42). -/
def SegCache.loadReal (c : SegCache) (v : Sel) : SegCache :=
  { c with sel := v, base := v.setWidth 32 <<< 4, null := false }

/-- CR0.PE (R44). -/
def State.pe (s : State) : Bool := s.cr0.getLsbD 0

/-- CR0.PG, the source's `enabled` (R44, R49). -/
def State.pg (s : State) : Bool := s.cr0.getLsbD 31

/-- CR0.WP (R44). -/
def State.wp (s : State) : Bool := s.cr0.getLsbD 16

/-- The default size `D` of the code segment (R43). -/
def State.codeBig (s : State) : Bool := s.segs.cs.big

/-- The stack is 32 bits wide (R43). -/
def State.stackBig (s : State) : Bool := s.segs.ss.big

/-- What the prefix state selects (spec/30_encoding.md R207). -/
def State.pfx (s : State) : Pfx := Pfx.of s.codeBig s.prefixes

/-- Append an entry to the event history (R57). -/
def State.record (s : State) (e : Event) : State := { s with history := e :: s.history }

/-- Neither sticky mark is set (spec/00_scope.md R27, R28). -/
def State.unmarked (s : State) : Bool := s.refused.isNone && s.faulted.isNone

/-- The step ends in a terminal fault: the sticky mark and the outcome (spec/00_scope.md R28; spec/60_exceptions.md R716). -/
def State.endFault (s : State) (f : Fault) : State := { s with faulted := some f, outcome := .fault f }

/-- The step ends in a refusal: the sticky mark and the outcome (spec/00_scope.md R27). -/
def State.endRefused (s : State) (r : Refusal) : State := { s with refused := some r, outcome := .refused r }

/-- The stage of a step at which a refusal arises (spec/00_scope.md R21, R27). -/
inductive RefusalStage where
  /-- Decoding: the opcode byte, the byte after 0F, or the ModRM reg field. -/
  | decode (d : DecodeStage)
  /-- Executing the decoded instruction, the events at its end included. -/
  | execute
  /-- The boundary before an instruction, where an external interrupt is accepted. -/
  | boundary
  deriving DecidableEq, Repr

/-- The stage a refusal's reason holds (R27; notes/assumptions/26.md). -/
def Refusal.stage : Refusal → RefusalStage
  | .encoding d _ => .decode d
  | .pmDeliver _ .external _ => .boundary
  | _ => .execute

/-- The bytes a refusal's reason holds (R27; notes/assumptions/26.md). -/
def Refusal.bytes : Refusal → List Byte
  | .encoding _ bytes | .pmLoadSeg _ _ bytes | .pmFarTransfer _ _ bytes | .pmIret bytes | .pmDeliver _ _ bytes => bytes
  | _ => []

end Sys2Proof.Machine
end

