-- ==== Sys2Proof/Machine/Flags.lean ====
section
/-! DEFINITION. The flags register (spec/10_state.md R37, R38), the flag computations of spec/41_arithmetic.md R350 to R353, and the
conditions of spec/30_encoding.md R224. -/

namespace Sys2Proof.Machine

/-- A named flag of EFLAGS (R37). -/
inductive Flag where
  | cf | pf | af | zf | sf | tf | intr | df | of | nt | rf | ac
  deriving DecidableEq, Repr

/-- The bit of a flag in EFLAGS (R37); `intr` is IF. -/
def Flag.bit : Flag → Nat
  | .cf => 0
  | .pf => 2
  | .af => 4
  | .zf => 6
  | .sf => 7
  | .tf => 8
  | .intr => 9
  | .df => 10
  | .of => 11
  | .nt => 14
  | .rf => 16
  | .ac => 18

/-- Read a flag of a flags word. -/
def getFlag (v : Word) (f : Flag) : Bool := v.getLsbD f.bit

/-- Write a flag of a flags word. -/
def putFlag (v : Word) (f : Flag) (b : Bool) : Word :=
  if b then v ||| (1#32 <<< f.bit) else v &&& ~~~(1#32 <<< f.bit)

/-- `EFLAGS.f`. -/
def State.flag (s : State) (f : Flag) : Bool := getFlag s.eflags f

/-- `EFLAGS.f <- b`. -/
def State.setFlag (s : State) (f : Flag) (b : Bool) : State := { s with eflags := putFlag s.eflags f b }

/-- EFLAGS.IOPL (R37). -/
def State.iopl (s : State) : BitVec 2 := s.eflags.extractLsb' 12 2

/-- The bits of EFLAGS that R38 forces to 0: 3, 5, 15, 19, 20, 31:22, bit 18 at 386, bit 21 below 586. -/
def fixedZero (gen : CpuGen) : Word :=
  match gen with
  | .g386 => 0xFFFC8028#32
  | .g486 => 0xFFF88028#32
  | .g586 => 0xFFD88028#32

/-- Force the fixed bits of EFLAGS: bit 1 is 1, the bits of `fixedZero` are 0 (R38). -/
def forceFixed (gen : CpuGen) (v : Word) : Word := (v &&& ~~~fixedZero gen) ||| 0x2#32

/-- The writable part of a mask: without AC at 386, without ID below 586 (spec/47_flags.md R615). -/
def writableMask (gen : CpuGen) (mask : Word) : Word :=
  match gen with
  | .g386 => mask &&& ~~~0x00240000#32
  | .g486 => mask &&& ~~~0x00200000#32
  | .g586 => mask

/-- `SetEFLAGS(v, mask)` on a flags word (R615). -/
def mergeFlags (gen : CpuGen) (old v mask : Word) : Word :=
  let m := writableMask gen mask
  forceFixed gen ((old &&& ~~~m) ||| (v &&& m))

/-- `SetEFLAGS(v, mask)` (R615). -/
def State.setEflags (s : State) (v mask : Word) : State := { s with eflags := mergeFlags s.cfg.gen s.eflags v mask }

/-- The six status flags. -/
structure Status where
  cf : Bool
  pf : Bool
  af : Bool
  zf : Bool
  sf : Bool
  of : Bool
  deriving DecidableEq, Repr

/-- The status flags of a flags word. -/
def Status.of32 (v : Word) : Status :=
  { cf := getFlag v .cf, pf := getFlag v .pf, af := getFlag v .af, zf := getFlag v .zf, sf := getFlag v .sf, of := getFlag v .of }

/-- A flags word with the six status flags replaced. -/
def Status.put (st : Status) (v : Word) : Word :=
  putFlag (putFlag (putFlag (putFlag (putFlag (putFlag v .cf st.cf) .pf st.pf) .af st.af) .zf st.zf) .sf st.sf) .of st.of

/-- The status flags of the state. -/
def State.status (s : State) : Status := Status.of32 s.eflags

/-- Replace the status flags of the state. -/
def State.setStatus (s : State) (st : Status) : State := { s with eflags := st.put s.eflags }

/-- `Parity(r)`: the low 8 bits have an even number of 1 bits (R350). -/
def parity {n : Nat} (r : BitVec n) : Bool :=
  !(r.getLsbD 0 ^^ r.getLsbD 1 ^^ r.getLsbD 2 ^^ r.getLsbD 3 ^^ r.getLsbD 4 ^^ r.getLsbD 5 ^^ r.getLsbD 6 ^^ r.getLsbD 7)

/-- A carry as a w-bit value. -/
def carryIn (n : Nat) (c : Bool) : BitVec n := if c then 1#n else 0#n

/-- The sum of rule R351. -/
def addResult {n : Nat} (a b : BitVec n) (c : Bool) : BitVec n := a + b + carryIn n c

/-- `FlagsAdd(a, b, c, w)` (R351). -/
def flagsAdd {n : Nat} (a b : BitVec n) (c : Bool) : Status :=
  let r := addResult a b c
  { cf := decide (a.toNat + b.toNat + c.toNat ≥ 2 ^ n), pf := parity r, af := (a ^^^ b ^^^ r).getLsbD 4, zf := r == 0#n, sf := r.msb
    of := a.msb == b.msb && r.msb != a.msb }

/-- The difference of rule R352. -/
def subResult {n : Nat} (a b : BitVec n) (c : Bool) : BitVec n := a - b - carryIn n c

/-- `FlagsSub(a, b, c, w)` (R352). -/
def flagsSub {n : Nat} (a b : BitVec n) (c : Bool) : Status :=
  let r := subResult a b c
  { cf := decide (a.toNat < b.toNat + c.toNat), pf := parity r, af := (a ^^^ b ^^^ r).getLsbD 4, zf := r == 0#n, sf := r.msb
    of := a.msb != b.msb && r.msb != a.msb }

/-- `FlagsLogic(r, w)`, AF the value drawn (R353). -/
def flagsLogic {n : Nat} (r : BitVec n) (af : Bool) : Status :=
  { cf := false, pf := parity r, af := af, zf := r == 0#n, sf := r.msb, of := false }

/-- The seven shift and rotate operations of group 2 (spec/42_shift_rotate.md R420). -/
inductive ShiftOp where
  | rol | ror | rcl | rcr | shl | shr | sar
  deriving DecidableEq, Repr

/-- The rotates write only CF and OF (R423). -/
def ShiftOp.isRotate : ShiftOp → Bool
  | .rol | .ror | .rcl | .rcr => true
  | .shl | .shr | .sar => false

/-- What a shift by c ≠ 0 gives: the result, the new CF (`none` where it is undefined), and OF for c = 1 (R424 to R430). -/
structure ShiftOut (n : Nat) where
  r : BitVec n
  cf : Option Bool
  of1 : Bool
  deriving DecidableEq, Repr

/-- ROL (R424). -/
def rolOut {n : Nat} (a : BitVec n) (c : Nat) : ShiftOut n :=
  let r := a.rotateLeft (c % n)
  { r := r, cf := some (r.getLsbD 0), of1 := r.msb ^^ r.getLsbD 0 }

/-- ROR (R425). -/
def rorOut {n : Nat} (a : BitVec n) (c : Nat) : ShiftOut n :=
  let r := a.rotateRight (c % n)
  { r := r, cf := some r.msb, of1 := r.msb ^^ r.getLsbD (n - 2) }

/-- RCL, on the (w+1)-bit value CF : a (R426); c mod (w+1) is c itself at w = 32. -/
def rclOut {n : Nat} (a : BitVec n) (cf : Bool) (c : Nat) : ShiftOut n :=
  let t := (BitVec.cons cf a).rotateLeft (c % (n + 1))
  { r := t.setWidth n, cf := some t.msb, of1 := (t.setWidth n).msb ^^ t.msb }

/-- RCR (R427). -/
def rcrOut {n : Nat} (a : BitVec n) (cf : Bool) (c : Nat) : ShiftOut n :=
  let t := (BitVec.cons cf a).rotateRight (c % (n + 1))
  { r := t.setWidth n, cf := some t.msb, of1 := (t.setWidth n).msb ^^ (t.setWidth n).getLsbD (n - 2) }

/-- SHL (R428). -/
def shlOut {n : Nat} (a : BitVec n) (c : Nat) : ShiftOut n :=
  { r := a <<< c, cf := if c < n then some (a.getLsbD (n - c)) else none, of1 := (a <<< c).msb ^^ a.getLsbD (n - c) }

/-- SHR (R429). -/
def shrOut {n : Nat} (a : BitVec n) (c : Nat) : ShiftOut n :=
  { r := a >>> c, cf := if c < n then some (a.getLsbD (c - 1)) else none, of1 := a.msb }

/-- SAR (R430). -/
def sarOut {n : Nat} (a : BitVec n) (c : Nat) : ShiftOut n :=
  { r := a.sshiftRight c, cf := some (if c < n then a.getLsbD (c - 1) else a.msb), of1 := false }

/-- A shift or rotate by c ≠ 0, with the old CF (R424 to R430). -/
def shiftOut {n : Nat} (op : ShiftOp) (a : BitVec n) (cf : Bool) (c : Nat) : ShiftOut n :=
  match op with
  | .rol => rolOut a c
  | .ror => rorOut a c
  | .rcl => rclOut a cf c
  | .rcr => rcrOut a cf c
  | .shl => shlOut a c
  | .shr => shrOut a c
  | .sar => sarOut a c

/-- SHLD by 1 ≤ c ≤ w (R431). -/
def shldOut {n : Nat} (a b : BitVec n) (c : Nat) : ShiftOut n :=
  let r := (a <<< c) ||| (b >>> (n - c))
  { r := r, cf := some (a.getLsbD (n - c)), of1 := r.msb ^^ a.msb }

/-- SHRD by 1 ≤ c ≤ w (R432). -/
def shrdOut {n : Nat} (a b : BitVec n) (c : Nat) : ShiftOut n :=
  let r := (a >>> c) ||| (b <<< (n - c))
  { r := r, cf := some (a.getLsbD (c - 1)), of1 := r.msb ^^ a.msb }

/-- The status flags after a shift or rotate by c ≠ 0: `cf`, `of` and `af` are the values the caller settled, drawn ones among them (R423). -/
def shiftStatus {n : Nat} (rotate : Bool) (st : Status) (r : BitVec n) (cf of af : Bool) : Status :=
  if rotate then { st with cf := cf, of := of }
  else { cf := cf, pf := parity r, af := af, zf := r == 0#n, sf := r.msb, of := of }

/-- The index of the lowest 1 bit, if any (spec/43_bit_manipulation.md R468). -/
def lowestBit {n : Nat} (v : BitVec n) : Option Nat := (List.range n).find? fun i => v.getLsbD i

/-- The index of the highest 1 bit, if any (R469). -/
def highestBit {n : Nat} (v : BitVec n) : Option Nat := (List.range n).reverse.find? fun i => v.getLsbD i

/-- `Cond(cc)` (spec/30_encoding.md R224). -/
def condHolds (cc : Cond) (v : Word) : Bool :=
  let f := getFlag v
  match cc with
  | .o => f .of
  | .no => !f .of
  | .b => f .cf
  | .ae => !f .cf
  | .e => f .zf
  | .ne => !f .zf
  | .be => f .cf || f .zf
  | .a => !f .cf && !f .zf
  | .s => f .sf
  | .ns => !f .sf
  | .p => f .pf
  | .np => !f .pf
  | .l => f .sf != f .of
  | .ge => f .sf == f .of
  | .le => f .zf || f .sf != f .of
  | .g => !f .zf && f .sf == f .of

end Sys2Proof.Machine
end

