-- ==== Sys2Proof/Machine/Wf.lean ====
section
/-! DEFINITION. What every reachable state satisfies: the tables in canonical form, the reserved bits of EFLAGS and CR0 as the spec reads
them, and the relations of mode, privilege and TLB. It is also what an answer of a protected-mode parameter must satisfy
(notes/assumptions/7.md). -/

namespace Sys2Proof.Machine

/-- The canonical form of the store (spec/20_memory.md R102; notes/assumptions/3.md). -/
def Memory.wf (m : List Host.Cell) : Bool := memWf m

/-- The reset handler of a physical page (spec/10_state.md R53). -/
def resetHandler (c : Config) (p : Nat) : Handler := if p < c.installedPages then .ram else .unmapped

/-- The reset capability flags of a physical page (R53). -/
def resetCap (c : Config) (p : Nat) : Cap :=
  { readable := true, writable := decide (p < c.installedPages), hasRom := false, has32BitCode := false, has16BitCode := false
    noDynamicCode := false, init := false }

/-- EFLAGS holds its fixed bits, and VM is 0 (R38, R39). -/
def eflagsWf (gen : CpuGen) (v : Word) : Bool := forceFixed gen v == v && !v.getLsbD 17

/-- The bits of CR0 that exist in a generation, ET apart (R44). -/
def cr0Mask (gen : CpuGen) : Word :=
  match gen with
  | .g386 => 0x8000000F#32
  | .g486 | .g586 => 0xE005002F#32

/-- A value as CR0 holds it: ET reads 1, reserved bits read 0 (R44). -/
def cr0Of (gen : CpuGen) (v : Word) : Word := (v &&& cr0Mask gen) ||| 0x10#32

/-- The handler table in canonical form: it lists the pages whose handler is not the reset one. -/
def handlersWf (c : Config) (l : List (Nat × Handler)) : Bool :=
  tableWf (2 ^ 20) l && l.all fun e => e.2 != resetHandler c e.1

/-- The capability table in canonical form. -/
def capsWf (c : Config) (l : List (Nat × Cap)) : Bool :=
  tableWf (2 ^ 20) l && l.all fun e => e.2 != resetCap c e.1

/-- The tables of the state are in canonical form. -/
def State.tablesWf (s : State) : Bool :=
  Memory.wf s.mem && tableWf (2 ^ 20) s.tlbR && tableWf (2 ^ 20) s.tlbW && tableWf (2 ^ 20) s.fmap && handlersWf s.cfg s.handlers &&
    capsWf s.cfg s.caps

/-- CR0 holds its reserved bits, paging needs protection, privilege is 0 in real mode, and the TLB is empty with paging off (R44, R48, R49;
spec/49_system.md R670). -/
def State.modeWf (s : State) : Bool :=
  cr0Of s.cfg.gen s.cr0 == s.cr0 && (!s.pg || s.pe) && (s.pe || s.cpl == 0#2) && (s.pg || (s.tlbR.isEmpty && s.tlbW.isEmpty))

/-- The invariant of the machine. -/
def State.wf (s : State) : Bool := s.tablesWf && eflagsWf s.cfg.gen s.eflags && s.modeWf

end Sys2Proof.Machine
end

