-- ==== Sys2Proof/Machine/Params.lean ====
section
/-! DEFINITION. The open protected-mode parameters PM_LOAD_SEG, PM_FAR_TRANSFER, PM_IRET and PM_DELIVER (spec/00_scope.md R23 to R25): the
default, which refuses every input, or a supplied one, a constant with no body whose answer counts only when it keeps what the spec requires
of it (notes/assumptions/7.md). -/

namespace Sys2Proof.Machine

/-- An answer of PM_LOAD_SEG (R23). -/
inductive PmSeg where
  | refuse
  | fault (v : Byte) (err : Option Word)
  | ok (c : SegCache)
  deriving Inhabited

/-- An answer of PM_FAR_TRANSFER, PM_IRET or PM_DELIVER (R24, R25). -/
inductive PmAnswer where
  | refuse
  | fault (v : Byte) (err : Option Word)
  | ok (t : State)
  deriving Inhabited

/-- The kinds of far transfer (R24); `retfImm` carries the immediate of RETF iw. -/
inductive FarKind where
  | jmp
  | call
  | ret
  | retfImm (imm : BitVec 16)
  deriving DecidableEq, Repr

/-- A supplied PM_LOAD_SEG: nothing constrains it. -/
opaque Params.loadSeg : SegReg → Sel → State → PmSeg

/-- A supplied PM_FAR_TRANSFER, told the operand size of the transfer: nothing constrains it. -/
opaque Params.farTransfer : FarKind → Size → Sel → Word → State → PmAnswer

/-- A supplied PM_IRET: nothing constrains it. -/
opaque Params.iret : Size → State → PmAnswer

/-- A supplied PM_DELIVER: nothing constrains it. -/
opaque Params.deliver : Byte → Option Word → EventKind → State → PmAnswer

/-- A selector is null when its bits 15:2 are 0 (spec/48_segment_loads.md R640). -/
def selNull (v : Sel) : Bool := v.extractLsb' 2 14 == 0#14

/-- What R23 and R640 require of an `Ok` answer: a null selector is never `Ok` for SS, and gives a null cache elsewhere. -/
def loadSegAllowed (r : SegReg) (v : Sel) (c : SegCache) : Bool := !selNull v || (r != .ss && c.null)

/-- What an `Ok(state')` answer must keep: the launch parameters, the event history so far, the draws taken, no mark, the step's own records,
and the invariant, with VM = 0 in it (spec/10_state.md R39). -/
def answerAllowed (s t : State) : Bool :=
  t.cfg == s.cfg && s.history.isSuffixOf t.history && decide (s.draws ≤ t.draws) && t.unmarked && t.fetched == s.fetched &&
    t.outcome == s.outcome && t.wf

/-- An answer that breaks what is required of it refuses. -/
def PmAnswer.checked (s : State) (a : PmAnswer) : PmAnswer :=
  match a with
  | .ok t => if answerAllowed s t then .ok t else .refuse
  | .fault v err => .fault v err
  | .refuse => .refuse

/-- PM_LOAD_SEG (R23). -/
def pmLoadSeg (r : SegReg) (v : Sel) (s : State) : PmSeg :=
  match s.cfg.pmLoadSeg with
  | .refuse => .refuse
  | .supplied =>
    match Params.loadSeg r v s with
    | .ok c => if loadSegAllowed r v c then .ok c else .refuse
    | .fault w err => .fault w err
    | .refuse => .refuse

/-- PM_FAR_TRANSFER (R24). -/
def pmFarTransfer (kind : FarKind) (osz : Size) (sel : Sel) (off : Word) (s : State) : PmAnswer :=
  match s.cfg.pmFarTransfer with
  | .refuse => .refuse
  | .supplied => (Params.farTransfer kind osz sel off s).checked s

/-- PM_IRET (R24). -/
def pmIret (osz : Size) (s : State) : PmAnswer :=
  match s.cfg.pmIret with
  | .refuse => .refuse
  | .supplied => (Params.iret osz s).checked s

/-- PM_DELIVER (R25), which answers `Ok` or `Refuse` alone: a `Fault` answer refuses. -/
def pmDeliver (v : Byte) (err : Option Word) (kind : EventKind) (s : State) : PmAnswer :=
  match s.cfg.pmDeliver with
  | .refuse => .refuse
  | .supplied =>
    match (Params.deliver v err kind s).checked s with
    | .ok t => .ok t
    | .fault _ _ => .refuse
    | .refuse => .refuse

end Sys2Proof.Machine
end

