-- ==== Sys2Proof/Machine/Ops.lean ====
section
/-! DEFINITION. The named operations over memory and registers: how an instruction can stop, free values, page handlers and physical access
(spec/20_memory.md R105 to R113), the table walk, the TLB and translation (R121 to R134), linear and segmented access (R140 to R146), the
stack (spec/40_data_movement.md R302, R303), segment loads and far transfers, taking an event (spec/60_exceptions.md R700, R712 to R715),
and how an instruction's body becomes an outcome. -/

namespace Sys2Proof.Machine

/-! How an instruction runs. -/

/-- Why an instruction's body stopped. -/
inductive Stop where
  /-- `raise #XX(err)`: a guest fault (spec/00_scope.md R15). -/
  | fault (v : Byte) (err : Option Word)
  /-- INT n, INT3, or INTO with OF = 1: an event delivered after the instruction, with the return offset `eip_next` (R706). -/
  | trap (v : Byte) (kind : EventKind)
  /-- A terminal model fault (R709). -/
  | model (f : Fault)
  /-- `refuse(reason)` (spec/00_scope.md R27). -/
  | refuse (r : Refusal)
  deriving DecidableEq, Repr

/-- A piece of an instruction: it goes on with a value or stops, and either way leaves the state it reached. -/
abbrev Act := EStateM Stop State

/-- Read something of the state. -/
def look {α : Type} (f : State → α) : Act α := fun s => .ok (f s) s

/-- Change the state. -/
def update (f : State → State) : Act Unit := fun s => .ok () (f s)

/-- Stop. -/
def stop {α : Type} (e : Stop) : Act α := fun s => .error e s

/-- Raise a guest fault without an error code: #DE, #UD (R701). -/
def raise {α : Type} (v : Byte) : Act α := stop (.fault v none)

/-- Raise a guest fault with error code 0 (R703, R704). -/
def raise0 {α : Type} (v : Byte) : Act α := stop (.fault v (some 0#32))

/-- #GP(0) (R703). -/
def raiseGp {α : Type} : Act α := raise0 13#8

/-- #UD (R702). -/
def raiseUd {α : Type} : Act α := raise 6#8

/-- Act under a condition. -/
def onlyIf (c : Bool) (a : Act Unit) : Act Unit := if c then a else pure ()

/-! Free values and events. -/

/-- `draw()`, the next free value of the run (spec/00_scope.md R26; notes/assumptions/4.md). -/
def draw : Act Word := fun s => .ok (Config.freeValue s.draws) { s with draws := s.draws + 1 }

/-- A draw of one bit. -/
def drawBit : Act Bool := do
  let v ← draw
  pure (v.getLsbD 0)

/-- A draw of w bits. -/
def drawBits (n : Nat) : Act (BitVec n) := do
  let v ← draw
  pure (v.setWidth n)

/-- Append to the event history (spec/10_state.md R57). -/
def event (e : Event) : Act Unit := update fun s => s.record e

/-! Page handlers and physical access. -/

/-- `HANDLER[p]` (spec/10_state.md R53). -/
def State.handler (s : State) (p : Nat) : Handler := (tableGet s.handlers p).getD (resetHandler s.cfg p)

/-- `CAP[p]` (R53). -/
def State.cap (s : State) (p : Nat) : Cap := (tableGet s.caps p).getD (resetCap s.cfg p)

/-- One handler access: n bytes from a physical address within one page, `ro` when the page was reached through a read-only forced mapping
(R121). -/
structure Chunk where
  pa : Word
  n : Nat
  ro : Bool
  deriving DecidableEq, Repr

/-- A resolved operand in memory: its handler accesses in ascending address order. -/
abbrev Span := List Chunk

/-- The value of n bytes as an event records it. -/
def bytesWord (bs : List Byte) : Word := BitVec.ofNat 32 (leNat bs)

/-- A read through the page's handler (R105 to R107). The device's answer is a free value, numbered by the draw counter
(notes/assumptions/5.md). -/
def handlerRead (c : Chunk) : Act (List Byte) := fun s =>
  match s.handler (pageOf c.pa) with
  | .ram | .rom => .ok (memRead s.mem c.pa c.n) s
  | .unmapped => .ok (List.replicate c.n s.cfg.unmappedFill) s
  | .mmio d =>
    let bs := leBytes c.n (Config.deviceRead d c.pa c.n s.draws).toNat
    .ok bs { s.record (.mmioRead c.pa c.n (bytesWord bs)) with draws := s.draws + 1 }

/-- A write to a ROM page, under `ROM_WRITE_POLICY` (R105). -/
def romWrite (c : Chunk) (bs : List Byte) : Act Unit := fun s =>
  match s.cfg.romPolicy with
  | .discard => .ok () (s.record (.romWriteDiscarded c.pa c.n (bytesWord bs)))
  | .trap => .error (.model (.romWrite c.pa)) s

/-- The page holds code, so a write to it is announced (R113). -/
def State.holdsCode (s : State) (p : Nat) : Bool := (s.cap p).has32BitCode || (s.cap p).has16BitCode

/-- The self-modifying-code check (R113). -/
def smcCheck (p : Nat) : Act Unit := update fun s => if s.holdsCode p then s.record (.smcInvalidate p) else s

/-- What the page's handler does with a write (R105 to R107). -/
def handlerStore (c : Chunk) (bs : List Byte) : Act Unit := fun s =>
  match s.handler (pageOf c.pa) with
  | .ram => .ok () { s with mem := memWrite s.mem c.pa bs }
  | .rom => romWrite c bs s
  | .unmapped => .ok () s
  | .mmio _ => .ok () (s.record (.mmioWrite c.pa c.n (bytesWord bs)))

/-- A write through the page's handler, after the self-modifying-code check; a read-only forced mapping is handled as a ROM page
(R111, R113, R121; notes/assumptions/20.md). -/
def handlerWrite (c : Chunk) (bs : List Byte) : Act Unit := do
  smcCheck (pageOf c.pa)
  if c.ro then romWrite c bs else handlerStore c bs

/-- Read a span in ascending address order (R110, R140). -/
def readSpan : Span → Act (List Byte)
  | [] => pure []
  | c :: cs => do
    let bs ← handlerRead c
    let rest ← readSpan cs
    pure (bs ++ rest)

/-- Write a span in ascending address order (R111, R141). -/
def writeSpan : Span → List Byte → Act Unit
  | [], _ => pure ()
  | c :: cs, bs => do
    handlerWrite c (bs.take c.n)
    writeSpan cs (bs.drop c.n)

/-- The handler accesses of n bytes at a physical address: one within a page (two of 4 bytes for n = 8), one per byte across a page boundary
(R109, R110). -/
def physSpan (pa : Word) (n : Nat) (ro : Bool) : Span :=
  if pageOf pa = pageOf (pa + BitVec.ofNat 32 (n - 1)) then
    if n = 8 then [⟨pa, 4, ro⟩, ⟨pa + 4#32, 4, ro⟩] else [⟨pa, n, ro⟩]
  else (List.range n).map fun k => ⟨pa + BitVec.ofNat 32 k, 1, ro⟩

/-- `PhysRead(pa, 4)` of a table entry (R122). -/
def physRead32 (pa : Word) : Act Word := do
  let bs ← readSpan (physSpan pa 4 false)
  pure (bytesWord bs)

/-- `PhysWrite(pa, 4, v)` of a table entry (R122). -/
def physWrite32 (pa v : Word) : Act Unit := writeSpan (physSpan pa 4 false) (leBytes 4 v.toNat)

/-! Paging. -/

/-- The privilege the paging unit checks: CPL 3 (R18). -/
def State.user (s : State) : Bool := s.cpl == 3#2

/-- `Permitted(u_ok, w_ok, write, user)`, `wp` saying that the core is a 486 or later with CR0.WP = 1 (R125). -/
def permitted (uOk wOk write user wp : Bool) : Bool :=
  if user then uOk && (!write || wOk) else !write || wOk || !wp

/-- Supervisor writes honour read-only pages (R125). -/
def State.honoursWp (s : State) : Bool := decide (s.cfg.gen.num ≥ 486) && s.wp

/-- The error code of a page fault (R128). -/
def pfError (present write user : Bool) : Word :=
  (BitVec.ofBool user).setWidth 32 <<< 2 ||| (BitVec.ofBool write).setWidth 32 <<< 1 ||| (BitVec.ofBool present).setWidth 32

/-- `PageFault(la, present, write, user)` (R128). -/
def pageFault {α : Type} (la : Word) (present write user : Bool) : Act α := do
  update fun s => { s with cr2 := la }
  stop (.fault 14#8 (some (pfError present write user)))

/-- Set the accessed bit of a page-directory entry if it is clear (R122). -/
def setPdeA (pdeAddr pde : Word) : Act Unit :=
  if pde.getLsbD 5 then pure () else physWrite32 pdeAddr (pde ||| 0x20#32)

/-- `PDE_A_on_fault()`: a draw decides; with the bit already set both choices are the same and none is taken (R122). -/
def pdeAOnFault (pdeAddr pde : Word) : Act Unit :=
  if pde.getLsbD 5 then pure () else do
    let b ← drawBit
    if b then physWrite32 pdeAddr (pde ||| 0x20#32) else pure ()

/-- What a walk finds (R122). -/
structure WalkResult where
  entry : TlbEntry
  dirty : Bool
  deriving DecidableEq, Repr

/-- The address of the page-directory entry (R122). -/
def pdeAddrOf (cr3 la : Word) : Word := (cr3 &&& 0xFFFFF000#32) ||| ((la >>> 22) <<< 2)

/-- The address of the page-table entry (R122). -/
def pteAddrOf (pde la : Word) : Word := (pde &&& 0xFFFFF000#32) ||| ((la >>> 12 &&& 0x3FF#32) <<< 2)

/-- Set the accessed bit, and the dirty bit on a write, of a page-table entry (R122, R126). -/
def setPteAD (pteAddr pte : Word) (write : Bool) : Act Unit :=
  if pte.getLsbD 5 && !(write && !pte.getLsbD 6) then pure ()
  else physWrite32 pteAddr (pte ||| 0x20#32 ||| (if write then 0x40#32 else 0#32))

/-- `Walk(la, write, user)` (R122). -/
def walk (la : Word) (write : Bool) : Act WalkResult := do
  let user ← look State.user
  let wp ← look State.honoursWp
  let cr3 ← look State.cr3
  let pdeAddr := pdeAddrOf cr3 la
  let pde ← physRead32 pdeAddr
  if !pde.getLsbD 0 then pageFault la false write user
  else
    let pteAddr := pteAddrOf pde la
    let pte ← physRead32 pteAddr
    if !pte.getLsbD 0 then
      pdeAOnFault pdeAddr pde
      pageFault la false write user
    else
      let uOk := pde.getLsbD 2 && pte.getLsbD 2
      let wOk := pde.getLsbD 1 && pte.getLsbD 1
      if !permitted uOk wOk write user wp then
        pdeAOnFault pdeAddr pde
        pageFault la true write user
      else
        setPdeA pdeAddr pde
        setPteAD pteAddr pte write
        pure { entry := { physPage := pte.extractLsb' 12 20, uOk := uOk, wOk := wOk }, dirty := pte.getLsbD 6 || write }

/-- `Refill(lp, r)` (R130). -/
def refill (lp : Nat) (r : WalkResult) : Act Unit := update fun s =>
  { s with tlbR := tableSet s.tlbR lp r.entry, tlbW := if r.dirty then tableSet s.tlbW lp r.entry else s.tlbW }

/-- The state after the evictions before a translation (R134; notes/assumptions/6.md). -/
def State.evicted (s : State) : State :=
  match s.cfg.eviction with
  | .never => s
  | .free =>
    { s with
      tlbR := s.tlbR.filter fun e => !Config.evicts s.draws false e.1
      tlbW := s.tlbW.filter fun e => !Config.evicts s.draws true e.1
      draws := s.draws + 1 }

/-- Evict before a translation (R134). -/
def evict : Act Unit := update State.evicted

/-- The TLB entry that answers a translation: present, and its permission check passes (R129). -/
def tlbHit (s : State) (la : Word) (write : Bool) : Option TlbEntry :=
  match tableGet (if write then s.tlbW else s.tlbR) (pageOf la) with
  | some e => if permitted e.uOk e.wOk write s.user s.honoursWp then some e else none
  | none => none

/-- `Translate(la, write)` with paging disabled (R121): the physical page, and whether writes are those of a ROM page. -/
def translateOff (s : State) (la : Word) : BitVec 20 × Bool :=
  match tableGet s.fmap (pageOf la) with
  | some e => (e.physPage, e.readOnly)
  | none => (la.extractLsb' 12 20, false)

/-- `Translate(la, write)` with paging enabled (R129). -/
def translateOn (la : Word) (write : Bool) : Act (BitVec 20 × Bool) := do
  evict
  let hit ← look fun s => tlbHit s la write
  match hit with
  | some e => pure (e.physPage, false)
  | none => do
    let r ← walk la write
    refill (pageOf la) r
    pure (r.entry.physPage, false)

/-- `Translate(la, write)` (R121, R129). -/
def translate (la : Word) (write : Bool) : Act (BitVec 20 × Bool) := fun s =>
  if s.pg then translateOn la write s else .ok (translateOff s la) s

/-! Linear and segmented access. -/

/-- The translations of an n-byte linear access, both pages first when it crosses one, as the handler accesses it makes
(R140 to R142). -/
def resolveLin (la : Word) (n : Nat) (write : Bool) : Act Span := do
  let last := la + BitVec.ofNat 32 (n - 1)
  if pageOf la = pageOf last then
    let t ← translate la write
    pure (physSpan (inPage t.1 la) n t.2)
  else
    let t0 ← translate la write
    let t1 ← translate (last &&& 0xFFFFF000#32) write
    pure ((List.range n).map fun k =>
      let a := la + BitVec.ofNat 32 k
      if pageOf a = pageOf la then ⟨inPage t0.1 a, 1, t0.2⟩ else ⟨inPage t1.1 a, 1, t1.2⟩)

/-- `LinRead(la, n, kind)` (R140). -/
def linRead (la : Word) (n : Nat) : Act (List Byte) := do
  let sp ← resolveLin la n false
  readSpan sp

/-- `LinWrite(la, n, v, kind)` (R141). -/
def linWrite (la : Word) (bs : List Byte) : Act Unit := do
  let sp ← resolveLin la bs.length true
  writeSpan sp bs

/-- Whether an n-byte access at an offset passes the limit of a segment (R144). -/
def withinLimit (c : SegCache) (off : Word) (n : Nat) : Bool := decide (off.toNat + n ≤ c.limit.toNat + 1)

/-- `SegCheck(r, off, n)` (R144). -/
def segCheck (r : SegReg) (off : Word) (n : Nat) : Act Unit := do
  let c ← look fun s => s.seg r
  if c.null then raiseGp
  else if withinLimit c off n then pure ()
  else if r = .ss then raise0 12#8
  else raiseGp

/-- The segment check and the translation of a segmented access (R145, R146). -/
def resolveMem (r : SegReg) (off : Word) (n : Nat) (write : Bool) : Act Span := do
  segCheck r off n
  let base ← look fun s => (s.seg r).base
  resolveLin (base + off) n write

/-- Little-endian bytes as a value of n bits (R102). -/
def ofBytes (n : Nat) (bs : List Byte) : BitVec n := BitVec.ofNat n (leNat bs)

/-- The bytes of a value of n bits, little-endian (R102). -/
def toBytes {n : Nat} (v : BitVec n) : List Byte := leBytes (n / 8) v.toNat

/-- `MemRead(r, off, n/8)` as an n-bit value (R145). -/
def memReadBits (n : Nat) (r : SegReg) (off : Word) : Act (BitVec n) := do
  let sp ← resolveMem r off (n / 8) false
  let bs ← readSpan sp
  pure (ofBytes n bs)

/-- `MemWrite(r, off, n/8, v)` (R146). -/
def memWriteBits {n : Nat} (r : SegReg) (off : Word) (v : BitVec n) : Act Unit := do
  let sp ← resolveMem r off (n / 8) true
  writeSpan sp (toBytes v)

/-! The stack. -/

/-- The stack pointer: ESP, or SP zero-extended (spec/40_data_movement.md R302). -/
def State.stackTop (s : State) : Word := if s.stackBig then s.gpr32 .esp else (s.gpr16 .esp).setWidth 32

/-- A stack offset as the stack's width holds it. -/
def stackWrap (big : Bool) (v : Word) : Word := if big then v else v &&& 0xFFFF#32

/-- Write ESP, or SP alone (R302). -/
def State.setStackTop (s : State) (v : Word) : State :=
  if s.stackBig then s.setGpr .b32 .esp v else s.setGpr .b16 .esp (v.setWidth 16)

/-- Where the next push of n bytes stores (R302). -/
def State.pushOffset (s : State) (n : Nat) : Word := stackWrap s.stackBig (s.stackTop - BitVec.ofNat 32 n)

/-- `Push(v, n/8)` of an n-bit value: the stack pointer is written after the store (R302). -/
def push {n : Nat} (v : BitVec n) : Act Unit := do
  let off ← look fun s => s.pushOffset (n / 8)
  memWriteBits .ss off v
  update fun s => s.setStackTop off

/-- The value at the stack top, the stack pointer unmoved. -/
def readTop (n : Nat) : Act (BitVec n) := do
  let off ← look State.stackTop
  memReadBits n .ss off

/-- Move the stack pointer up by n bytes, modulo the stack's width (R303). -/
def State.dropStack (s : State) (n : Word) : State := s.setStackTop (s.stackTop + n)

/-- `Pop(n/8)` as an n-bit value (R303). -/
def pop (n : Nat) : Act (BitVec n) := do
  let v ← readTop n
  update fun s => s.dropStack (BitVec.ofNat 32 (n / 8))
  pure v

/-- Keep the first two bytes of a span of handler accesses. -/
def lowTwo : Span → Span
  | [] => []
  | [c] => [{ c with n := min c.n 2 }]
  | c :: d :: _ => [c, d]

/-- Store a selector in a resolved 4-byte slot, the upper two bytes 0 (`zero`) or unchanged. -/
def writeSelSlot (sp : Span) (v : Sel) (zero : Bool) : Act Unit :=
  if zero then writeSpan sp (toBytes (v.setWidth 32)) else writeSpan (lowTwo sp) (toBytes v)

/-- Push a selector: in a 4-byte slot the upper two bytes are 0 or unchanged, as a draw decides (spec/46_control_transfer.md R551). -/
def pushSel (sz : Size) (v : Sel) : Act Unit :=
  match sz with
  | .w16 => push v
  | .w32 => do
    let off ← look fun s => s.pushOffset 4
    let sp ← resolveMem .ss off 4 true
    let b ← drawBit
    writeSelSlot sp v b
    update fun s => s.setStackTop off

/-! Segment loads, far transfers and near targets. -/

/-- `LoadSeg(r, v)` (spec/48_segment_loads.md R640). -/
def loadSeg (r : SegReg) (v : Sel) : Act Unit := fun s =>
  if s.pe then
    match pmLoadSeg r v s with
    | .ok c => .ok () (s.setSeg r c)
    | .fault w err => .error (.fault w err) s
    | .refuse => .error (.refuse (.pmLoadSeg r v s.fetched)) s
  else .ok () (s.setSeg r ((s.seg r).loadReal v))

/-- A target offset as the operand size keeps it (spec/46_control_transfer.md R550). -/
def sizedTarget (osz : Size) (v : Word) : Word :=
  match osz with
  | .w16 => v &&& 0xFFFF#32
  | .w32 => v

/-- `NearTarget(v)` (R550). -/
def nearTarget (osz : Size) (v : Word) : Act Word := do
  let t := sizedTarget osz v
  let limit ← look fun s => s.segs.cs.limit
  if limit.toNat < t.toNat then raiseGp else pure t

/-- `eip <- t`. -/
def jumpTo (t : Word) : Act Unit := update fun s => { s with eip := t }

/-- `FarLoadReal(sel, off)` (R552). -/
def farLoadReal (osz : Size) (sel : Sel) (off : Word) : Act Unit := do
  let t ← nearTarget osz off
  update fun s => { s.setSeg .cs ((s.seg .cs).loadReal sel) with eip := t }

/-- A far transfer in protected mode (R552). -/
def farTransferPm (kind : FarKind) (osz : Size) (sel : Sel) (off : Word) : Act Unit := fun s =>
  match pmFarTransfer kind osz sel off s with
  | .ok t => .ok () t
  | .fault v err => .error (.fault v err) s
  | .refuse => .error (.refuse (.pmFarTransfer sel off s.fetched)) s

/-- IRET in protected mode (R569). -/
def iretPm (osz : Size) : Act Unit := fun s =>
  match pmIret osz s with
  | .ok t => .ok () t
  | .fault v err => .error (.fault v err) s
  | .refuse => .error (.refuse (.pmIret s.fetched)) s

/-- `clearTLB()` (spec/20_memory.md R132). -/
def State.clearTlb (s : State) : State := { s with tlbR := [], tlbW := [] }

/-! Taking an event. -/

/-- What a fault discards and what it keeps: registers, flags and control state are those of `s`, at `eip_start`; memory, CR2, the TLB, the
event history and the count of draws are those of `t` (spec/60_exceptions.md R700). -/
def rollback (s t : State) : State :=
  { s with eip := s.eipStart, mem := t.mem, cr2 := t.cr2, tlbR := t.tlbR, tlbW := t.tlbW, history := t.history, draws := t.draws }

/-- The same, at a boundary, where eip is already right. -/
def keepMemory (s t : State) : State :=
  { s with mem := t.mem, cr2 := t.cr2, tlbR := t.tlbR, tlbW := t.tlbW, history := t.history, draws := t.draws }

/-- `DeliverReal(v, ret)` (R714). -/
def deliverReal (v : Byte) (ret : Word) : Act Unit := do
  let flags ← look fun s => s.eflags.setWidth 16
  push flags
  update fun s => ((s.setFlag .intr false).setFlag .tf false).setFlag .ac false
  let cs ← look fun s => s.segs.cs.sel
  push cs
  push (ret.setWidth 16)
  let vec : Word := v.setWidth 32 <<< 2
  let offBytes ← linRead vec 2
  let selBytes ← linRead (vec + 2#32) 2
  update fun s => { s.setSeg .cs ((s.seg .cs).loadReal (ofBytes 16 selBytes)) with eip := (ofBytes 16 offBytes).setWidth 32 }

/-- The outcome of a step that delivered an event: a guest fault is named, the other events continue (R716). -/
def deliveredOutcome (v : Byte) (err : Option Word) (kind : EventKind) : StepOutcome :=
  match kind with
  | .fault => .fault (.guest v err)
  | .trap | .software | .external => .cont

/-- The instruction bytes that led to an event: none for an external interrupt (notes/assumptions/26.md). -/
def deliveryBytes (kind : EventKind) (s : State) : List Byte :=
  match kind with
  | .external => []
  | .fault | .trap | .software => s.fetched

/-- A delivered event ends halt and shadow (R712, R716, R721). -/
def State.afterDelivery (t : State) (o : StepOutcome) : State := { t with halted := false, shadow := .none, outcome := o }

/-- `Deliver(v, err, kind, ret)`, the one way an event is taken (R712): real mode by the vector table (R714), protected mode by PM_DELIVER
(R713); a guest fault on the way ends the run as `(8, 0)`, a model fault as itself (R715). `s` is the state whose registers a failing delivery
leaves (notes/assumptions/13.md). -/
def deliver (v : Byte) (err : Option Word) (kind : EventKind) (ret : Word) (s : State) : State :=
  let s0 := s.record (.delivered v kind)
  if s.pe then
    match pmDeliver v err kind { s0 with eip := ret } with
    | .ok t => t.afterDelivery (deliveredOutcome v err kind)
    | .fault _ _ | .refuse =>
      match kind with
      | .fault => s0.endFault (.guest v err)
      | .trap | .software | .external => s0.endRefused (.pmDeliver v kind (deliveryBytes kind s))
  else
    match deliverReal v ret s0 with
    | .ok _ t => t.afterDelivery (deliveredOutcome v err kind)
    | .error (.model f) t => (keepMemory s0 t).endFault f
    | .error (.fault _ _) t | .error (.trap _ _) t | .error (.refuse _) t => (keepMemory s0 t).endFault (.guest 8#8 (some 0#32))

/-- The outcome of a body that ran from `s`: a fault is delivered with the return offset `eip_start`, a software interrupt with `eip_next`; a
terminal fault or a refusal sets its sticky mark and the outcome (R700, R706, R716; notes/assumptions/8.md). -/
def finish (s : State) (r : EStateM.Result Stop State Unit) : Host.Outcome State Fault Refusal :=
  match r with
  | .ok _ t => .next t
  | .error (.fault v err) t => .next (deliver v err .fault s.eipStart (rollback s t))
  | .error (.trap v kind) t => .next (deliver v none kind t.eip (rollback s t))
  | .error (.model f) t => .next ((rollback s t).endFault f)
  | .error (.refuse r) t => .next ((rollback s t).endRefused r)

/-- The generation gate (spec/30_encoding.md R221). -/
def requireGen (gen : CpuGen) : Act Unit := do
  let have_ ← look fun s => s.cfg.gen.num
  if have_ < gen.num then raiseUd else pure ()

/-- The LOCK rule (R208): `lockable` says that the row allows LOCK and the destination is memory. -/
def requireLock (lockable : Bool) (p : Pfx) : Act Unit :=
  if p.lock && !lockable then raiseUd else pure ()

/-- Run an instruction: the generation gate, the LOCK rule, then its body under the effective prefixes (R222; spec/60_exceptions.md R730). -/
def perform (gen : CpuGen) (lockable : Bool) (body : Pfx → Act Unit) (s : State) : Host.Outcome State Fault Refusal :=
  finish s ((do
    requireGen gen
    requireLock lockable s.pfx
    body s.pfx) s)

/-- `priv_check()` (spec/49_system.md R682). -/
def privCheck : Act Unit := do
  let bad ← look fun s => s.pe && s.cpl != 0#2
  if bad then raiseGp else pure ()

end Sys2Proof.Machine
end

