-- ==== Sys2Proof/Machine/Operands.lean ====
section
/-! DEFINITION. The operand resolver (spec/30_encoding.md R211 to R218) and the operand primitives (spec/40_data_movement.md R300, R301). -/

namespace Sys2Proof.Machine

/-- The displacement of a form, sign-extended when it is one byte (R212, R213). -/
def dispValue {w : Nat} (d : Disp w) : BitVec w :=
  match d with
  | .none => 0#w
  | .d8 d => d.signExtend w
  | .full d => d

/-- The base part of a 16-bit form (R212). -/
def baseValue16 (s : State) (b : Base16) : BitVec 16 :=
  let r := s.gpr16
  match b with
  | .bxSi => r .ebx + r .esi
  | .bxDi => r .ebx + r .edi
  | .bpSi => r .ebp + r .esi
  | .bpDi => r .ebp + r .edi
  | .si => r .esi
  | .di => r .edi
  | .bp => r .ebp
  | .bx => r .ebx

/-- The index part of a SIB form (R214). -/
def indexValue (s : State) (scale : BitVec 2) (index : Option Reg) : Word :=
  match index with
  | some r => s.gpr32 r <<< scale.toNat
  | none => 0#32

/-- `EffectiveOffset(m)`: the offset a memory form computes, zero-extended under 16-bit addressing (R212 to R214, R217). -/
def effOffset (s : State) (m : Mem) : Word :=
  match m with
  | .based16 b d => (baseValue16 s b + dispValue d).setWidth 32
  | .abs16 d => d.setWidth 32
  | .based32 b d => s.gpr32 b + dispValue d
  | .abs32 d => d
  | .sib scale index b d => s.gpr32 b + indexValue s scale index + dispValue d
  | .sibAbs scale index d => indexValue s scale index + d

/-- The default segment of a memory form: SS for the forms that use BP, EBP or ESP as base (R212 to R214). -/
def defaultSeg (m : Mem) : SegReg :=
  match m with
  | .based16 .bpSi _ | .based16 .bpDi _ | .based16 .bp _ => .ss
  | .based16 .bxSi _ | .based16 .bxDi _ | .based16 .si _ | .based16 .di _ | .based16 .bx _ => .ds
  | .abs16 _ | .abs32 _ | .sibAbs _ _ _ => .ds
  | .based32 b _ | .sib _ _ b _ => if b = .esp ∨ b = .ebp then .ss else .ds

/-- The effective segment of a memory operand (R216). -/
def effSeg (p : Pfx) (m : Mem) : SegReg := p.seg.getD (defaultSeg m)

/-- An offset modulo 2^addrsize, zero-extended. -/
def addrWrap (asz : Size) (v : Word) : Word :=
  match asz with
  | .w16 => v &&& 0xFFFF#32
  | .w32 => v

/-- A resolved r/m operand: a register, or the handler accesses of a memory operand. -/
inductive Place where
  | reg (r : Reg)
  | mem (sp : Span)
  deriving DecidableEq, Repr

/-- Resolve an r/m operand of width w: a memory operand is checked against its segment and translated, for writing when the instruction writes
it (R217; spec/20_memory.md R143). -/
def resolveRM (w : Width) (write : Bool) (p : Pfx) (rm : RM) : Act Place :=
  match rm with
  | .reg r => pure (.reg r)
  | .mem m => do
    let off ← look fun s => effOffset s m
    let sp ← resolveMem (effSeg p m) off w.bytes write
    pure (.mem sp)

/-- Read a resolved operand (R300). -/
def readPlace (w : Width) (pl : Place) : Act (BitVec w.bits) :=
  match pl with
  | .reg r => look fun s => s.gpr w r
  | .mem sp => do
    let bs ← readSpan sp
    pure (ofBytes w.bits bs)

/-- Write a resolved operand (R301). -/
def writePlace (w : Width) (pl : Place) (v : BitVec w.bits) : Act Unit :=
  match pl with
  | .reg r => update fun s => s.setGpr w r v
  | .mem sp => writeSpan sp (toBytes v)

/-- `ReadOp(r/m, w)` of an operand that is only read (R300). -/
def readRM (w : Width) (p : Pfx) (rm : RM) : Act (BitVec w.bits) := do
  let pl ← resolveRM w false p rm
  readPlace w pl

/-- `WriteOp(r/m, w, v)` of an operand that is only written (R301). -/
def writeRM (w : Width) (p : Pfx) (rm : RM) (v : BitVec w.bits) : Act Unit := do
  let pl ← resolveRM w true p rm
  writePlace w pl v

/-- Read a general register operand (R300). -/
def readReg (w : Width) (r : Reg) : Act (BitVec w.bits) := look fun s => s.gpr w r

/-- Write a general register operand (R301). -/
def writeReg (w : Width) (r : Reg) (v : BitVec w.bits) : Act Unit := update fun s => s.setGpr w r v

/-- The operand is memory, as LOCK asks of a destination (R208). -/
def isMem (rm : RM) : Bool :=
  match rm with
  | .reg _ => false
  | .mem _ => true

/-- An immediate byte, sign-extended to the width: ibs (R215). -/
def immSigned (w : Width) (b : Byte) : BitVec w.bits := b.signExtend w.bits

/-- An immediate of opsize: iz (R215). -/
def immSized (w : Width) (v : Word) : BitVec w.bits := v.setWidth w.bits

/-- A relative displacement of opsize bytes, sign-extended to 32 bits: relz (R215; spec/46_control_transfer.md R550). -/
def relSized (osz : Size) (rel : Word) : Word :=
  match osz with
  | .w16 => (rel.setWidth 16).signExtend 32
  | .w32 => rel

/-- A far pointer in memory: the offset, then the selector, at offsets modulo 2^addrsize (spec/46_control_transfer.md R565). -/
def readFarPointer (p : Pfx) (m : Mem) : Act (Word × Sel) := do
  let o ← look fun s => effOffset s m
  let off ← memReadBits p.osz.width.bits (effSeg p m) o
  let sel ← memReadBits 16 (effSeg p m) (addrWrap p.asz (o + BitVec.ofNat 32 p.osz.bytes))
  pure (off.setWidth 32, sel)

/-- A register read at the address size: an index, a count, a base (spec/44_string.md R495, R502). -/
def addrReg (asz : Size) (r : Reg) (s : State) : Word := (s.gpr asz.width r).setWidth 32

/-- A register written at the address size (R496). -/
def setAddrReg (asz : Size) (r : Reg) (v : Word) (s : State) : State := s.setGpr asz.width r (v.setWidth asz.width.bits)

end Sys2Proof.Machine
end

