-- ==== Sys2Proof/Machine/Arithmetic.lean ====
section
/-! DEFINITION. Integer arithmetic and logic (spec/41_arithmetic.md R354 to R374). -/

namespace Sys2Proof.Machine

/-- The eight ALU operations, in the order of their number (R354). -/
inductive AluOp where
  | add | or | adc | sbb | and | sub | xor | cmp
  deriving DecidableEq, Repr

/-- CMP writes no destination (R362). -/
def AluOp.writes : AluOp → Bool
  | .cmp => false
  | .add | .or | .adc | .sbb | .and | .sub | .xor => true

/-- The result of an ALU operation, with the old CF (R355 to R362). -/
def aluResult {n : Nat} (op : AluOp) (a b : BitVec n) (cf : Bool) : BitVec n :=
  match op with
  | .add => addResult a b false
  | .or => a ||| b
  | .adc => addResult a b cf
  | .sbb => subResult a b cf
  | .and => a &&& b
  | .sub => subResult a b false
  | .xor => a ^^^ b
  | .cmp => subResult a b false

/-- Whether the operation leaves AF undefined (R353). -/
def AluOp.isLogic : AluOp → Bool
  | .or | .and | .xor => true
  | .add | .adc | .sbb | .sub | .cmp => false

/-- The status flags of an ALU operation, AF of a logic operation the value drawn (R355 to R362). -/
def aluStatus {n : Nat} (op : AluOp) (a b : BitVec n) (cf af : Bool) : Status :=
  match op with
  | .add => flagsAdd a b false
  | .or => flagsLogic (a ||| b) af
  | .adc => flagsAdd a b cf
  | .sbb => flagsSub a b cf
  | .and => flagsLogic (a &&& b) af
  | .sub => flagsSub a b false
  | .xor => flagsLogic (a ^^^ b) af
  | .cmp => flagsSub a b false

/-- Draw a bit where the flag is undefined. -/
def drawIf (c : Bool) : Act Bool := if c then drawBit else pure false

/-- `ALU(dst, src, w)` (R354). -/
def alu (op : AluOp) (w : Width) (p : Pfx) (dst : RM) (src : Act (BitVec w.bits)) : Act Unit := do
  let pl ← resolveRM w op.writes p dst
  let a ← readPlace w pl
  let b ← src
  let cf ← look fun s => s.flag .cf
  onlyIf op.writes (writePlace w pl (aluResult op a b cf))
  let af ← drawIf op.isLogic
  update fun s => s.setStatus (aluStatus op a b cf af)

/-- TEST (R363). -/
def test (w : Width) (p : Pfx) (dst : RM) (src : Act (BitVec w.bits)) : Act Unit := do
  let a ← readRM w p dst
  let b ← src
  let af ← drawBit
  update fun s => s.setStatus (flagsLogic (a &&& b) af)

/-- Read, change and write an operand, and set the status flags from its old value. -/
def modify (w : Width) (p : Pfx) (dst : RM) (f : BitVec w.bits → BitVec w.bits) (st : Status → BitVec w.bits → Status) : Act Unit := do
  let pl ← resolveRM w true p dst
  let a ← readPlace w pl
  writePlace w pl (f a)
  update fun s => s.setStatus (st s.status a)

/-- INC: CF stays (R364). -/
def inc (w : Width) (p : Pfx) (dst : RM) : Act Unit :=
  modify w p dst (fun a => addResult a 1#w.bits false) fun old a => { flagsAdd a 1#w.bits false with cf := old.cf }

/-- DEC: CF stays (R365). -/
def dec (w : Width) (p : Pfx) (dst : RM) : Act Unit :=
  modify w p dst (fun a => subResult a 1#w.bits false) fun old a => { flagsSub a 1#w.bits false with cf := old.cf }

/-- NOT: no flag changes (R366). -/
def complement (w : Width) (p : Pfx) (dst : RM) : Act Unit := modify w p dst (fun a => ~~~a) fun old _ => old

/-- NEG (R367). -/
def negate (w : Width) (p : Pfx) (dst : RM) : Act Unit :=
  modify w p dst (fun a => subResult 0#w.bits a false) fun _ a => flagsSub 0#w.bits a false

/-- The register of the high half: AH at width 8, DX or EDX otherwise (R368). -/
def highReg (w : Width) : Reg :=
  match w with
  | .b8 => .esp
  | .b16 | .b32 => .edx

/-- The double-width accumulator AX, DX:AX or EDX:EAX (R372). -/
def accPair (w : Width) (s : State) : BitVec (w.bits + w.bits) := s.gpr w (highReg w) ++ s.gpr w .eax

/-- Write both halves of the double-width accumulator (R368, R372). -/
def setAccPair (w : Width) (hi lo : BitVec w.bits) (s : State) : State := (s.setGpr w .eax lo).setGpr w (highReg w) hi

/-- Six draws, for an instruction that leaves the status flags undefined. -/
def drawStatus : Act Status := do
  let cf ← drawBit
  let pf ← drawBit
  let af ← drawBit
  let zf ← drawBit
  let sf ← drawBit
  let of ← drawBit
  pure { cf := cf, pf := pf, af := af, zf := zf, sf := sf, of := of }

/-- The flags of a multiply: CF and OF as given, the others undefined (R368 to R371). -/
def mulFlags (b : Bool) : Act Unit := do
  let d ← drawStatus
  update fun s => s.setStatus { d with cf := b, of := b }

/-- The unsigned product in 2w bits (R368). -/
def mulProduct {n : Nat} (a b : BitVec n) : BitVec (n + n) := BitVec.ofNat (n + n) (a.toNat * b.toNat)

/-- The signed product modulo 2^(2w) (R369). -/
def imulProduct {n : Nat} (a b : BitVec n) : BitVec (n + n) := BitVec.ofInt (n + n) (a.toInt * b.toInt)

/-- The low half of a product. -/
def lowHalf {n : Nat} (v : BitVec (n + n)) : BitVec n := v.setWidth n

/-- The high half of a product. -/
def highHalf {n : Nat} (v : BitVec (n + n)) : BitVec n := v.extractLsb' n n

/-- The signed product of two w-bit values does not fit in w signed bits (R369, R370). -/
def imulOverflows {n : Nat} (a b : BitVec n) : Bool := a.toInt * b.toInt != (a * b).toInt

/-- MUL (R368). -/
def mul (w : Width) (p : Pfx) (src : RM) : Act Unit := do
  let s ← readRM w p src
  let a ← readReg w .eax
  let r := mulProduct a s
  update (setAccPair w (highHalf r) (lowHalf r))
  mulFlags (highHalf r != 0#w.bits)

/-- IMUL with one operand (R369). -/
def imul (w : Width) (p : Pfx) (src : RM) : Act Unit := do
  let s ← readRM w p src
  let a ← readReg w .eax
  let r := imulProduct a s
  update (setAccPair w (highHalf r) (lowHalf r))
  mulFlags (imulOverflows a s)

/-- IMUL with two or three operands (R370, R371). -/
def imulTo (w : Width) (dst : Reg) (x y : Act (BitVec w.bits)) : Act Unit := do
  let a ← x
  let b ← y
  writeReg w dst (a * b)
  mulFlags (imulOverflows a b)

/-- The quotient and remainder of an unsigned division, or none where it raises #DE (R372). -/
def divide (n : Nat) (dividend : BitVec (n + n)) (s : BitVec n) : Option (BitVec n × BitVec n) :=
  if s = 0#n then none
  else if dividend.toNat / s.toNat < 2 ^ n then
    some (BitVec.ofNat n (dividend.toNat / s.toNat), BitVec.ofNat n (dividend.toNat % s.toNat))
  else none

/-- The quotient and remainder of a signed division, truncated toward zero, or none where it raises #DE (R373). -/
def divideSigned (n : Nat) (dividend : BitVec (n + n)) (s : BitVec n) : Option (BitVec n × BitVec n) :=
  let q := dividend.toInt.tdiv s.toInt
  if s = 0#n then none
  else if q < -(2 ^ (n - 1) : Int) ∨ (2 ^ (n - 1) : Int) - 1 < q then none
  else some (BitVec.ofInt n q, BitVec.ofInt n (dividend.toInt - q * s.toInt))

/-- A division with its faults and its undefined flags (R372, R373). -/
def divideBy (w : Width) (p : Pfx) (src : RM)
    (f : BitVec (w.bits + w.bits) → BitVec w.bits → Option (BitVec w.bits × BitVec w.bits)) : Act Unit := do
  let s ← readRM w p src
  let n ← look (accPair w)
  match f n s with
  | none => raise 0#8
  | some (q, m) => do
    update (setAccPair w m q)
    let d ← drawStatus
    update fun s => s.setStatus d

/-- DIV (R372). -/
def div (w : Width) (p : Pfx) (src : RM) : Act Unit := divideBy w p src (divide w.bits)

/-- IDIV (R373). -/
def idiv (w : Width) (p : Pfx) (src : RM) : Act Unit := divideBy w p src (divideSigned w.bits)

/-- `ADD r/m8, r8`, row ADD_00 (R355). -/
def execAddRm8R8 (rm : RM) (reg : Reg) (s : State) : Host.Outcome State Fault Refusal :=
  perform .g386 (isMem rm) (fun p => alu .add .b8 p rm (readReg .b8 reg)) s

/-- `ADD r/m, r`, row ADD_01 (R355). -/
def execAddRmR (rm : RM) (reg : Reg) (s : State) : Host.Outcome State Fault Refusal :=
  perform .g386 (isMem rm) (fun p => alu .add p.osz.width p rm (readReg p.osz.width reg)) s

/-- `ADD r8, r/m8`, row ADD_02 (R355). -/
def execAddR8Rm8 (rm : RM) (reg : Reg) (s : State) : Host.Outcome State Fault Refusal :=
  perform .g386 false (fun p => alu .add .b8 p (.reg reg) (readRM .b8 p rm)) s

/-- `ADD r, r/m`, row ADD_03 (R355). -/
def execAddRRm (rm : RM) (reg : Reg) (s : State) : Host.Outcome State Fault Refusal :=
  perform .g386 false (fun p => alu .add p.osz.width p (.reg reg) (readRM p.osz.width p rm)) s

/-- `ADD AL, ib`, row ADD_04 (R355). -/
def execAddAlIb (imm : Byte) (s : State) : Host.Outcome State Fault Refusal :=
  perform .g386 false (fun p => alu .add .b8 p (.reg .eax) (pure imm)) s

/-- `ADD eAX, iz`, row ADD_05 (R355). -/
def execAddEaxIz (imm : Word) (s : State) : Host.Outcome State Fault Refusal :=
  perform .g386 false (fun p => alu .add p.osz.width p (.reg .eax) (pure (immSized p.osz.width imm))) s

/-- `ADD r/m8, ib`, row ADD_800 (R355). -/
def execAddRm8Ib (rm : RM) (imm : Byte) (s : State) : Host.Outcome State Fault Refusal :=
  perform .g386 (isMem rm) (fun p => alu .add .b8 p rm (pure imm)) s

/-- `ADD r/m, iz`, row ADD_810 (R355). -/
def execAddRmIz (rm : RM) (imm : Word) (s : State) : Host.Outcome State Fault Refusal :=
  perform .g386 (isMem rm) (fun p => alu .add p.osz.width p rm (pure (immSized p.osz.width imm))) s

/-- `ADD r/m, ibs`, row ADD_830 (R355). -/
def execAddRmIbs (rm : RM) (imm : Byte) (s : State) : Host.Outcome State Fault Refusal :=
  perform .g386 (isMem rm) (fun p => alu .add p.osz.width p rm (pure (immSigned p.osz.width imm))) s

/-- `OR r/m8, r8`, row OR_08 (R356). -/
def execOrRm8R8 (rm : RM) (reg : Reg) (s : State) : Host.Outcome State Fault Refusal :=
  perform .g386 (isMem rm) (fun p => alu .or .b8 p rm (readReg .b8 reg)) s

/-- `OR r/m, r`, row OR_09 (R356). -/
def execOrRmR (rm : RM) (reg : Reg) (s : State) : Host.Outcome State Fault Refusal :=
  perform .g386 (isMem rm) (fun p => alu .or p.osz.width p rm (readReg p.osz.width reg)) s

/-- `OR r8, r/m8`, row OR_0A (R356). -/
def execOrR8Rm8 (rm : RM) (reg : Reg) (s : State) : Host.Outcome State Fault Refusal :=
  perform .g386 false (fun p => alu .or .b8 p (.reg reg) (readRM .b8 p rm)) s

/-- `OR r, r/m`, row OR_0B (R356). -/
def execOrRRm (rm : RM) (reg : Reg) (s : State) : Host.Outcome State Fault Refusal :=
  perform .g386 false (fun p => alu .or p.osz.width p (.reg reg) (readRM p.osz.width p rm)) s

/-- `OR AL, ib`, row OR_0C (R356). -/
def execOrAlIb (imm : Byte) (s : State) : Host.Outcome State Fault Refusal :=
  perform .g386 false (fun p => alu .or .b8 p (.reg .eax) (pure imm)) s

/-- `OR eAX, iz`, row OR_0D (R356). -/
def execOrEaxIz (imm : Word) (s : State) : Host.Outcome State Fault Refusal :=
  perform .g386 false (fun p => alu .or p.osz.width p (.reg .eax) (pure (immSized p.osz.width imm))) s

/-- `OR r/m8, ib`, row OR_801 (R356). -/
def execOrRm8Ib (rm : RM) (imm : Byte) (s : State) : Host.Outcome State Fault Refusal :=
  perform .g386 (isMem rm) (fun p => alu .or .b8 p rm (pure imm)) s

/-- `OR r/m, iz`, row OR_811 (R356). -/
def execOrRmIz (rm : RM) (imm : Word) (s : State) : Host.Outcome State Fault Refusal :=
  perform .g386 (isMem rm) (fun p => alu .or p.osz.width p rm (pure (immSized p.osz.width imm))) s

/-- `OR r/m, ibs`, row OR_831 (R356). -/
def execOrRmIbs (rm : RM) (imm : Byte) (s : State) : Host.Outcome State Fault Refusal :=
  perform .g386 (isMem rm) (fun p => alu .or p.osz.width p rm (pure (immSigned p.osz.width imm))) s

/-- `ADC r/m8, r8`, row ADC_10 (R357). -/
def execAdcRm8R8 (rm : RM) (reg : Reg) (s : State) : Host.Outcome State Fault Refusal :=
  perform .g386 (isMem rm) (fun p => alu .adc .b8 p rm (readReg .b8 reg)) s

/-- `ADC r/m, r`, row ADC_11 (R357). -/
def execAdcRmR (rm : RM) (reg : Reg) (s : State) : Host.Outcome State Fault Refusal :=
  perform .g386 (isMem rm) (fun p => alu .adc p.osz.width p rm (readReg p.osz.width reg)) s

/-- `ADC r8, r/m8`, row ADC_12 (R357). -/
def execAdcR8Rm8 (rm : RM) (reg : Reg) (s : State) : Host.Outcome State Fault Refusal :=
  perform .g386 false (fun p => alu .adc .b8 p (.reg reg) (readRM .b8 p rm)) s

/-- `ADC r, r/m`, row ADC_13 (R357). -/
def execAdcRRm (rm : RM) (reg : Reg) (s : State) : Host.Outcome State Fault Refusal :=
  perform .g386 false (fun p => alu .adc p.osz.width p (.reg reg) (readRM p.osz.width p rm)) s

/-- `ADC AL, ib`, row ADC_14 (R357). -/
def execAdcAlIb (imm : Byte) (s : State) : Host.Outcome State Fault Refusal :=
  perform .g386 false (fun p => alu .adc .b8 p (.reg .eax) (pure imm)) s

/-- `ADC eAX, iz`, row ADC_15 (R357). -/
def execAdcEaxIz (imm : Word) (s : State) : Host.Outcome State Fault Refusal :=
  perform .g386 false (fun p => alu .adc p.osz.width p (.reg .eax) (pure (immSized p.osz.width imm))) s

/-- `ADC r/m8, ib`, row ADC_802 (R357). -/
def execAdcRm8Ib (rm : RM) (imm : Byte) (s : State) : Host.Outcome State Fault Refusal :=
  perform .g386 (isMem rm) (fun p => alu .adc .b8 p rm (pure imm)) s

/-- `ADC r/m, iz`, row ADC_812 (R357). -/
def execAdcRmIz (rm : RM) (imm : Word) (s : State) : Host.Outcome State Fault Refusal :=
  perform .g386 (isMem rm) (fun p => alu .adc p.osz.width p rm (pure (immSized p.osz.width imm))) s

/-- `ADC r/m, ibs`, row ADC_832 (R357). -/
def execAdcRmIbs (rm : RM) (imm : Byte) (s : State) : Host.Outcome State Fault Refusal :=
  perform .g386 (isMem rm) (fun p => alu .adc p.osz.width p rm (pure (immSigned p.osz.width imm))) s

/-- `SBB r/m8, r8`, row SBB_18 (R358). -/
def execSbbRm8R8 (rm : RM) (reg : Reg) (s : State) : Host.Outcome State Fault Refusal :=
  perform .g386 (isMem rm) (fun p => alu .sbb .b8 p rm (readReg .b8 reg)) s

/-- `SBB r/m, r`, row SBB_19 (R358). -/
def execSbbRmR (rm : RM) (reg : Reg) (s : State) : Host.Outcome State Fault Refusal :=
  perform .g386 (isMem rm) (fun p => alu .sbb p.osz.width p rm (readReg p.osz.width reg)) s

/-- `SBB r8, r/m8`, row SBB_1A (R358). -/
def execSbbR8Rm8 (rm : RM) (reg : Reg) (s : State) : Host.Outcome State Fault Refusal :=
  perform .g386 false (fun p => alu .sbb .b8 p (.reg reg) (readRM .b8 p rm)) s

/-- `SBB r, r/m`, row SBB_1B (R358). -/
def execSbbRRm (rm : RM) (reg : Reg) (s : State) : Host.Outcome State Fault Refusal :=
  perform .g386 false (fun p => alu .sbb p.osz.width p (.reg reg) (readRM p.osz.width p rm)) s

/-- `SBB AL, ib`, row SBB_1C (R358). -/
def execSbbAlIb (imm : Byte) (s : State) : Host.Outcome State Fault Refusal :=
  perform .g386 false (fun p => alu .sbb .b8 p (.reg .eax) (pure imm)) s

/-- `SBB eAX, iz`, row SBB_1D (R358). -/
def execSbbEaxIz (imm : Word) (s : State) : Host.Outcome State Fault Refusal :=
  perform .g386 false (fun p => alu .sbb p.osz.width p (.reg .eax) (pure (immSized p.osz.width imm))) s

/-- `SBB r/m8, ib`, row SBB_803 (R358). -/
def execSbbRm8Ib (rm : RM) (imm : Byte) (s : State) : Host.Outcome State Fault Refusal :=
  perform .g386 (isMem rm) (fun p => alu .sbb .b8 p rm (pure imm)) s

/-- `SBB r/m, iz`, row SBB_813 (R358). -/
def execSbbRmIz (rm : RM) (imm : Word) (s : State) : Host.Outcome State Fault Refusal :=
  perform .g386 (isMem rm) (fun p => alu .sbb p.osz.width p rm (pure (immSized p.osz.width imm))) s

/-- `SBB r/m, ibs`, row SBB_833 (R358). -/
def execSbbRmIbs (rm : RM) (imm : Byte) (s : State) : Host.Outcome State Fault Refusal :=
  perform .g386 (isMem rm) (fun p => alu .sbb p.osz.width p rm (pure (immSigned p.osz.width imm))) s

/-- `AND r/m8, r8`, row AND_20 (R359). -/
def execAndRm8R8 (rm : RM) (reg : Reg) (s : State) : Host.Outcome State Fault Refusal :=
  perform .g386 (isMem rm) (fun p => alu .and .b8 p rm (readReg .b8 reg)) s

/-- `AND r/m, r`, row AND_21 (R359). -/
def execAndRmR (rm : RM) (reg : Reg) (s : State) : Host.Outcome State Fault Refusal :=
  perform .g386 (isMem rm) (fun p => alu .and p.osz.width p rm (readReg p.osz.width reg)) s

/-- `AND r8, r/m8`, row AND_22 (R359). -/
def execAndR8Rm8 (rm : RM) (reg : Reg) (s : State) : Host.Outcome State Fault Refusal :=
  perform .g386 false (fun p => alu .and .b8 p (.reg reg) (readRM .b8 p rm)) s

/-- `AND r, r/m`, row AND_23 (R359). -/
def execAndRRm (rm : RM) (reg : Reg) (s : State) : Host.Outcome State Fault Refusal :=
  perform .g386 false (fun p => alu .and p.osz.width p (.reg reg) (readRM p.osz.width p rm)) s

/-- `AND AL, ib`, row AND_24 (R359). -/
def execAndAlIb (imm : Byte) (s : State) : Host.Outcome State Fault Refusal :=
  perform .g386 false (fun p => alu .and .b8 p (.reg .eax) (pure imm)) s

/-- `AND eAX, iz`, row AND_25 (R359). -/
def execAndEaxIz (imm : Word) (s : State) : Host.Outcome State Fault Refusal :=
  perform .g386 false (fun p => alu .and p.osz.width p (.reg .eax) (pure (immSized p.osz.width imm))) s

/-- `AND r/m8, ib`, row AND_804 (R359). -/
def execAndRm8Ib (rm : RM) (imm : Byte) (s : State) : Host.Outcome State Fault Refusal :=
  perform .g386 (isMem rm) (fun p => alu .and .b8 p rm (pure imm)) s

/-- `AND r/m, iz`, row AND_814 (R359). -/
def execAndRmIz (rm : RM) (imm : Word) (s : State) : Host.Outcome State Fault Refusal :=
  perform .g386 (isMem rm) (fun p => alu .and p.osz.width p rm (pure (immSized p.osz.width imm))) s

/-- `AND r/m, ibs`, row AND_834 (R359). -/
def execAndRmIbs (rm : RM) (imm : Byte) (s : State) : Host.Outcome State Fault Refusal :=
  perform .g386 (isMem rm) (fun p => alu .and p.osz.width p rm (pure (immSigned p.osz.width imm))) s

/-- `SUB r/m8, r8`, row SUB_28 (R360). -/
def execSubRm8R8 (rm : RM) (reg : Reg) (s : State) : Host.Outcome State Fault Refusal :=
  perform .g386 (isMem rm) (fun p => alu .sub .b8 p rm (readReg .b8 reg)) s

/-- `SUB r/m, r`, row SUB_29 (R360). -/
def execSubRmR (rm : RM) (reg : Reg) (s : State) : Host.Outcome State Fault Refusal :=
  perform .g386 (isMem rm) (fun p => alu .sub p.osz.width p rm (readReg p.osz.width reg)) s

/-- `SUB r8, r/m8`, row SUB_2A (R360). -/
def execSubR8Rm8 (rm : RM) (reg : Reg) (s : State) : Host.Outcome State Fault Refusal :=
  perform .g386 false (fun p => alu .sub .b8 p (.reg reg) (readRM .b8 p rm)) s

/-- `SUB r, r/m`, row SUB_2B (R360). -/
def execSubRRm (rm : RM) (reg : Reg) (s : State) : Host.Outcome State Fault Refusal :=
  perform .g386 false (fun p => alu .sub p.osz.width p (.reg reg) (readRM p.osz.width p rm)) s

/-- `SUB AL, ib`, row SUB_2C (R360). -/
def execSubAlIb (imm : Byte) (s : State) : Host.Outcome State Fault Refusal :=
  perform .g386 false (fun p => alu .sub .b8 p (.reg .eax) (pure imm)) s

/-- `SUB eAX, iz`, row SUB_2D (R360). -/
def execSubEaxIz (imm : Word) (s : State) : Host.Outcome State Fault Refusal :=
  perform .g386 false (fun p => alu .sub p.osz.width p (.reg .eax) (pure (immSized p.osz.width imm))) s

/-- `SUB r/m8, ib`, row SUB_805 (R360). -/
def execSubRm8Ib (rm : RM) (imm : Byte) (s : State) : Host.Outcome State Fault Refusal :=
  perform .g386 (isMem rm) (fun p => alu .sub .b8 p rm (pure imm)) s

/-- `SUB r/m, iz`, row SUB_815 (R360). -/
def execSubRmIz (rm : RM) (imm : Word) (s : State) : Host.Outcome State Fault Refusal :=
  perform .g386 (isMem rm) (fun p => alu .sub p.osz.width p rm (pure (immSized p.osz.width imm))) s

/-- `SUB r/m, ibs`, row SUB_835 (R360). -/
def execSubRmIbs (rm : RM) (imm : Byte) (s : State) : Host.Outcome State Fault Refusal :=
  perform .g386 (isMem rm) (fun p => alu .sub p.osz.width p rm (pure (immSigned p.osz.width imm))) s

/-- `XOR r/m8, r8`, row XOR_30 (R361). -/
def execXorRm8R8 (rm : RM) (reg : Reg) (s : State) : Host.Outcome State Fault Refusal :=
  perform .g386 (isMem rm) (fun p => alu .xor .b8 p rm (readReg .b8 reg)) s

/-- `XOR r/m, r`, row XOR_31 (R361). -/
def execXorRmR (rm : RM) (reg : Reg) (s : State) : Host.Outcome State Fault Refusal :=
  perform .g386 (isMem rm) (fun p => alu .xor p.osz.width p rm (readReg p.osz.width reg)) s

/-- `XOR r8, r/m8`, row XOR_32 (R361). -/
def execXorR8Rm8 (rm : RM) (reg : Reg) (s : State) : Host.Outcome State Fault Refusal :=
  perform .g386 false (fun p => alu .xor .b8 p (.reg reg) (readRM .b8 p rm)) s

/-- `XOR r, r/m`, row XOR_33 (R361). -/
def execXorRRm (rm : RM) (reg : Reg) (s : State) : Host.Outcome State Fault Refusal :=
  perform .g386 false (fun p => alu .xor p.osz.width p (.reg reg) (readRM p.osz.width p rm)) s

/-- `XOR AL, ib`, row XOR_34 (R361). -/
def execXorAlIb (imm : Byte) (s : State) : Host.Outcome State Fault Refusal :=
  perform .g386 false (fun p => alu .xor .b8 p (.reg .eax) (pure imm)) s

/-- `XOR eAX, iz`, row XOR_35 (R361). -/
def execXorEaxIz (imm : Word) (s : State) : Host.Outcome State Fault Refusal :=
  perform .g386 false (fun p => alu .xor p.osz.width p (.reg .eax) (pure (immSized p.osz.width imm))) s

/-- `XOR r/m8, ib`, row XOR_806 (R361). -/
def execXorRm8Ib (rm : RM) (imm : Byte) (s : State) : Host.Outcome State Fault Refusal :=
  perform .g386 (isMem rm) (fun p => alu .xor .b8 p rm (pure imm)) s

/-- `XOR r/m, iz`, row XOR_816 (R361). -/
def execXorRmIz (rm : RM) (imm : Word) (s : State) : Host.Outcome State Fault Refusal :=
  perform .g386 (isMem rm) (fun p => alu .xor p.osz.width p rm (pure (immSized p.osz.width imm))) s

/-- `XOR r/m, ibs`, row XOR_836 (R361). -/
def execXorRmIbs (rm : RM) (imm : Byte) (s : State) : Host.Outcome State Fault Refusal :=
  perform .g386 (isMem rm) (fun p => alu .xor p.osz.width p rm (pure (immSigned p.osz.width imm))) s

/-- `CMP r/m8, r8`, row CMP_38 (R362). -/
def execCmpRm8R8 (rm : RM) (reg : Reg) (s : State) : Host.Outcome State Fault Refusal :=
  perform .g386 false (fun p => alu .cmp .b8 p rm (readReg .b8 reg)) s

/-- `CMP r/m, r`, row CMP_39 (R362). -/
def execCmpRmR (rm : RM) (reg : Reg) (s : State) : Host.Outcome State Fault Refusal :=
  perform .g386 false (fun p => alu .cmp p.osz.width p rm (readReg p.osz.width reg)) s

/-- `CMP r8, r/m8`, row CMP_3A (R362). -/
def execCmpR8Rm8 (rm : RM) (reg : Reg) (s : State) : Host.Outcome State Fault Refusal :=
  perform .g386 false (fun p => alu .cmp .b8 p (.reg reg) (readRM .b8 p rm)) s

/-- `CMP r, r/m`, row CMP_3B (R362). -/
def execCmpRRm (rm : RM) (reg : Reg) (s : State) : Host.Outcome State Fault Refusal :=
  perform .g386 false (fun p => alu .cmp p.osz.width p (.reg reg) (readRM p.osz.width p rm)) s

/-- `CMP AL, ib`, row CMP_3C (R362). -/
def execCmpAlIb (imm : Byte) (s : State) : Host.Outcome State Fault Refusal :=
  perform .g386 false (fun p => alu .cmp .b8 p (.reg .eax) (pure imm)) s

/-- `CMP eAX, iz`, row CMP_3D (R362). -/
def execCmpEaxIz (imm : Word) (s : State) : Host.Outcome State Fault Refusal :=
  perform .g386 false (fun p => alu .cmp p.osz.width p (.reg .eax) (pure (immSized p.osz.width imm))) s

/-- `CMP r/m8, ib`, row CMP_807 (R362). -/
def execCmpRm8Ib (rm : RM) (imm : Byte) (s : State) : Host.Outcome State Fault Refusal :=
  perform .g386 false (fun p => alu .cmp .b8 p rm (pure imm)) s

/-- `CMP r/m, iz`, row CMP_817 (R362). -/
def execCmpRmIz (rm : RM) (imm : Word) (s : State) : Host.Outcome State Fault Refusal :=
  perform .g386 false (fun p => alu .cmp p.osz.width p rm (pure (immSized p.osz.width imm))) s

/-- `CMP r/m, ibs`, row CMP_837 (R362). -/
def execCmpRmIbs (rm : RM) (imm : Byte) (s : State) : Host.Outcome State Fault Refusal :=
  perform .g386 false (fun p => alu .cmp p.osz.width p rm (pure (immSigned p.osz.width imm))) s

/-- `TEST r/m8, r8`, row TEST_84 (R363). -/
def execTestRm8R8 (rm : RM) (reg : Reg) (s : State) : Host.Outcome State Fault Refusal :=
  perform .g386 false (fun p => test .b8 p rm (readReg .b8 reg)) s

/-- `TEST r/m, r`, row TEST_85 (R363). -/
def execTestRmR (rm : RM) (reg : Reg) (s : State) : Host.Outcome State Fault Refusal :=
  perform .g386 false (fun p => test p.osz.width p rm (readReg p.osz.width reg)) s

/-- `TEST AL, ib`, row TEST_A8 (R363). -/
def execTestAlIb (imm : Byte) (s : State) : Host.Outcome State Fault Refusal :=
  perform .g386 false (fun p => test .b8 p (.reg .eax) (pure imm)) s

/-- `TEST eAX, iz`, row TEST_A9 (R363). -/
def execTestEaxIz (imm : Word) (s : State) : Host.Outcome State Fault Refusal :=
  perform .g386 false (fun p => test p.osz.width p (.reg .eax) (pure (immSized p.osz.width imm))) s

/-- `TEST r/m8, ib`, row TEST_F60 (R363). -/
def execTestRm8Ib (rm : RM) (imm : Byte) (s : State) : Host.Outcome State Fault Refusal :=
  perform .g386 false (fun p => test .b8 p rm (pure imm)) s

/-- `TEST r/m, iz`, row TEST_F70 (R363). -/
def execTestRmIz (rm : RM) (imm : Word) (s : State) : Host.Outcome State Fault Refusal :=
  perform .g386 false (fun p => test p.osz.width p rm (pure (immSized p.osz.width imm))) s

/-- `INC r`, row INC_40 (R364). -/
def execIncR (reg : Reg) (s : State) : Host.Outcome State Fault Refusal :=
  perform .g386 false (fun p => inc p.osz.width p (.reg reg)) s

/-- `INC r/m8`, row INC_FE0 (R364). -/
def execIncRm8 (rm : RM) (s : State) : Host.Outcome State Fault Refusal :=
  perform .g386 (isMem rm) (fun p => inc .b8 p rm) s

/-- `INC r/m`, row INC_FF0 (R364). -/
def execIncRm (rm : RM) (s : State) : Host.Outcome State Fault Refusal :=
  perform .g386 (isMem rm) (fun p => inc p.osz.width p rm) s

/-- `DEC r`, row DEC_48 (R365). -/
def execDecR (reg : Reg) (s : State) : Host.Outcome State Fault Refusal :=
  perform .g386 false (fun p => dec p.osz.width p (.reg reg)) s

/-- `DEC r/m8`, row DEC_FE1 (R365). -/
def execDecRm8 (rm : RM) (s : State) : Host.Outcome State Fault Refusal :=
  perform .g386 (isMem rm) (fun p => dec .b8 p rm) s

/-- `DEC r/m`, row DEC_FF1 (R365). -/
def execDecRm (rm : RM) (s : State) : Host.Outcome State Fault Refusal :=
  perform .g386 (isMem rm) (fun p => dec p.osz.width p rm) s

/-- `NOT r/m8`, row NOT_F62 (R366). -/
def execNotRm8 (rm : RM) (s : State) : Host.Outcome State Fault Refusal :=
  perform .g386 (isMem rm) (fun p => complement .b8 p rm) s

/-- `NOT r/m`, row NOT_F72 (R366). -/
def execNotRm (rm : RM) (s : State) : Host.Outcome State Fault Refusal :=
  perform .g386 (isMem rm) (fun p => complement p.osz.width p rm) s

/-- `NEG r/m8`, row NEG_F63 (R367). -/
def execNegRm8 (rm : RM) (s : State) : Host.Outcome State Fault Refusal :=
  perform .g386 (isMem rm) (fun p => negate .b8 p rm) s

/-- `NEG r/m`, row NEG_F73 (R367). -/
def execNegRm (rm : RM) (s : State) : Host.Outcome State Fault Refusal :=
  perform .g386 (isMem rm) (fun p => negate p.osz.width p rm) s

/-- `MUL r/m8`, row MUL_F64 (R368). -/
def execMulRm8 (rm : RM) (s : State) : Host.Outcome State Fault Refusal :=
  perform .g386 false (fun p => mul .b8 p rm) s

/-- `MUL r/m`, row MUL_F74 (R368). -/
def execMulRm (rm : RM) (s : State) : Host.Outcome State Fault Refusal :=
  perform .g386 false (fun p => mul p.osz.width p rm) s

/-- `IMUL r/m8`, row IMUL_F65 (R369). -/
def execImulRm8 (rm : RM) (s : State) : Host.Outcome State Fault Refusal :=
  perform .g386 false (fun p => imul .b8 p rm) s

/-- `IMUL r/m`, row IMUL_F75 (R369). -/
def execImulRm (rm : RM) (s : State) : Host.Outcome State Fault Refusal :=
  perform .g386 false (fun p => imul p.osz.width p rm) s

/-- `DIV r/m8`, row DIV_F66 (R372). -/
def execDivRm8 (rm : RM) (s : State) : Host.Outcome State Fault Refusal :=
  perform .g386 false (fun p => div .b8 p rm) s

/-- `DIV r/m`, row DIV_F76 (R372). -/
def execDivRm (rm : RM) (s : State) : Host.Outcome State Fault Refusal :=
  perform .g386 false (fun p => div p.osz.width p rm) s

/-- `IDIV r/m8`, row IDIV_F67 (R373). -/
def execIdivRm8 (rm : RM) (s : State) : Host.Outcome State Fault Refusal :=
  perform .g386 false (fun p => idiv .b8 p rm) s

/-- `IDIV r/m`, row IDIV_F77 (R373). -/
def execIdivRm (rm : RM) (s : State) : Host.Outcome State Fault Refusal :=
  perform .g386 false (fun p => idiv p.osz.width p rm) s

/-- `IMUL r, r/m`, row IMUL_0FAF (R370). -/
def execImulRRm (rm : RM) (reg : Reg) (s : State) : Host.Outcome State Fault Refusal :=
  perform .g386 false (fun p => imulTo p.osz.width reg (readReg p.osz.width reg) (readRM p.osz.width p rm)) s

/-- `IMUL r, r/m, iz`, row IMUL_69 (R371). -/
def execImulRRmIz (rm : RM) (reg : Reg) (imm : Word) (s : State) : Host.Outcome State Fault Refusal :=
  perform .g386 false (fun p => imulTo p.osz.width reg (readRM p.osz.width p rm) (pure (immSized p.osz.width imm))) s

/-- `IMUL r, r/m, ibs`, row IMUL_6B (R371). -/
def execImulRRmIbs (rm : RM) (reg : Reg) (imm : Byte) (s : State) : Host.Outcome State Fault Refusal :=
  perform .g386 false (fun p => imulTo p.osz.width reg (readRM p.osz.width p rm) (pure (immSigned p.osz.width imm))) s

end Sys2Proof.Machine
end

