-- ==== Sys2Proof/Machine/Bits.lean ====
section
/-! DEFINITION. Bit manipulation (spec/43_bit_manipulation.md R460 to R471). -/

namespace Sys2Proof.Machine

/-- The four bit tests (R460). -/
inductive BitOp where
  | bt | bts | btr | btc
  deriving DecidableEq, Repr

/-- BT writes nothing (R464). -/
def BitOp.writes : BitOp → Bool
  | .bt => false
  | .bts | .btr | .btc => true

/-- The operand after a bit test of bit i (R464 to R467). -/
def BitOp.result {n : Nat} (op : BitOp) (v : BitVec n) (i : Nat) : BitVec n :=
  match op with
  | .bt => v
  | .bts => v ||| (1#n <<< i)
  | .btr => v &&& ~~~(1#n <<< i)
  | .btc => v ^^^ (1#n <<< i)

/-- How far a signed bit offset moves the operand, in bytes (R461). -/
def bitDisplacement (w : Width) (k : BitVec w.bits) : Word := BitVec.ofInt 32 (w.bytes * (k.toInt / w.bits))

/-- The operand and bit number of a register bit offset (R461). -/
def bitByReg (w : Width) (write : Bool) (p : Pfx) (rm : RM) (reg : Reg) : Act (Place × Nat) := do
  let k ← readReg w reg
  match rm with
  | .reg r => pure (.reg r, k.toNat % w.bits)
  | .mem m => do
    let off ← look fun s => effOffset s m
    let sp ← resolveMem (effSeg p m) (addrWrap p.asz (off + bitDisplacement w k)) w.bytes write
    pure (.mem sp, (k.toInt % w.bits).toNat)

/-- The operand and bit number of an immediate bit offset (R462). -/
def bitByImm (w : Width) (write : Bool) (p : Pfx) (rm : RM) (imm : Byte) : Act (Place × Nat) := do
  let pl ← resolveRM w write p rm
  pure (pl, imm.toNat % w.bits)

/-- The flags of a bit test: CF the old bit, ZF kept, the others undefined (R463). -/
def bitStatus (old drawn : Status) (bit : Bool) : Status := { drawn with cf := bit, zf := old.zf }

/-- A bit test of a selected operand and bit (R463 to R467). -/
def bitTest (op : BitOp) (w : Width) (target : Act (Place × Nat)) : Act Unit := do
  let t ← target
  let v ← readPlace w t.1
  onlyIf op.writes (writePlace w t.1 (op.result v t.2))
  let d ← drawStatus
  update fun s => s.setStatus (bitStatus s.status d (v.getLsbD t.2))

/-- BSF and BSR: for a zero source the destination is a draw; the flags other than ZF are draws (R468, R469). -/
def bitScan (w : Width) (p : Pfx) (rm : RM) (reg : Reg) (find : BitVec w.bits → Option Nat) : Act Unit := do
  let v ← readRM w p rm
  let d ← drawStatus
  match find v with
  | none => do
    let x ← drawBits w.bits
    writeReg w reg x
    update fun s => s.setStatus { d with zf := true }
  | some i => do
    writeReg w reg (BitVec.ofNat w.bits i)
    update fun s => s.setStatus { d with zf := false }

/-- The four bytes of a word in reverse order (R470). -/
def reverseBytes (v : Word) : Word := v.extractLsb' 0 8 ++ v.extractLsb' 8 8 ++ v.extractLsb' 16 8 ++ v.extractLsb' 24 8

/-- BSWAP; at operand size 16 the low half is undefined (R470). -/
def byteSwap (osz : Size) (reg : Reg) : Act Unit :=
  match osz with
  | .w16 => do
    let x ← drawBits 16
    writeReg .b16 reg x
  | .w32 => update fun s => s.setGpr .b32 reg (reverseBytes (s.gpr32 reg))

/-- `BT r/m, r`, row BT_0FA3 (R464). -/
def execBtRmR (rm : RM) (reg : Reg) (s : State) : Host.Outcome State Fault Refusal :=
  perform .g386 false (fun p => bitTest .bt p.osz.width (bitByReg p.osz.width (BitOp.writes .bt) p rm reg)) s

/-- `BT r/m, ib`, row BT_0FBA4 (R464). -/
def execBtRmIb (rm : RM) (imm : Byte) (s : State) : Host.Outcome State Fault Refusal :=
  perform .g386 false (fun p => bitTest .bt p.osz.width (bitByImm p.osz.width (BitOp.writes .bt) p rm imm)) s

/-- `BTS r/m, r`, row BTS_0FAB (R465). -/
def execBtsRmR (rm : RM) (reg : Reg) (s : State) : Host.Outcome State Fault Refusal :=
  perform .g386 (isMem rm) (fun p => bitTest .bts p.osz.width (bitByReg p.osz.width (BitOp.writes .bts) p rm reg)) s

/-- `BTS r/m, ib`, row BTS_0FBA5 (R465). -/
def execBtsRmIb (rm : RM) (imm : Byte) (s : State) : Host.Outcome State Fault Refusal :=
  perform .g386 (isMem rm) (fun p => bitTest .bts p.osz.width (bitByImm p.osz.width (BitOp.writes .bts) p rm imm)) s

/-- `BTR r/m, r`, row BTR_0FB3 (R466). -/
def execBtrRmR (rm : RM) (reg : Reg) (s : State) : Host.Outcome State Fault Refusal :=
  perform .g386 (isMem rm) (fun p => bitTest .btr p.osz.width (bitByReg p.osz.width (BitOp.writes .btr) p rm reg)) s

/-- `BTR r/m, ib`, row BTR_0FBA6 (R466). -/
def execBtrRmIb (rm : RM) (imm : Byte) (s : State) : Host.Outcome State Fault Refusal :=
  perform .g386 (isMem rm) (fun p => bitTest .btr p.osz.width (bitByImm p.osz.width (BitOp.writes .btr) p rm imm)) s

/-- `BTC r/m, r`, row BTC_0FBB (R467). -/
def execBtcRmR (rm : RM) (reg : Reg) (s : State) : Host.Outcome State Fault Refusal :=
  perform .g386 (isMem rm) (fun p => bitTest .btc p.osz.width (bitByReg p.osz.width (BitOp.writes .btc) p rm reg)) s

/-- `BTC r/m, ib`, row BTC_0FBA7 (R467). -/
def execBtcRmIb (rm : RM) (imm : Byte) (s : State) : Host.Outcome State Fault Refusal :=
  perform .g386 (isMem rm) (fun p => bitTest .btc p.osz.width (bitByImm p.osz.width (BitOp.writes .btc) p rm imm)) s

/-- `BSF r, r/m`, row BSF_0FBC (R468). -/
def execBsfRRm (rm : RM) (reg : Reg) (s : State) : Host.Outcome State Fault Refusal :=
  perform .g386 false (fun p => bitScan p.osz.width p rm reg lowestBit) s

/-- `BSR r, r/m`, row BSR_0FBD (R469). -/
def execBsrRRm (rm : RM) (reg : Reg) (s : State) : Host.Outcome State Fault Refusal :=
  perform .g386 false (fun p => bitScan p.osz.width p rm reg highestBit) s

/-- `BSWAP r32`, row BSWAP_0FC8R (R470). -/
def execBswapR32 (reg : Reg) (s : State) : Host.Outcome State Fault Refusal :=
  perform .g486 false (fun p => byteSwap p.osz reg) s

end Sys2Proof.Machine
end

