-- ==== Sys2Proof/Machine/CompareExchange.lean ====
section
/-! DEFINITION. Compare-exchange and exchange-add (spec/45_compare_exchange.md R520 to R525). -/

namespace Sys2Proof.Machine

/-- CMPXCHG: the destination is written on a miss too (R520, R522). -/
def compareExchange (w : Width) (p : Pfx) (dst : RM) (reg : Reg) : Act Unit := do
  let pl ← resolveRM w true p dst
  let d ← readPlace w pl
  let acc ← readReg w .eax
  let src ← readReg w reg
  update fun s => s.setStatus (flagsSub acc d false)
  if acc = d then writePlace w pl src
  else do
    writePlace w pl d
    writeReg w .eax d

/-- XADD: the destination is written last (R523). -/
def exchangeAdd (w : Width) (p : Pfx) (dst : RM) (reg : Reg) : Act Unit := do
  let pl ← resolveRM w true p dst
  let d ← readPlace w pl
  let src ← readReg w reg
  writeReg w reg d
  writePlace w pl (addResult d src false)
  update fun s => s.setStatus (flagsAdd d src false)

/-- CMPXCHG8B: the destination is written on a miss too; only ZF changes (R520, R524). -/
def compareExchange8 (p : Pfx) (m : Mem) : Act Unit := do
  let off ← look fun s => effOffset s m
  let sp ← resolveMem (effSeg p m) off 8 true
  let bs ← readSpan sp
  let old ← look fun s => s.gpr32 .edx ++ s.gpr32 .eax
  let new ← look fun s => s.gpr32 .ecx ++ s.gpr32 .ebx
  let v := ofBytes 64 bs
  if old = v then do
    update fun s => s.setFlag .zf true
    writeSpan sp (toBytes new)
  else do
    update fun s => s.setFlag .zf false
    writeSpan sp (toBytes v)
    update fun s => (s.setGpr .b32 .edx (v.extractLsb' 32 32)).setGpr .b32 .eax (v.extractLsb' 0 32)

/-- `CMPXCHG r/m8, r8`, row CMPXCHG_0FB0 (R522). -/
def execCmpxchgRm8R8 (rm : RM) (reg : Reg) (s : State) : Host.Outcome State Fault Refusal :=
  perform .g486 (isMem rm) (fun p => compareExchange .b8 p rm reg) s

/-- `CMPXCHG r/m, r`, row CMPXCHG_0FB1 (R522). -/
def execCmpxchgRmR (rm : RM) (reg : Reg) (s : State) : Host.Outcome State Fault Refusal :=
  perform .g486 (isMem rm) (fun p => compareExchange p.osz.width p rm reg) s

/-- `XADD r/m8, r8`, row XADD_0FC0 (R523). -/
def execXaddRm8R8 (rm : RM) (reg : Reg) (s : State) : Host.Outcome State Fault Refusal :=
  perform .g486 (isMem rm) (fun p => exchangeAdd .b8 p rm reg) s

/-- `XADD r/m, r`, row XADD_0FC1 (R523). -/
def execXaddRmR (rm : RM) (reg : Reg) (s : State) : Host.Outcome State Fault Refusal :=
  perform .g486 (isMem rm) (fun p => exchangeAdd p.osz.width p rm reg) s

/-- `CMPXCHG8B m64`, row CMPXCHG8B_0FC71 (R524). -/
def execCmpxchg8bM64 (m : Mem) (s : State) : Host.Outcome State Fault Refusal :=
  perform .g586 true (fun p => compareExchange8 p m) s

end Sys2Proof.Machine
end

