-- ==== Sys2Proof/Machine/Control.lean ====
section
/-! DEFINITION. Control transfer (spec/46_control_transfer.md R550 to R572). -/

namespace Sys2Proof.Machine

/-- `eip <- NearTarget(v)`. -/
def jumpNear (osz : Size) (v : Word) : Act Unit := do
  let t ← nearTarget osz v
  jumpTo t

/-- A relative branch taken under a condition (R553 to R555, R559). -/
def branchIf (osz : Size) (cond : State → Bool) (rel : Word) : Act Unit := do
  let taken ← look cond
  let next ← look State.eip
  if taken then jumpNear osz (next + rel) else pure ()

/-- LOOP, LOOPE and LOOPNE: count down, then branch while the count is not 0 and the condition holds (R556 to R558). -/
def loopIf (p : Pfx) (cond : State → Bool) (rel : Word) : Act Unit := do
  update fun s => setAddrReg p.asz .ecx (addrReg p.asz .ecx s - 1#32) s
  branchIf p.osz (fun s => addrReg p.asz .ecx s != 0#32 && cond s) rel

/-- JMP r/m (R560). -/
def jumpIndirect (p : Pfx) (rm : RM) : Act Unit := do
  let v ← readRM p.osz.width p rm
  jumpNear p.osz (v.setWidth 32)

/-- Push the return offset and go to a checked target (R561, R562). -/
def callTo (osz : Size) (t : Word) : Act Unit := do
  let next ← look State.eip
  push (next.setWidth osz.width.bits)
  jumpTo t

/-- CALL relz (R561). -/
def callRelative (p : Pfx) (rel : Word) : Act Unit := do
  let next ← look State.eip
  let t ← nearTarget p.osz (next + rel)
  callTo p.osz t

/-- CALL r/m (R562). -/
def callIndirect (p : Pfx) (rm : RM) : Act Unit := do
  let v ← readRM p.osz.width p rm
  let t ← nearTarget p.osz (v.setWidth 32)
  callTo p.osz t

/-- RET and RET iw (R563). -/
def returnNear (p : Pfx) (imm : BitVec 16) : Act Unit := do
  let v ← pop p.osz.width.bits
  let t ← nearTarget p.osz (v.setWidth 32)
  update fun s => s.dropStack (imm.setWidth 32)
  jumpTo t

/-- A far JMP (R564, R565). -/
def farJump (p : Pfx) (target : Act (Word × Sel)) : Act Unit := do
  let t ← target
  let pe ← look State.pe
  if pe then farTransferPm .jmp p.osz t.2 t.1 else farLoadReal p.osz t.2 t.1

/-- A far CALL (R566, R567). -/
def farCall (p : Pfx) (target : Act (Word × Sel)) : Act Unit := do
  let t ← target
  let pe ← look State.pe
  if pe then farTransferPm .call p.osz t.2 t.1
  else do
    let _ ← nearTarget p.osz t.1
    let cs ← look fun s => s.segs.cs.sel
    let next ← look State.eip
    pushSel p.osz cs
    push (next.setWidth p.osz.width.bits)
    farLoadReal p.osz t.2 t.1

/-- RETF and RETF iw; in protected mode the far pointer is read at the stack top and the parameter does the rest (R568;
notes/assumptions/17.md). -/
def returnFar (p : Pfx) (kind : FarKind) (imm : BitVec 16) : Act Unit := do
  let pe ← look State.pe
  if pe then do
    let off ← readTop p.osz.width.bits
    let second ← look fun s => stackWrap s.stackBig (s.stackTop + BitVec.ofNat 32 p.osz.bytes)
    let sel ← memReadBits p.osz.width.bits .ss second
    farTransferPm kind p.osz (sel.setWidth 16) (off.setWidth 32)
  else do
    let off ← pop p.osz.width.bits
    let sel ← pop p.osz.width.bits
    farLoadReal p.osz (sel.setWidth 16) (off.setWidth 32)
    update fun s => s.dropStack (imm.setWidth 32)

/-- The mask of IRET by operand size (R569). -/
def iretMask (osz : Size) : Word :=
  match osz with
  | .w16 => 0x00007FD5#32
  | .w32 => 0x00257FD5#32

/-- IRET and IRETD (R569). -/
def interruptReturn (p : Pfx) : Act Unit := do
  let pe ← look State.pe
  if pe then iretPm p.osz
  else do
    let off ← pop p.osz.width.bits
    let sel ← pop p.osz.width.bits
    let fl ← pop p.osz.width.bits
    farLoadReal p.osz (sel.setWidth 16) (off.setWidth 32)
    update fun s => s.setEflags (fl.setWidth 32) (iretMask p.osz)

/-- INTO (R571). -/
def trapOnOverflow : Act Unit := do
  let of ← look fun s => s.flag .of
  if of then stop (.trap 4#8 .trap) else pure ()

/-- `Jcc rel8`, row JCC_70 (R553). -/
def execJccRel8 (cc : Cond) (rel : Byte) (s : State) : Host.Outcome State Fault Refusal :=
  perform .g386 false (fun p => branchIf p.osz (fun s => condHolds cc s.eflags) (rel.signExtend 32)) s

/-- `Jcc relz`, row JCC_0F80 (R554). -/
def execJccRelz (cc : Cond) (rel : Word) (s : State) : Host.Outcome State Fault Refusal :=
  perform .g386 false (fun p => branchIf p.osz (fun s => condHolds cc s.eflags) (relSized p.osz rel)) s

/-- `JMP rel8`, row JMP_EB (R555). -/
def execJmpRel8 (rel : Byte) (s : State) : Host.Outcome State Fault Refusal :=
  perform .g386 false (fun p => branchIf p.osz (fun _ => true) (rel.signExtend 32)) s

/-- `JMP relz`, row JMP_E9 (R555). -/
def execJmpRelz (rel : Word) (s : State) : Host.Outcome State Fault Refusal :=
  perform .g386 false (fun p => branchIf p.osz (fun _ => true) (relSized p.osz rel)) s

/-- `LOOP rel8`, row LOOP_E2 (R556). -/
def execLoopRel8 (rel : Byte) (s : State) : Host.Outcome State Fault Refusal :=
  perform .g386 false (fun p => loopIf p (fun _ => true) (rel.signExtend 32)) s

/-- `LOOPE rel8`, row LOOPE_E1 (R557). -/
def execLoopeRel8 (rel : Byte) (s : State) : Host.Outcome State Fault Refusal :=
  perform .g386 false (fun p => loopIf p (fun s => s.flag .zf) (rel.signExtend 32)) s

/-- `LOOPNE rel8`, row LOOPNE_E0 (R558). -/
def execLoopneRel8 (rel : Byte) (s : State) : Host.Outcome State Fault Refusal :=
  perform .g386 false (fun p => loopIf p (fun s => !s.flag .zf) (rel.signExtend 32)) s

/-- `JCXZ / JECXZ rel8`, row JCXZ_E3 (R559). -/
def execJcxzRel8 (rel : Byte) (s : State) : Host.Outcome State Fault Refusal :=
  perform .g386 false (fun p => branchIf p.osz (fun s => addrReg p.asz .ecx s == 0#32) (rel.signExtend 32)) s

/-- `JMP r/m`, row JMP_FF4 (R560). -/
def execJmpRm (rm : RM) (s : State) : Host.Outcome State Fault Refusal :=
  perform .g386 false (fun p => jumpIndirect p rm) s

/-- `CALL relz`, row CALL_E8 (R561). -/
def execCallRelz (rel : Word) (s : State) : Host.Outcome State Fault Refusal :=
  perform .g386 false (fun p => callRelative p (relSized p.osz rel)) s

/-- `CALL r/m`, row CALL_FF2 (R562). -/
def execCallRm (rm : RM) (s : State) : Host.Outcome State Fault Refusal :=
  perform .g386 false (fun p => callIndirect p rm) s

/-- `RET`, row RET_C3 (R563). -/
def execRet (s : State) : Host.Outcome State Fault Refusal :=
  perform .g386 false (fun p => returnNear p 0#16) s

/-- `RET iw`, row RET_C2 (R563). -/
def execRetIw (imm : BitVec 16) (s : State) : Host.Outcome State Fault Refusal :=
  perform .g386 false (fun p => returnNear p imm) s

/-- `JMP ptr16:z`, row JMPF_EA (R564). -/
def execJmpPtr (off : Word) (sel : Sel) (s : State) : Host.Outcome State Fault Refusal :=
  perform .g386 false (fun p => farJump p (pure (off, sel))) s

/-- `JMP m16:z`, row JMPF_FF5 (R565). -/
def execJmpMemFar (m : Mem) (s : State) : Host.Outcome State Fault Refusal :=
  perform .g386 false (fun p => farJump p (readFarPointer p m)) s

/-- `CALL ptr16:z`, row CALLF_9A (R566). -/
def execCallPtr (off : Word) (sel : Sel) (s : State) : Host.Outcome State Fault Refusal :=
  perform .g386 false (fun p => farCall p (pure (off, sel))) s

/-- `CALL m16:z`, row CALLF_FF3 (R567). -/
def execCallMemFar (m : Mem) (s : State) : Host.Outcome State Fault Refusal :=
  perform .g386 false (fun p => farCall p (readFarPointer p m)) s

/-- `RETF`, row RETF_CB (R568). -/
def execRetf (s : State) : Host.Outcome State Fault Refusal :=
  perform .g386 false (fun p => returnFar p .ret 0#16) s

/-- `RETF iw`, row RETF_CA (R568). -/
def execRetfIw (imm : BitVec 16) (s : State) : Host.Outcome State Fault Refusal :=
  perform .g386 false (fun p => returnFar p (.retfImm imm) imm) s

/-- `IRET / IRETD`, row IRET_CF (R569). -/
def execIret (s : State) : Host.Outcome State Fault Refusal :=
  perform .g386 false (fun p => interruptReturn p) s

/-- `INT ib`, row INT_CD (R570). -/
def execIntIb (imm : Byte) (s : State) : Host.Outcome State Fault Refusal :=
  perform .g386 false (fun _ => stop (.trap imm .software)) s

/-- `INT3`, row INT3_CC (R570). -/
def execInt3 (s : State) : Host.Outcome State Fault Refusal :=
  perform .g386 false (fun _ => stop (.trap 3#8 .software)) s

/-- `INTO`, row INTO_CE (R571). -/
def execInto (s : State) : Host.Outcome State Fault Refusal :=
  perform .g386 false (fun _ => trapOnOverflow) s

end Sys2Proof.Machine
end

