-- ==== Sys2Proof/Machine/DataMovement.lean ====
section
/-! DEFINITION. Data movement (spec/40_data_movement.md R305 to R324). -/

namespace Sys2Proof.Machine

/-- Read an operand, then write it elsewhere (R305, R316, R317, R319, R320). -/
def movRead {α : Type} (src : Act α) (dst : α → Act Unit) : Act Unit := do
  let v ← src
  dst v

/-- The segment of an implicit DS operand (spec/30_encoding.md R216). -/
def dataSeg (p : Pfx) : SegReg := p.seg.getD .ds

/-- MOV from a direct offset (R308). -/
def loadMoffs (w : Width) (p : Pfx) (off : Word) : Act Unit := do
  let v ← memReadBits w.bits (dataSeg p) off
  writeReg w .eax v

/-- MOV to a direct offset (R308). -/
def storeMoffs (w : Width) (p : Pfx) (off : Word) : Act Unit := do
  let v ← readReg w .eax
  memWriteBits (dataSeg p) off v

/-- XCHG (R309). -/
def exchange (w : Width) (p : Pfx) (rm : RM) (reg : Reg) : Act Unit := do
  let pl ← resolveRM w true p rm
  let a ← readPlace w pl
  let b ← readReg w reg
  writePlace w pl b
  writeReg w reg a

/-- LEA: the offset alone, no access (R311). -/
def loadAddress (w : Width) (m : Mem) (reg : Reg) : Act Unit := do
  let off ← look fun s => effOffset s m
  writeReg w reg (off.setWidth w.bits)

/-- A value extended to another width, with its sign or with zeros. -/
def extendTo {n : Nat} (signed : Bool) (v : BitVec n) (m : Nat) : BitVec m := if signed then v.signExtend m else v.setWidth m

/-- MOVZX and MOVSX from an operand of width `src` (R312, R313). -/
def extend (signed : Bool) (src : Width) (p : Pfx) (rm : RM) (reg : Reg) : Act Unit := do
  let v ← readRM src p rm
  writeReg p.osz.width reg (extendTo signed v p.osz.width.bits)

/-- CBW and CWDE (R314). -/
def convertAcc (osz : Size) : Act Unit :=
  match osz with
  | .w16 => update fun s => s.setGpr .b16 .eax ((s.regs.get8 .eax).signExtend 16)
  | .w32 => update fun s => s.setGpr .b32 .eax ((s.gpr16 .eax).signExtend 32)

/-- CWD and CDQ (R315). -/
def signFill (w : Width) : Act Unit := do
  let a ← readReg w .eax
  writeReg w .edx (if a.msb then BitVec.allOnes w.bits else 0#w.bits)

/-- PUSHA and PUSHAD (R321). -/
def pushAll (w : Width) : Act Unit := do
  let sp ← readReg w .esp
  movRead (readReg w .eax) push
  movRead (readReg w .ecx) push
  movRead (readReg w .edx) push
  movRead (readReg w .ebx) push
  push sp
  movRead (readReg w .ebp) push
  movRead (readReg w .esi) push
  movRead (readReg w .edi) push

/-- POPA and POPAD: the saved stack pointer is popped and discarded (R322). -/
def popAll (w : Width) : Act Unit := do
  movRead (pop w.bits) (writeReg w .edi)
  movRead (pop w.bits) (writeReg w .esi)
  movRead (pop w.bits) (writeReg w .ebp)
  movRead (pop w.bits) fun _ => pure ()
  movRead (pop w.bits) (writeReg w .ebx)
  movRead (pop w.bits) (writeReg w .edx)
  movRead (pop w.bits) (writeReg w .ecx)
  movRead (pop w.bits) (writeReg w .eax)

/-- Where XLAT reads (R323). -/
def translateOffset (asz : Size) (s : State) : Word := addrWrap asz (addrReg asz .ebx s + (s.regs.get8 .eax).setWidth 32)

/-- XLAT (R323). -/
def translateByte (p : Pfx) : Act Unit := do
  let off ← look (translateOffset p.asz)
  let v ← memReadBits 8 (dataSeg p) off
  writeReg .b8 .eax v

/-- LEAVE (R324). -/
def leaveFrame (w : Width) : Act Unit := do
  update fun s => s.setStackTop (s.gpr32 .ebp)
  let v ← pop w.bits
  writeReg w .ebp v

/-- `MOV r/m8, r8`, row MOV_88 (R305). -/
def execMovRm8R8 (rm : RM) (reg : Reg) (s : State) : Host.Outcome State Fault Refusal :=
  perform .g386 false (fun p => movRead (readReg .b8 reg) (writeRM .b8 p rm)) s

/-- `MOV r/m, r`, row MOV_89 (R305). -/
def execMovRmR (rm : RM) (reg : Reg) (s : State) : Host.Outcome State Fault Refusal :=
  perform .g386 false (fun p => movRead (readReg p.osz.width reg) (writeRM p.osz.width p rm)) s

/-- `MOV r8, r/m8`, row MOV_8A (R305). -/
def execMovR8Rm8 (rm : RM) (reg : Reg) (s : State) : Host.Outcome State Fault Refusal :=
  perform .g386 false (fun p => movRead (readRM .b8 p rm) (writeReg .b8 reg)) s

/-- `MOV r, r/m`, row MOV_8B (R305). -/
def execMovRRm (rm : RM) (reg : Reg) (s : State) : Host.Outcome State Fault Refusal :=
  perform .g386 false (fun p => movRead (readRM p.osz.width p rm) (writeReg p.osz.width reg)) s

/-- `MOV r/m8, ib`, row MOV_C6 (R306). -/
def execMovRm8Ib (rm : RM) (imm : Byte) (s : State) : Host.Outcome State Fault Refusal :=
  perform .g386 false (fun p => writeRM .b8 p rm imm) s

/-- `MOV r/m, iz`, row MOV_C7 (R306). -/
def execMovRmIz (rm : RM) (imm : Word) (s : State) : Host.Outcome State Fault Refusal :=
  perform .g386 false (fun p => writeRM p.osz.width p rm (immSized p.osz.width imm)) s

/-- `MOV r8, ib`, row MOV_B0 (R307). -/
def execMovR8Ib (reg : Reg) (imm : Byte) (s : State) : Host.Outcome State Fault Refusal :=
  perform .g386 false (fun _ => writeReg .b8 reg imm) s

/-- `MOV r, iz`, row MOV_B8 (R307). -/
def execMovRIz (reg : Reg) (imm : Word) (s : State) : Host.Outcome State Fault Refusal :=
  perform .g386 false (fun p => writeReg p.osz.width reg (immSized p.osz.width imm)) s

/-- `MOV AL, moffs`, row MOV_A0 (R308). -/
def execMovAlMoffs (off : Word) (s : State) : Host.Outcome State Fault Refusal :=
  perform .g386 false (fun p => loadMoffs .b8 p off) s

/-- `MOV eAX, moffs`, row MOV_A1 (R308). -/
def execMovEaxMoffs (off : Word) (s : State) : Host.Outcome State Fault Refusal :=
  perform .g386 false (fun p => loadMoffs p.osz.width p off) s

/-- `MOV moffs, AL`, row MOV_A2 (R308). -/
def execMovMoffsAl (off : Word) (s : State) : Host.Outcome State Fault Refusal :=
  perform .g386 false (fun p => storeMoffs .b8 p off) s

/-- `MOV moffs, eAX`, row MOV_A3 (R308). -/
def execMovMoffsEax (off : Word) (s : State) : Host.Outcome State Fault Refusal :=
  perform .g386 false (fun p => storeMoffs p.osz.width p off) s

/-- `XCHG r/m8, r8`, row XCHG_86 (R309). -/
def execXchgRm8R8 (rm : RM) (reg : Reg) (s : State) : Host.Outcome State Fault Refusal :=
  perform .g386 (isMem rm) (fun p => exchange .b8 p rm reg) s

/-- `XCHG r/m, r`, row XCHG_87 (R309). -/
def execXchgRmR (rm : RM) (reg : Reg) (s : State) : Host.Outcome State Fault Refusal :=
  perform .g386 (isMem rm) (fun p => exchange p.osz.width p rm reg) s

/-- `XCHG eAX, r (r = 1 to 7)`, row XCHG_90R (R309). -/
def execXchgEaxR (reg : Reg) (s : State) : Host.Outcome State Fault Refusal :=
  perform .g386 false (fun p => exchange p.osz.width p (.reg .eax) reg) s

/-- `NOP`, row NOP_90 (R310). -/
def execNop (s : State) : Host.Outcome State Fault Refusal :=
  perform .g386 false (fun _ => pure ()) s

/-- `LEA r, m`, row LEA_8D (R311). -/
def execLeaRM (m : Mem) (reg : Reg) (s : State) : Host.Outcome State Fault Refusal :=
  perform .g386 false (fun p => loadAddress p.osz.width m reg) s

/-- `MOVZX r, r/m8`, row MOVZX_0FB6 (R312). -/
def execMovzxRRm8 (rm : RM) (reg : Reg) (s : State) : Host.Outcome State Fault Refusal :=
  perform .g386 false (fun p => extend false .b8 p rm reg) s

/-- `MOVZX r, r/m16`, row MOVZX_0FB7 (R312). -/
def execMovzxRRm16 (rm : RM) (reg : Reg) (s : State) : Host.Outcome State Fault Refusal :=
  perform .g386 false (fun p => extend false .b16 p rm reg) s

/-- `MOVSX r, r/m8`, row MOVSX_0FBE (R313). -/
def execMovsxRRm8 (rm : RM) (reg : Reg) (s : State) : Host.Outcome State Fault Refusal :=
  perform .g386 false (fun p => extend true .b8 p rm reg) s

/-- `MOVSX r, r/m16`, row MOVSX_0FBF (R313). -/
def execMovsxRRm16 (rm : RM) (reg : Reg) (s : State) : Host.Outcome State Fault Refusal :=
  perform .g386 false (fun p => extend true .b16 p rm reg) s

/-- `CBW / CWDE`, row CBW_98 (R314). -/
def execCbw (s : State) : Host.Outcome State Fault Refusal :=
  perform .g386 false (fun p => convertAcc p.osz) s

/-- `CWD / CDQ`, row CWD_99 (R315). -/
def execCwd (s : State) : Host.Outcome State Fault Refusal :=
  perform .g386 false (fun p => signFill p.osz.width) s

/-- `PUSH r`, row PUSH_50 (R316). -/
def execPushR (reg : Reg) (s : State) : Host.Outcome State Fault Refusal :=
  perform .g386 false (fun p => movRead (readReg p.osz.width reg) push) s

/-- `POP r`, row POP_58 (R317). -/
def execPopR (reg : Reg) (s : State) : Host.Outcome State Fault Refusal :=
  perform .g386 false (fun p => movRead (pop p.osz.width.bits) (writeReg p.osz.width reg)) s

/-- `PUSH iz`, row PUSH_68 (R318). -/
def execPushIz (imm : Word) (s : State) : Host.Outcome State Fault Refusal :=
  perform .g386 false (fun p => push (immSized p.osz.width imm)) s

/-- `PUSH ibs`, row PUSH_6A (R318). -/
def execPushIbs (imm : Byte) (s : State) : Host.Outcome State Fault Refusal :=
  perform .g386 false (fun p => push (immSigned p.osz.width imm)) s

/-- `PUSH r/m`, row PUSH_FF6 (R319). -/
def execPushRm (rm : RM) (s : State) : Host.Outcome State Fault Refusal :=
  perform .g386 false (fun p => movRead (readRM p.osz.width p rm) push) s

/-- `POP r/m`, row POP_8F0 (R320). -/
def execPopRm (rm : RM) (s : State) : Host.Outcome State Fault Refusal :=
  perform .g386 false (fun p => movRead (pop p.osz.width.bits) (writeRM p.osz.width p rm)) s

/-- `PUSHA / PUSHAD`, row PUSHA_60 (R321). -/
def execPusha (s : State) : Host.Outcome State Fault Refusal :=
  perform .g386 false (fun p => pushAll p.osz.width) s

/-- `POPA / POPAD`, row POPA_61 (R322). -/
def execPopa (s : State) : Host.Outcome State Fault Refusal :=
  perform .g386 false (fun p => popAll p.osz.width) s

/-- `XLAT`, row XLAT_D7 (R323). -/
def execXlat (s : State) : Host.Outcome State Fault Refusal :=
  perform .g386 false (fun p => translateByte p) s

/-- `LEAVE`, row LEAVE_C9 (R324). -/
def execLeave (s : State) : Host.Outcome State Fault Refusal :=
  perform .g386 false (fun p => leaveFrame p.osz.width) s

end Sys2Proof.Machine
end

