-- ==== Sys2Proof/Machine/FlagOps.lean ====
section
/-! DEFINITION. Flag control and flag transfer (spec/47_flags.md R615 to R624). -/

namespace Sys2Proof.Machine

/-- PUSHF and PUSHFD (R616). -/
def pushFlags (osz : Size) : Act Unit := do
  let v ← look State.eflags
  match osz with
  | .w16 => push (v.setWidth 16)
  | .w32 => push (v &&& 0x00FCFFFF#32)

/-- The mask of POPF by operand size, mode and privilege (R617). -/
def popfMask (osz : Size) (pe : Bool) (cpl iopl : BitVec 2) : Word :=
  let full : Word :=
    match osz with
    | .w16 => 0x00007FD5#32
    | .w32 => 0x00247FD5#32
  if !pe || cpl == 0#2 then full
  else if iopl.toNat < cpl.toNat then full &&& ~~~0x3200#32
  else full &&& ~~~0x3000#32

/-- POPF and POPFD; POPFD clears RF (R617). -/
def popFlags (osz : Size) : Act Unit := do
  let v ← pop osz.width.bits
  let mask ← look fun s => popfMask osz s.pe s.cpl s.iopl
  update fun s => s.setEflags (v.setWidth 32) mask
  match osz with
  | .w16 => pure ()
  | .w32 => update fun s => s.setFlag .rf false

/-- SAHF (R618). -/
def storeAh : Act Unit := update fun s => s.setEflags ((s.regs.get8 .esp).setWidth 32) 0x000000D5#32

/-- LAHF (R619). -/
def loadAh : Act Unit := update fun s => s.setGpr .b8 .esp (s.eflags.setWidth 8)

/-- CLI and STI may not be used in protected mode at a privilege below IOPL (R622). -/
def ioplCheck : Act Unit := do
  let bad ← look fun s => s.pe && decide (s.iopl.toNat < s.cpl.toNat)
  if bad then raiseGp else pure ()

/-- CLI (R622). -/
def clearInterrupt : Act Unit := do
  ioplCheck
  update fun s => s.setFlag .intr false

/-- STI: the shadow is set when IF was 0 (R622). -/
def setInterrupt : Act Unit := do
  ioplCheck
  update fun s => if s.flag .intr then s else { s with shadow := .sti }
  update fun s => s.setFlag .intr true

/-- SETcc (R623). -/
def setByte (cc : Cond) (p : Pfx) (rm : RM) : Act Unit := do
  let b ← look fun s => condHolds cc s.eflags
  writeRM .b8 p rm (if b then 1#8 else 0#8)

/-- `PUSHF / PUSHFD`, row PUSHF_9C (R616). -/
def execPushf (s : State) : Host.Outcome State Fault Refusal :=
  perform .g386 false (fun p => pushFlags p.osz) s

/-- `POPF / POPFD`, row POPF_9D (R617). -/
def execPopf (s : State) : Host.Outcome State Fault Refusal :=
  perform .g386 false (fun p => popFlags p.osz) s

/-- `SAHF`, row SAHF_9E (R618). -/
def execSahf (s : State) : Host.Outcome State Fault Refusal :=
  perform .g386 false (fun _ => storeAh) s

/-- `LAHF`, row LAHF_9F (R619). -/
def execLahf (s : State) : Host.Outcome State Fault Refusal :=
  perform .g386 false (fun _ => loadAh) s

/-- `CLC`, row CLC_F8 (R620). -/
def execClc (s : State) : Host.Outcome State Fault Refusal :=
  perform .g386 false (fun _ => update fun s => s.setFlag .cf false) s

/-- `STC`, row STC_F9 (R620). -/
def execStc (s : State) : Host.Outcome State Fault Refusal :=
  perform .g386 false (fun _ => update fun s => s.setFlag .cf true) s

/-- `CMC`, row CMC_F5 (R620). -/
def execCmc (s : State) : Host.Outcome State Fault Refusal :=
  perform .g386 false (fun _ => update fun s => s.setFlag .cf (!s.flag .cf)) s

/-- `CLD`, row CLD_FC (R621). -/
def execCld (s : State) : Host.Outcome State Fault Refusal :=
  perform .g386 false (fun _ => update fun s => s.setFlag .df false) s

/-- `STD`, row STD_FD (R621). -/
def execStd (s : State) : Host.Outcome State Fault Refusal :=
  perform .g386 false (fun _ => update fun s => s.setFlag .df true) s

/-- `CLI`, row CLI_FA (R622). -/
def execCli (s : State) : Host.Outcome State Fault Refusal :=
  perform .g386 false (fun _ => clearInterrupt) s

/-- `STI`, row STI_FB (R622). -/
def execSti (s : State) : Host.Outcome State Fault Refusal :=
  perform .g386 false (fun _ => setInterrupt) s

/-- `SETcc r/m8`, row SETCC_0F90 (R623). -/
def execSetccRm8 (cc : Cond) (rm : RM) (s : State) : Host.Outcome State Fault Refusal :=
  perform .g386 false (fun p => setByte cc p rm) s

end Sys2Proof.Machine
end

