-- ==== Sys2Proof/Machine/SegLoads.lean ====
section
/-! DEFINITION. Segment loads (spec/48_segment_loads.md R640 to R648). -/

namespace Sys2Proof.Machine

/-- A load of SS by MOV or POP inhibits events at the next boundary (R641). -/
def ssShadow (r : SegReg) : Act Unit := if r = .ss then update fun s => { s with shadow := .movss } else pure ()

/-- MOV Sreg, r/m16 (R643). -/
def moveToSeg (p : Pfx) (rm : RM) (r : SegReg) : Act Unit := do
  let v ← readRM .b16 p rm
  loadSeg r v
  ssShadow r

/-- Store 16 bits in r/m16; in a register at operand size 32 the upper half is a draw (R644; spec/49_system.md R677). -/
def storeWord (p : Pfx) (rm : RM) (v : BitVec 16) : Act Unit :=
  match rm, p.osz with
  | .reg r, .w32 => do
    let hi ← drawBits 16
    writeReg .b32 r (hi ++ v)
  | .reg r, .w16 => writeReg .b16 r v
  | .mem m, _ => writeRM .b16 p (.mem m) v

/-- PUSH Sreg (R645). -/
def pushSegReg (osz : Size) (r : SegReg) : Act Unit := do
  let v ← look fun s => (s.seg r).sel
  pushSel osz v

/-- POP Sreg: the stack moves by the stack size in effect at the start, after the load succeeded (R642, R646). -/
def popSegReg (osz : Size) (r : SegReg) : Act Unit := do
  let v ← readTop osz.width.bits
  let moved ← look fun s => s.dropStack (BitVec.ofNat 32 osz.bytes)
  loadSeg r (v.setWidth 16)
  update fun s => { s with regs := moved.regs, written := moved.written }
  ssShadow r

/-- LDS, LES, LSS, LFS and LGS (R647). -/
def loadFarPointer (p : Pfx) (m : Mem) (reg : Reg) (r : SegReg) : Act Unit := do
  let t ← readFarPointer p m
  loadSeg r t.2
  writeReg p.osz.width reg (t.1.setWidth p.osz.width.bits)

/-- `MOV Sreg, r/m16`, row MOV_8E (R643). -/
def execMovSregRm16 (rm : RM) (sreg : SegReg) (s : State) : Host.Outcome State Fault Refusal :=
  perform .g386 false (fun p => moveToSeg p rm sreg) s

/-- `MOV r/m16, Sreg`, row MOV_8C (R644). -/
def execMovRm16Sreg (rm : RM) (sreg : SegReg) (s : State) : Host.Outcome State Fault Refusal :=
  perform .g386 false (fun p => movRead (look fun s => (s.seg sreg).sel) (storeWord p rm)) s

/-- `PUSH ES`, row PUSH_06 (R645). -/
def execPushEs (s : State) : Host.Outcome State Fault Refusal :=
  perform .g386 false (fun p => pushSegReg p.osz .es) s

/-- `PUSH CS`, row PUSH_0E (R645). -/
def execPushCs (s : State) : Host.Outcome State Fault Refusal :=
  perform .g386 false (fun p => pushSegReg p.osz .cs) s

/-- `PUSH SS`, row PUSH_16 (R645). -/
def execPushSs (s : State) : Host.Outcome State Fault Refusal :=
  perform .g386 false (fun p => pushSegReg p.osz .ss) s

/-- `PUSH DS`, row PUSH_1E (R645). -/
def execPushDs (s : State) : Host.Outcome State Fault Refusal :=
  perform .g386 false (fun p => pushSegReg p.osz .ds) s

/-- `PUSH FS`, row PUSH_0FA0 (R645). -/
def execPushFs (s : State) : Host.Outcome State Fault Refusal :=
  perform .g386 false (fun p => pushSegReg p.osz .fs) s

/-- `PUSH GS`, row PUSH_0FA8 (R645). -/
def execPushGs (s : State) : Host.Outcome State Fault Refusal :=
  perform .g386 false (fun p => pushSegReg p.osz .gs) s

/-- `POP ES`, row POP_07 (R646). -/
def execPopEs (s : State) : Host.Outcome State Fault Refusal :=
  perform .g386 false (fun p => popSegReg p.osz .es) s

/-- `POP SS`, row POP_17 (R646). -/
def execPopSs (s : State) : Host.Outcome State Fault Refusal :=
  perform .g386 false (fun p => popSegReg p.osz .ss) s

/-- `POP DS`, row POP_1F (R646). -/
def execPopDs (s : State) : Host.Outcome State Fault Refusal :=
  perform .g386 false (fun p => popSegReg p.osz .ds) s

/-- `POP FS`, row POP_0FA1 (R646). -/
def execPopFs (s : State) : Host.Outcome State Fault Refusal :=
  perform .g386 false (fun p => popSegReg p.osz .fs) s

/-- `POP GS`, row POP_0FA9 (R646). -/
def execPopGs (s : State) : Host.Outcome State Fault Refusal :=
  perform .g386 false (fun p => popSegReg p.osz .gs) s

/-- `LDS r, m16:z`, row LDS_C5 (R647). -/
def execLdsRMemFar (m : Mem) (reg : Reg) (s : State) : Host.Outcome State Fault Refusal :=
  perform .g386 false (fun p => loadFarPointer p m reg .ds) s

/-- `LES r, m16:z`, row LES_C4 (R647). -/
def execLesRMemFar (m : Mem) (reg : Reg) (s : State) : Host.Outcome State Fault Refusal :=
  perform .g386 false (fun p => loadFarPointer p m reg .es) s

/-- `LSS r, m16:z`, row LSS_0FB2 (R647). -/
def execLssRMemFar (m : Mem) (reg : Reg) (s : State) : Host.Outcome State Fault Refusal :=
  perform .g386 false (fun p => loadFarPointer p m reg .ss) s

/-- `LFS r, m16:z`, row LFS_0FB4 (R647). -/
def execLfsRMemFar (m : Mem) (reg : Reg) (s : State) : Host.Outcome State Fault Refusal :=
  perform .g386 false (fun p => loadFarPointer p m reg .fs) s

/-- `LGS r, m16:z`, row LGS_0FB5 (R647). -/
def execLgsRMemFar (m : Mem) (reg : Reg) (s : State) : Host.Outcome State Fault Refusal :=
  perform .g386 false (fun p => loadFarPointer p m reg .gs) s

end Sys2Proof.Machine
end

