-- ==== Sys2Proof/Machine/Shifts.lean ====
section
/-! DEFINITION. Shifts and rotates (spec/42_shift_rotate.md R420 to R433). -/

namespace Sys2Proof.Machine

/-- The count in CL (R420). -/
def readCl : Act Byte := look fun s => s.regs.get8 .ecx

/-- The masked count (R421). -/
def maskedCount (count : Byte) : Nat := count.toNat % 32

/-- A flag's value, or a draw where it is undefined. -/
def settle (b : Option Bool) : Act Bool :=
  match b with
  | some b => pure b
  | none => drawBit

/-- Write a shift's result and flags for c ≠ 0: OF is a draw for c > 1, AF a draw for a shift (R423). -/
def shiftWrite (w : Width) (rotate : Bool) (pl : Place) (out : ShiftOut w.bits) (c : Nat) : Act Unit := do
  let cf ← settle out.cf
  let of ← settle (if c = 1 then some out.of1 else none)
  let af ← drawIf !rotate
  writePlace w pl out.r
  update fun s => s.setStatus (shiftStatus rotate s.status out.r cf of af)

/-- The group-2 shifts and rotates; a count of 0 resolves and reads the operand and changes nothing (R420 to R423). -/
def shift (op : ShiftOp) (w : Width) (p : Pfx) (dst : RM) (count : Act Byte) : Act Unit := do
  let n ← count
  let pl ← resolveRM w true p dst
  let a ← readPlace w pl
  let cf ← look fun s => s.flag .cf
  if maskedCount n = 0 then pure ()
  else shiftWrite w op.isRotate pl (shiftOut op a cf (maskedCount n)) (maskedCount n)

/-- A double shift beyond the width: result and flags are draws (R431, R432). -/
def shiftUndefined (w : Width) (pl : Place) : Act Unit := do
  let r ← drawBits w.bits
  let d ← drawStatus
  writePlace w pl r
  update fun s => s.setStatus d

/-- SHLD (`left`) and SHRD (R431, R432). -/
def doubleShift (left : Bool) (w : Width) (p : Pfx) (dst : RM) (reg : Reg) (count : Act Byte) : Act Unit := do
  let n ← count
  let pl ← resolveRM w true p dst
  let a ← readPlace w pl
  let b ← readReg w reg
  if maskedCount n = 0 then pure ()
  else if w.bits < maskedCount n then shiftUndefined w pl
  else shiftWrite w false pl (if left then shldOut a b (maskedCount n) else shrdOut a b (maskedCount n)) (maskedCount n)

/-- `ROL r/m8, ib`, row ROL_C0 (R424). -/
def execRolRm8Ib (rm : RM) (imm : Byte) (s : State) : Host.Outcome State Fault Refusal :=
  perform .g386 false (fun p => shift .rol .b8 p rm (pure imm)) s

/-- `ROL r/m, ib`, row ROL_C1 (R424). -/
def execRolRmIb (rm : RM) (imm : Byte) (s : State) : Host.Outcome State Fault Refusal :=
  perform .g386 false (fun p => shift .rol p.osz.width p rm (pure imm)) s

/-- `ROL r/m8, 1`, row ROL_D0 (R424). -/
def execRolRm8By1 (rm : RM) (s : State) : Host.Outcome State Fault Refusal :=
  perform .g386 false (fun p => shift .rol .b8 p rm (pure 1#8)) s

/-- `ROL r/m, 1`, row ROL_D1 (R424). -/
def execRolRmBy1 (rm : RM) (s : State) : Host.Outcome State Fault Refusal :=
  perform .g386 false (fun p => shift .rol p.osz.width p rm (pure 1#8)) s

/-- `ROL r/m8, CL`, row ROL_D2 (R424). -/
def execRolRm8Cl (rm : RM) (s : State) : Host.Outcome State Fault Refusal :=
  perform .g386 false (fun p => shift .rol .b8 p rm readCl) s

/-- `ROL r/m, CL`, row ROL_D3 (R424). -/
def execRolRmCl (rm : RM) (s : State) : Host.Outcome State Fault Refusal :=
  perform .g386 false (fun p => shift .rol p.osz.width p rm readCl) s

/-- `ROR r/m8, ib`, row ROR_C0 (R425). -/
def execRorRm8Ib (rm : RM) (imm : Byte) (s : State) : Host.Outcome State Fault Refusal :=
  perform .g386 false (fun p => shift .ror .b8 p rm (pure imm)) s

/-- `ROR r/m, ib`, row ROR_C1 (R425). -/
def execRorRmIb (rm : RM) (imm : Byte) (s : State) : Host.Outcome State Fault Refusal :=
  perform .g386 false (fun p => shift .ror p.osz.width p rm (pure imm)) s

/-- `ROR r/m8, 1`, row ROR_D0 (R425). -/
def execRorRm8By1 (rm : RM) (s : State) : Host.Outcome State Fault Refusal :=
  perform .g386 false (fun p => shift .ror .b8 p rm (pure 1#8)) s

/-- `ROR r/m, 1`, row ROR_D1 (R425). -/
def execRorRmBy1 (rm : RM) (s : State) : Host.Outcome State Fault Refusal :=
  perform .g386 false (fun p => shift .ror p.osz.width p rm (pure 1#8)) s

/-- `ROR r/m8, CL`, row ROR_D2 (R425). -/
def execRorRm8Cl (rm : RM) (s : State) : Host.Outcome State Fault Refusal :=
  perform .g386 false (fun p => shift .ror .b8 p rm readCl) s

/-- `ROR r/m, CL`, row ROR_D3 (R425). -/
def execRorRmCl (rm : RM) (s : State) : Host.Outcome State Fault Refusal :=
  perform .g386 false (fun p => shift .ror p.osz.width p rm readCl) s

/-- `RCL r/m8, ib`, row RCL_C0 (R426). -/
def execRclRm8Ib (rm : RM) (imm : Byte) (s : State) : Host.Outcome State Fault Refusal :=
  perform .g386 false (fun p => shift .rcl .b8 p rm (pure imm)) s

/-- `RCL r/m, ib`, row RCL_C1 (R426). -/
def execRclRmIb (rm : RM) (imm : Byte) (s : State) : Host.Outcome State Fault Refusal :=
  perform .g386 false (fun p => shift .rcl p.osz.width p rm (pure imm)) s

/-- `RCL r/m8, 1`, row RCL_D0 (R426). -/
def execRclRm8By1 (rm : RM) (s : State) : Host.Outcome State Fault Refusal :=
  perform .g386 false (fun p => shift .rcl .b8 p rm (pure 1#8)) s

/-- `RCL r/m, 1`, row RCL_D1 (R426). -/
def execRclRmBy1 (rm : RM) (s : State) : Host.Outcome State Fault Refusal :=
  perform .g386 false (fun p => shift .rcl p.osz.width p rm (pure 1#8)) s

/-- `RCL r/m8, CL`, row RCL_D2 (R426). -/
def execRclRm8Cl (rm : RM) (s : State) : Host.Outcome State Fault Refusal :=
  perform .g386 false (fun p => shift .rcl .b8 p rm readCl) s

/-- `RCL r/m, CL`, row RCL_D3 (R426). -/
def execRclRmCl (rm : RM) (s : State) : Host.Outcome State Fault Refusal :=
  perform .g386 false (fun p => shift .rcl p.osz.width p rm readCl) s

/-- `RCR r/m8, ib`, row RCR_C0 (R427). -/
def execRcrRm8Ib (rm : RM) (imm : Byte) (s : State) : Host.Outcome State Fault Refusal :=
  perform .g386 false (fun p => shift .rcr .b8 p rm (pure imm)) s

/-- `RCR r/m, ib`, row RCR_C1 (R427). -/
def execRcrRmIb (rm : RM) (imm : Byte) (s : State) : Host.Outcome State Fault Refusal :=
  perform .g386 false (fun p => shift .rcr p.osz.width p rm (pure imm)) s

/-- `RCR r/m8, 1`, row RCR_D0 (R427). -/
def execRcrRm8By1 (rm : RM) (s : State) : Host.Outcome State Fault Refusal :=
  perform .g386 false (fun p => shift .rcr .b8 p rm (pure 1#8)) s

/-- `RCR r/m, 1`, row RCR_D1 (R427). -/
def execRcrRmBy1 (rm : RM) (s : State) : Host.Outcome State Fault Refusal :=
  perform .g386 false (fun p => shift .rcr p.osz.width p rm (pure 1#8)) s

/-- `RCR r/m8, CL`, row RCR_D2 (R427). -/
def execRcrRm8Cl (rm : RM) (s : State) : Host.Outcome State Fault Refusal :=
  perform .g386 false (fun p => shift .rcr .b8 p rm readCl) s

/-- `RCR r/m, CL`, row RCR_D3 (R427). -/
def execRcrRmCl (rm : RM) (s : State) : Host.Outcome State Fault Refusal :=
  perform .g386 false (fun p => shift .rcr p.osz.width p rm readCl) s

/-- `SHL r/m8, ib`, row SHL_C0 (R428). -/
def execShlRm8Ib (rm : RM) (imm : Byte) (s : State) : Host.Outcome State Fault Refusal :=
  perform .g386 false (fun p => shift .shl .b8 p rm (pure imm)) s

/-- `SHL r/m, ib`, row SHL_C1 (R428). -/
def execShlRmIb (rm : RM) (imm : Byte) (s : State) : Host.Outcome State Fault Refusal :=
  perform .g386 false (fun p => shift .shl p.osz.width p rm (pure imm)) s

/-- `SHL r/m8, 1`, row SHL_D0 (R428). -/
def execShlRm8By1 (rm : RM) (s : State) : Host.Outcome State Fault Refusal :=
  perform .g386 false (fun p => shift .shl .b8 p rm (pure 1#8)) s

/-- `SHL r/m, 1`, row SHL_D1 (R428). -/
def execShlRmBy1 (rm : RM) (s : State) : Host.Outcome State Fault Refusal :=
  perform .g386 false (fun p => shift .shl p.osz.width p rm (pure 1#8)) s

/-- `SHL r/m8, CL`, row SHL_D2 (R428). -/
def execShlRm8Cl (rm : RM) (s : State) : Host.Outcome State Fault Refusal :=
  perform .g386 false (fun p => shift .shl .b8 p rm readCl) s

/-- `SHL r/m, CL`, row SHL_D3 (R428). -/
def execShlRmCl (rm : RM) (s : State) : Host.Outcome State Fault Refusal :=
  perform .g386 false (fun p => shift .shl p.osz.width p rm readCl) s

/-- `SHR r/m8, ib`, row SHR_C0 (R429). -/
def execShrRm8Ib (rm : RM) (imm : Byte) (s : State) : Host.Outcome State Fault Refusal :=
  perform .g386 false (fun p => shift .shr .b8 p rm (pure imm)) s

/-- `SHR r/m, ib`, row SHR_C1 (R429). -/
def execShrRmIb (rm : RM) (imm : Byte) (s : State) : Host.Outcome State Fault Refusal :=
  perform .g386 false (fun p => shift .shr p.osz.width p rm (pure imm)) s

/-- `SHR r/m8, 1`, row SHR_D0 (R429). -/
def execShrRm8By1 (rm : RM) (s : State) : Host.Outcome State Fault Refusal :=
  perform .g386 false (fun p => shift .shr .b8 p rm (pure 1#8)) s

/-- `SHR r/m, 1`, row SHR_D1 (R429). -/
def execShrRmBy1 (rm : RM) (s : State) : Host.Outcome State Fault Refusal :=
  perform .g386 false (fun p => shift .shr p.osz.width p rm (pure 1#8)) s

/-- `SHR r/m8, CL`, row SHR_D2 (R429). -/
def execShrRm8Cl (rm : RM) (s : State) : Host.Outcome State Fault Refusal :=
  perform .g386 false (fun p => shift .shr .b8 p rm readCl) s

/-- `SHR r/m, CL`, row SHR_D3 (R429). -/
def execShrRmCl (rm : RM) (s : State) : Host.Outcome State Fault Refusal :=
  perform .g386 false (fun p => shift .shr p.osz.width p rm readCl) s

/-- `SAR r/m8, ib`, row SAR_C0 (R430). -/
def execSarRm8Ib (rm : RM) (imm : Byte) (s : State) : Host.Outcome State Fault Refusal :=
  perform .g386 false (fun p => shift .sar .b8 p rm (pure imm)) s

/-- `SAR r/m, ib`, row SAR_C1 (R430). -/
def execSarRmIb (rm : RM) (imm : Byte) (s : State) : Host.Outcome State Fault Refusal :=
  perform .g386 false (fun p => shift .sar p.osz.width p rm (pure imm)) s

/-- `SAR r/m8, 1`, row SAR_D0 (R430). -/
def execSarRm8By1 (rm : RM) (s : State) : Host.Outcome State Fault Refusal :=
  perform .g386 false (fun p => shift .sar .b8 p rm (pure 1#8)) s

/-- `SAR r/m, 1`, row SAR_D1 (R430). -/
def execSarRmBy1 (rm : RM) (s : State) : Host.Outcome State Fault Refusal :=
  perform .g386 false (fun p => shift .sar p.osz.width p rm (pure 1#8)) s

/-- `SAR r/m8, CL`, row SAR_D2 (R430). -/
def execSarRm8Cl (rm : RM) (s : State) : Host.Outcome State Fault Refusal :=
  perform .g386 false (fun p => shift .sar .b8 p rm readCl) s

/-- `SAR r/m, CL`, row SAR_D3 (R430). -/
def execSarRmCl (rm : RM) (s : State) : Host.Outcome State Fault Refusal :=
  perform .g386 false (fun p => shift .sar p.osz.width p rm readCl) s

/-- `SHLD r/m, r, ib`, row SHLD_0FA4 (R431). -/
def execShldRmRIb (rm : RM) (reg : Reg) (imm : Byte) (s : State) : Host.Outcome State Fault Refusal :=
  perform .g386 false (fun p => doubleShift true p.osz.width p rm reg (pure imm)) s

/-- `SHLD r/m, r, CL`, row SHLD_0FA5 (R431). -/
def execShldRmRCl (rm : RM) (reg : Reg) (s : State) : Host.Outcome State Fault Refusal :=
  perform .g386 false (fun p => doubleShift true p.osz.width p rm reg readCl) s

/-- `SHRD r/m, r, ib`, row SHRD_0FAC (R432). -/
def execShrdRmRIb (rm : RM) (reg : Reg) (imm : Byte) (s : State) : Host.Outcome State Fault Refusal :=
  perform .g386 false (fun p => doubleShift false p.osz.width p rm reg (pure imm)) s

/-- `SHRD r/m, r, CL`, row SHRD_0FAD (R432). -/
def execShrdRmRCl (rm : RM) (reg : Reg) (s : State) : Host.Outcome State Fault Refusal :=
  perform .g386 false (fun p => doubleShift false p.osz.width p rm reg readCl) s

end Sys2Proof.Machine
end

