-- ==== Sys2Proof/Machine/Strings.lean ====
section
/-! DEFINITION. String instructions (spec/44_string.md R490 to R502). -/

namespace Sys2Proof.Machine

/-- `Stop()` of MOVS, STOS and LODS (R490). -/
def neverStop (_ : State) : Bool := false

/-- `Stop()` of CMPS and SCAS (R494). -/
def compareStop (rep : Rep) (s : State) : Bool :=
  match rep with
  | .none => false
  | .repe => !s.flag .zf
  | .repne => s.flag .zf

/-- One iteration without a repeat prefix, or one step of a repetition (R490). -/
def repeated (p : Pfx) (stopNow : State → Bool) (body : Act Unit) : Act Unit :=
  match p.rep with
  | .none => body
  | .repe | .repne => do
    let cnt ← look (addrReg p.asz .ecx)
    if cnt = 0#32 then pure ()
    else do
      body
      update (setAddrReg p.asz .ecx (cnt - 1#32))
      update fun s => if cnt = 1#32 ∨ stopNow s then s else { s with eip := s.eipStart }

/-- `delta` (R496). -/
def stringDelta (w : Width) (s : State) : Word :=
  if s.flag .df then -BitVec.ofNat 32 w.bytes else BitVec.ofNat 32 w.bytes

/-- Advance an index register (R496). -/
def advance (w : Width) (p : Pfx) (r : Reg) (s : State) : State := setAddrReg p.asz r (addrReg p.asz r s + stringDelta w s) s

/-- Read the source element (R495). -/
def readSource (w : Width) (p : Pfx) : Act (BitVec w.bits) := do
  let off ← look (addrReg p.asz .esi)
  memReadBits w.bits (p.seg.getD .ds) off

/-- Read the destination element, always in ES (R495). -/
def readDest (w : Width) (p : Pfx) : Act (BitVec w.bits) := do
  let off ← look (addrReg p.asz .edi)
  memReadBits w.bits .es off

/-- Write the destination element, always in ES (R495). -/
def writeDest (w : Width) (p : Pfx) (v : BitVec w.bits) : Act Unit := do
  let off ← look (addrReg p.asz .edi)
  memWriteBits .es off v

/-- MOVS (R497). -/
def movs (w : Width) (p : Pfx) : Act Unit := do
  let v ← readSource w p
  writeDest w p v
  update (advance w p .esi)
  update (advance w p .edi)

/-- CMPS (R498). -/
def cmps (w : Width) (p : Pfx) : Act Unit := do
  let a ← readSource w p
  let b ← readDest w p
  update fun s => s.setStatus (flagsSub a b false)
  update (advance w p .esi)
  update (advance w p .edi)

/-- STOS (R499). -/
def stos (w : Width) (p : Pfx) : Act Unit := do
  let v ← readReg w .eax
  writeDest w p v
  update (advance w p .edi)

/-- LODS (R500). -/
def lods (w : Width) (p : Pfx) : Act Unit := do
  let v ← readSource w p
  writeReg w .eax v
  update (advance w p .esi)

/-- SCAS (R501). -/
def scas (w : Width) (p : Pfx) : Act Unit := do
  let a ← readReg w .eax
  let b ← readDest w p
  update fun s => s.setStatus (flagsSub a b false)
  update (advance w p .edi)

/-- `MOVSB`, row MOVS_A4 (R497). -/
def execMovsb (s : State) : Host.Outcome State Fault Refusal :=
  perform .g386 false (fun p => repeated p neverStop (movs .b8 p)) s

/-- `MOVSW / MOVSD`, row MOVS_A5 (R497). -/
def execMovsw (s : State) : Host.Outcome State Fault Refusal :=
  perform .g386 false (fun p => repeated p neverStop (movs p.osz.width p)) s

/-- `CMPSB`, row CMPS_A6 (R498). -/
def execCmpsb (s : State) : Host.Outcome State Fault Refusal :=
  perform .g386 false (fun p => repeated p (compareStop p.rep) (cmps .b8 p)) s

/-- `CMPSW / CMPSD`, row CMPS_A7 (R498). -/
def execCmpsw (s : State) : Host.Outcome State Fault Refusal :=
  perform .g386 false (fun p => repeated p (compareStop p.rep) (cmps p.osz.width p)) s

/-- `STOSB`, row STOS_AA (R499). -/
def execStosb (s : State) : Host.Outcome State Fault Refusal :=
  perform .g386 false (fun p => repeated p neverStop (stos .b8 p)) s

/-- `STOSW / STOSD`, row STOS_AB (R499). -/
def execStosw (s : State) : Host.Outcome State Fault Refusal :=
  perform .g386 false (fun p => repeated p neverStop (stos p.osz.width p)) s

/-- `LODSB`, row LODS_AC (R500). -/
def execLodsb (s : State) : Host.Outcome State Fault Refusal :=
  perform .g386 false (fun p => repeated p neverStop (lods .b8 p)) s

/-- `LODSW / LODSD`, row LODS_AD (R500). -/
def execLodsw (s : State) : Host.Outcome State Fault Refusal :=
  perform .g386 false (fun p => repeated p neverStop (lods p.osz.width p)) s

/-- `SCASB`, row SCAS_AE (R501). -/
def execScasb (s : State) : Host.Outcome State Fault Refusal :=
  perform .g386 false (fun p => repeated p (compareStop p.rep) (scas .b8 p)) s

/-- `SCASW / SCASD`, row SCAS_AF (R501). -/
def execScasw (s : State) : Host.Outcome State Fault Refusal :=
  perform .g386 false (fun p => repeated p (compareStop p.rep) (scas p.osz.width p)) s

end Sys2Proof.Machine
end

