-- ==== Sys2Proof/Machine/System.lean ====
section
/-! DEFINITION. System instructions and control-register transfer (spec/49_system.md R670 to R684). -/

namespace Sys2Proof.Machine

/-- The values MOV CR0 rejects: PG without PE, and NW without CD on a 486 or later (R670). -/
def cr0Rejected (gen : CpuGen) (v : Word) : Bool :=
  (v.getLsbD 31 && !v.getLsbD 0) || (decide (gen.num ≥ 486) && v.getLsbD 29 && !v.getLsbD 30)

/-- Write CR0; a change of PG empties the TLB (R670). -/
def State.putCr0 (s : State) (v : Word) : State :=
  let t := { s with cr0 := cr0Of s.cfg.gen v }
  if t.pg = s.pg then t else t.clearTlb

/-- MOV CR0, r32 (R670). -/
def writeCr0 (reg : Reg) : Act Unit := do
  privCheck
  let v ← look fun s => s.gpr32 reg
  let gen ← look fun s => s.cfg.gen
  if cr0Rejected gen v then raiseGp else update fun s => s.putCr0 v

/-- MOV CR3, r32 (R671). -/
def writeCr3 (reg : Reg) : Act Unit := do
  privCheck
  update fun s => { s with cr3 := s.gpr32 reg }.clearTlb

/-- MOV CR2, r32 (R672). -/
def writeCr2 (reg : Reg) : Act Unit := do
  privCheck
  update fun s => { s with cr2 := s.gpr32 reg }

/-- MOV r32, CRn (R673). -/
def readCr (cr : State → Word) (reg : Reg) : Act Unit := do
  privCheck
  update fun s => s.setGpr .b32 reg (cr s)

/-- CR0 after LMSW: MP, EM and TS are replaced, PE can be set only (R675). -/
def lmswValue (cr0 : Word) (v : BitVec 16) : Word := (cr0 &&& ~~~0xE#32) ||| (v.setWidth 32 &&& 0xF#32)

/-- LMSW (R675). -/
def loadStatusWord (p : Pfx) (rm : RM) : Act Unit := do
  privCheck
  let v ← readRM .b16 p rm
  update fun s => { s with cr0 := lmswValue s.cr0 v }

/-- INVLPG: the operand's offset is computed and not used; the whole TLB is emptied (R676). -/
def invalidatePage (m : Mem) : Act Unit := do
  privCheck
  let _ ← look fun s => effOffset s m
  update State.clearTlb

/-- CLTS (R678). -/
def clearTaskSwitched : Act Unit := do
  privCheck
  update fun s => { s with cr0 := s.cr0 &&& ~~~0x8#32 }

/-- HLT (R680). -/
def halt : Act Unit := do
  privCheck
  update fun s => { s with halted := true }

/-- `MOV CR0, r32`, row MOVCR_0F22 (R670). -/
def execMovCr0R32 (reg : Reg) (s : State) : Host.Outcome State Fault Refusal :=
  perform .g386 false (fun _ => writeCr0 reg) s

/-- `MOV CR2, r32`, row MOVCR_0F22 (R672). -/
def execMovCr2R32 (reg : Reg) (s : State) : Host.Outcome State Fault Refusal :=
  perform .g386 false (fun _ => writeCr2 reg) s

/-- `MOV CR3, r32`, row MOVCR_0F22 (R671). -/
def execMovCr3R32 (reg : Reg) (s : State) : Host.Outcome State Fault Refusal :=
  perform .g386 false (fun _ => writeCr3 reg) s

/-- `MOV r32, CR0`, row MOVCR_0F20 (R673). -/
def execMovR32Cr0 (reg : Reg) (s : State) : Host.Outcome State Fault Refusal :=
  perform .g386 false (fun _ => readCr State.cr0 reg) s

/-- `MOV r32, CR2`, row MOVCR_0F20 (R673). -/
def execMovR32Cr2 (reg : Reg) (s : State) : Host.Outcome State Fault Refusal :=
  perform .g386 false (fun _ => readCr State.cr2 reg) s

/-- `MOV r32, CR3`, row MOVCR_0F20 (R673). -/
def execMovR32Cr3 (reg : Reg) (s : State) : Host.Outcome State Fault Refusal :=
  perform .g386 false (fun _ => readCr State.cr3 reg) s

/-- `SMSW r/m16`, row SMSW_0F014 (R677). -/
def execSmswRm16 (rm : RM) (s : State) : Host.Outcome State Fault Refusal :=
  perform .g386 false (fun p => movRead (look fun s => s.cr0.setWidth 16) (storeWord p rm)) s

/-- `LMSW r/m16`, row LMSW_0F016 (R675). -/
def execLmswRm16 (rm : RM) (s : State) : Host.Outcome State Fault Refusal :=
  perform .g386 false (fun p => loadStatusWord p rm) s

/-- `INVLPG m`, row INVLPG_0F017 (R676). -/
def execInvlpgM (m : Mem) (s : State) : Host.Outcome State Fault Refusal :=
  perform .g486 false (fun _ => invalidatePage m) s

/-- `CLTS`, row CLTS_0F06 (R678). -/
def execClts (s : State) : Host.Outcome State Fault Refusal :=
  perform .g386 false (fun _ => clearTaskSwitched) s

/-- `INVD`, row INVD_0F08 (R679). -/
def execInvd (s : State) : Host.Outcome State Fault Refusal :=
  perform .g486 false (fun _ => privCheck) s

/-- `WBINVD`, row WBINVD_0F09 (R679). -/
def execWbinvd (s : State) : Host.Outcome State Fault Refusal :=
  perform .g486 false (fun _ => privCheck) s

/-- `HLT`, row HLT_F4 (R680). -/
def execHlt (s : State) : Host.Outcome State Fault Refusal :=
  perform .g386 false (fun _ => halt) s

/-- `UD2`, row UD2_0F0B (R681). -/
def execUd2 (s : State) : Host.Outcome State Fault Refusal :=
  perform .g386 false (fun _ => raiseUd) s

end Sys2Proof.Machine
end

