-- ==== Sys2Proof/Machine/Dispatch.lean ====
section
/-! DEFINITION. The dispatch: one arm for each row of spec/opcode_table.json, each one call of that instruction's meaning. -/

namespace Sys2Proof.Machine

def exec (i : Instr) (s : State) : Host.Outcome State Fault Refusal :=
  match i with
  | .addRm8R8 rm reg => Sys2Proof.Machine.execAddRm8R8 rm reg s
  | .addRmR rm reg => Sys2Proof.Machine.execAddRmR rm reg s
  | .addR8Rm8 rm reg => Sys2Proof.Machine.execAddR8Rm8 rm reg s
  | .addRRm rm reg => Sys2Proof.Machine.execAddRRm rm reg s
  | .addAlIb imm => Sys2Proof.Machine.execAddAlIb imm s
  | .addEaxIz imm => Sys2Proof.Machine.execAddEaxIz imm s
  | .addRm8Ib rm imm => Sys2Proof.Machine.execAddRm8Ib rm imm s
  | .addRmIz rm imm => Sys2Proof.Machine.execAddRmIz rm imm s
  | .addRmIbs rm imm => Sys2Proof.Machine.execAddRmIbs rm imm s
  | .orRm8R8 rm reg => Sys2Proof.Machine.execOrRm8R8 rm reg s
  | .orRmR rm reg => Sys2Proof.Machine.execOrRmR rm reg s
  | .orR8Rm8 rm reg => Sys2Proof.Machine.execOrR8Rm8 rm reg s
  | .orRRm rm reg => Sys2Proof.Machine.execOrRRm rm reg s
  | .orAlIb imm => Sys2Proof.Machine.execOrAlIb imm s
  | .orEaxIz imm => Sys2Proof.Machine.execOrEaxIz imm s
  | .orRm8Ib rm imm => Sys2Proof.Machine.execOrRm8Ib rm imm s
  | .orRmIz rm imm => Sys2Proof.Machine.execOrRmIz rm imm s
  | .orRmIbs rm imm => Sys2Proof.Machine.execOrRmIbs rm imm s
  | .adcRm8R8 rm reg => Sys2Proof.Machine.execAdcRm8R8 rm reg s
  | .adcRmR rm reg => Sys2Proof.Machine.execAdcRmR rm reg s
  | .adcR8Rm8 rm reg => Sys2Proof.Machine.execAdcR8Rm8 rm reg s
  | .adcRRm rm reg => Sys2Proof.Machine.execAdcRRm rm reg s
  | .adcAlIb imm => Sys2Proof.Machine.execAdcAlIb imm s
  | .adcEaxIz imm => Sys2Proof.Machine.execAdcEaxIz imm s
  | .adcRm8Ib rm imm => Sys2Proof.Machine.execAdcRm8Ib rm imm s
  | .adcRmIz rm imm => Sys2Proof.Machine.execAdcRmIz rm imm s
  | .adcRmIbs rm imm => Sys2Proof.Machine.execAdcRmIbs rm imm s
  | .sbbRm8R8 rm reg => Sys2Proof.Machine.execSbbRm8R8 rm reg s
  | .sbbRmR rm reg => Sys2Proof.Machine.execSbbRmR rm reg s
  | .sbbR8Rm8 rm reg => Sys2Proof.Machine.execSbbR8Rm8 rm reg s
  | .sbbRRm rm reg => Sys2Proof.Machine.execSbbRRm rm reg s
  | .sbbAlIb imm => Sys2Proof.Machine.execSbbAlIb imm s
  | .sbbEaxIz imm => Sys2Proof.Machine.execSbbEaxIz imm s
  | .sbbRm8Ib rm imm => Sys2Proof.Machine.execSbbRm8Ib rm imm s
  | .sbbRmIz rm imm => Sys2Proof.Machine.execSbbRmIz rm imm s
  | .sbbRmIbs rm imm => Sys2Proof.Machine.execSbbRmIbs rm imm s
  | .andRm8R8 rm reg => Sys2Proof.Machine.execAndRm8R8 rm reg s
  | .andRmR rm reg => Sys2Proof.Machine.execAndRmR rm reg s
  | .andR8Rm8 rm reg => Sys2Proof.Machine.execAndR8Rm8 rm reg s
  | .andRRm rm reg => Sys2Proof.Machine.execAndRRm rm reg s
  | .andAlIb imm => Sys2Proof.Machine.execAndAlIb imm s
  | .andEaxIz imm => Sys2Proof.Machine.execAndEaxIz imm s
  | .andRm8Ib rm imm => Sys2Proof.Machine.execAndRm8Ib rm imm s
  | .andRmIz rm imm => Sys2Proof.Machine.execAndRmIz rm imm s
  | .andRmIbs rm imm => Sys2Proof.Machine.execAndRmIbs rm imm s
  | .subRm8R8 rm reg => Sys2Proof.Machine.execSubRm8R8 rm reg s
  | .subRmR rm reg => Sys2Proof.Machine.execSubRmR rm reg s
  | .subR8Rm8 rm reg => Sys2Proof.Machine.execSubR8Rm8 rm reg s
  | .subRRm rm reg => Sys2Proof.Machine.execSubRRm rm reg s
  | .subAlIb imm => Sys2Proof.Machine.execSubAlIb imm s
  | .subEaxIz imm => Sys2Proof.Machine.execSubEaxIz imm s
  | .subRm8Ib rm imm => Sys2Proof.Machine.execSubRm8Ib rm imm s
  | .subRmIz rm imm => Sys2Proof.Machine.execSubRmIz rm imm s
  | .subRmIbs rm imm => Sys2Proof.Machine.execSubRmIbs rm imm s
  | .xorRm8R8 rm reg => Sys2Proof.Machine.execXorRm8R8 rm reg s
  | .xorRmR rm reg => Sys2Proof.Machine.execXorRmR rm reg s
  | .xorR8Rm8 rm reg => Sys2Proof.Machine.execXorR8Rm8 rm reg s
  | .xorRRm rm reg => Sys2Proof.Machine.execXorRRm rm reg s
  | .xorAlIb imm => Sys2Proof.Machine.execXorAlIb imm s
  | .xorEaxIz imm => Sys2Proof.Machine.execXorEaxIz imm s
  | .xorRm8Ib rm imm => Sys2Proof.Machine.execXorRm8Ib rm imm s
  | .xorRmIz rm imm => Sys2Proof.Machine.execXorRmIz rm imm s
  | .xorRmIbs rm imm => Sys2Proof.Machine.execXorRmIbs rm imm s
  | .cmpRm8R8 rm reg => Sys2Proof.Machine.execCmpRm8R8 rm reg s
  | .cmpRmR rm reg => Sys2Proof.Machine.execCmpRmR rm reg s
  | .cmpR8Rm8 rm reg => Sys2Proof.Machine.execCmpR8Rm8 rm reg s
  | .cmpRRm rm reg => Sys2Proof.Machine.execCmpRRm rm reg s
  | .cmpAlIb imm => Sys2Proof.Machine.execCmpAlIb imm s
  | .cmpEaxIz imm => Sys2Proof.Machine.execCmpEaxIz imm s
  | .cmpRm8Ib rm imm => Sys2Proof.Machine.execCmpRm8Ib rm imm s
  | .cmpRmIz rm imm => Sys2Proof.Machine.execCmpRmIz rm imm s
  | .cmpRmIbs rm imm => Sys2Proof.Machine.execCmpRmIbs rm imm s
  | .testRm8R8 rm reg => Sys2Proof.Machine.execTestRm8R8 rm reg s
  | .testRmR rm reg => Sys2Proof.Machine.execTestRmR rm reg s
  | .testAlIb imm => Sys2Proof.Machine.execTestAlIb imm s
  | .testEaxIz imm => Sys2Proof.Machine.execTestEaxIz imm s
  | .testRm8Ib rm imm => Sys2Proof.Machine.execTestRm8Ib rm imm s
  | .testRmIz rm imm => Sys2Proof.Machine.execTestRmIz rm imm s
  | .incR reg => Sys2Proof.Machine.execIncR reg s
  | .incRm8 rm => Sys2Proof.Machine.execIncRm8 rm s
  | .incRm rm => Sys2Proof.Machine.execIncRm rm s
  | .decR reg => Sys2Proof.Machine.execDecR reg s
  | .decRm8 rm => Sys2Proof.Machine.execDecRm8 rm s
  | .decRm rm => Sys2Proof.Machine.execDecRm rm s
  | .notRm8 rm => Sys2Proof.Machine.execNotRm8 rm s
  | .notRm rm => Sys2Proof.Machine.execNotRm rm s
  | .negRm8 rm => Sys2Proof.Machine.execNegRm8 rm s
  | .negRm rm => Sys2Proof.Machine.execNegRm rm s
  | .mulRm8 rm => Sys2Proof.Machine.execMulRm8 rm s
  | .mulRm rm => Sys2Proof.Machine.execMulRm rm s
  | .imulRm8 rm => Sys2Proof.Machine.execImulRm8 rm s
  | .imulRm rm => Sys2Proof.Machine.execImulRm rm s
  | .divRm8 rm => Sys2Proof.Machine.execDivRm8 rm s
  | .divRm rm => Sys2Proof.Machine.execDivRm rm s
  | .idivRm8 rm => Sys2Proof.Machine.execIdivRm8 rm s
  | .idivRm rm => Sys2Proof.Machine.execIdivRm rm s
  | .imulRRm rm reg => Sys2Proof.Machine.execImulRRm rm reg s
  | .imulRRmIz rm reg imm => Sys2Proof.Machine.execImulRRmIz rm reg imm s
  | .imulRRmIbs rm reg imm => Sys2Proof.Machine.execImulRRmIbs rm reg imm s
  | .rolRm8Ib rm imm => Sys2Proof.Machine.execRolRm8Ib rm imm s
  | .rolRmIb rm imm => Sys2Proof.Machine.execRolRmIb rm imm s
  | .rolRm8By1 rm => Sys2Proof.Machine.execRolRm8By1 rm s
  | .rolRmBy1 rm => Sys2Proof.Machine.execRolRmBy1 rm s
  | .rolRm8Cl rm => Sys2Proof.Machine.execRolRm8Cl rm s
  | .rolRmCl rm => Sys2Proof.Machine.execRolRmCl rm s
  | .rorRm8Ib rm imm => Sys2Proof.Machine.execRorRm8Ib rm imm s
  | .rorRmIb rm imm => Sys2Proof.Machine.execRorRmIb rm imm s
  | .rorRm8By1 rm => Sys2Proof.Machine.execRorRm8By1 rm s
  | .rorRmBy1 rm => Sys2Proof.Machine.execRorRmBy1 rm s
  | .rorRm8Cl rm => Sys2Proof.Machine.execRorRm8Cl rm s
  | .rorRmCl rm => Sys2Proof.Machine.execRorRmCl rm s
  | .rclRm8Ib rm imm => Sys2Proof.Machine.execRclRm8Ib rm imm s
  | .rclRmIb rm imm => Sys2Proof.Machine.execRclRmIb rm imm s
  | .rclRm8By1 rm => Sys2Proof.Machine.execRclRm8By1 rm s
  | .rclRmBy1 rm => Sys2Proof.Machine.execRclRmBy1 rm s
  | .rclRm8Cl rm => Sys2Proof.Machine.execRclRm8Cl rm s
  | .rclRmCl rm => Sys2Proof.Machine.execRclRmCl rm s
  | .rcrRm8Ib rm imm => Sys2Proof.Machine.execRcrRm8Ib rm imm s
  | .rcrRmIb rm imm => Sys2Proof.Machine.execRcrRmIb rm imm s
  | .rcrRm8By1 rm => Sys2Proof.Machine.execRcrRm8By1 rm s
  | .rcrRmBy1 rm => Sys2Proof.Machine.execRcrRmBy1 rm s
  | .rcrRm8Cl rm => Sys2Proof.Machine.execRcrRm8Cl rm s
  | .rcrRmCl rm => Sys2Proof.Machine.execRcrRmCl rm s
  | .shlRm8Ib rm imm => Sys2Proof.Machine.execShlRm8Ib rm imm s
  | .shlRmIb rm imm => Sys2Proof.Machine.execShlRmIb rm imm s
  | .shlRm8By1 rm => Sys2Proof.Machine.execShlRm8By1 rm s
  | .shlRmBy1 rm => Sys2Proof.Machine.execShlRmBy1 rm s
  | .shlRm8Cl rm => Sys2Proof.Machine.execShlRm8Cl rm s
  | .shlRmCl rm => Sys2Proof.Machine.execShlRmCl rm s
  | .shrRm8Ib rm imm => Sys2Proof.Machine.execShrRm8Ib rm imm s
  | .shrRmIb rm imm => Sys2Proof.Machine.execShrRmIb rm imm s
  | .shrRm8By1 rm => Sys2Proof.Machine.execShrRm8By1 rm s
  | .shrRmBy1 rm => Sys2Proof.Machine.execShrRmBy1 rm s
  | .shrRm8Cl rm => Sys2Proof.Machine.execShrRm8Cl rm s
  | .shrRmCl rm => Sys2Proof.Machine.execShrRmCl rm s
  | .sarRm8Ib rm imm => Sys2Proof.Machine.execSarRm8Ib rm imm s
  | .sarRmIb rm imm => Sys2Proof.Machine.execSarRmIb rm imm s
  | .sarRm8By1 rm => Sys2Proof.Machine.execSarRm8By1 rm s
  | .sarRmBy1 rm => Sys2Proof.Machine.execSarRmBy1 rm s
  | .sarRm8Cl rm => Sys2Proof.Machine.execSarRm8Cl rm s
  | .sarRmCl rm => Sys2Proof.Machine.execSarRmCl rm s
  | .shldRmRIb rm reg imm => Sys2Proof.Machine.execShldRmRIb rm reg imm s
  | .shldRmRCl rm reg => Sys2Proof.Machine.execShldRmRCl rm reg s
  | .shrdRmRIb rm reg imm => Sys2Proof.Machine.execShrdRmRIb rm reg imm s
  | .shrdRmRCl rm reg => Sys2Proof.Machine.execShrdRmRCl rm reg s
  | .btRmR rm reg => Sys2Proof.Machine.execBtRmR rm reg s
  | .btRmIb rm imm => Sys2Proof.Machine.execBtRmIb rm imm s
  | .btsRmR rm reg => Sys2Proof.Machine.execBtsRmR rm reg s
  | .btsRmIb rm imm => Sys2Proof.Machine.execBtsRmIb rm imm s
  | .btrRmR rm reg => Sys2Proof.Machine.execBtrRmR rm reg s
  | .btrRmIb rm imm => Sys2Proof.Machine.execBtrRmIb rm imm s
  | .btcRmR rm reg => Sys2Proof.Machine.execBtcRmR rm reg s
  | .btcRmIb rm imm => Sys2Proof.Machine.execBtcRmIb rm imm s
  | .bsfRRm rm reg => Sys2Proof.Machine.execBsfRRm rm reg s
  | .bsrRRm rm reg => Sys2Proof.Machine.execBsrRRm rm reg s
  | .bswapR32 reg => Sys2Proof.Machine.execBswapR32 reg s
  | .movsb => Sys2Proof.Machine.execMovsb s
  | .movsw => Sys2Proof.Machine.execMovsw s
  | .cmpsb => Sys2Proof.Machine.execCmpsb s
  | .cmpsw => Sys2Proof.Machine.execCmpsw s
  | .stosb => Sys2Proof.Machine.execStosb s
  | .stosw => Sys2Proof.Machine.execStosw s
  | .lodsb => Sys2Proof.Machine.execLodsb s
  | .lodsw => Sys2Proof.Machine.execLodsw s
  | .scasb => Sys2Proof.Machine.execScasb s
  | .scasw => Sys2Proof.Machine.execScasw s
  | .cmpxchgRm8R8 rm reg => Sys2Proof.Machine.execCmpxchgRm8R8 rm reg s
  | .cmpxchgRmR rm reg => Sys2Proof.Machine.execCmpxchgRmR rm reg s
  | .xaddRm8R8 rm reg => Sys2Proof.Machine.execXaddRm8R8 rm reg s
  | .xaddRmR rm reg => Sys2Proof.Machine.execXaddRmR rm reg s
  | .cmpxchg8bM64 m => Sys2Proof.Machine.execCmpxchg8bM64 m s
  | .movRm8R8 rm reg => Sys2Proof.Machine.execMovRm8R8 rm reg s
  | .movRmR rm reg => Sys2Proof.Machine.execMovRmR rm reg s
  | .movR8Rm8 rm reg => Sys2Proof.Machine.execMovR8Rm8 rm reg s
  | .movRRm rm reg => Sys2Proof.Machine.execMovRRm rm reg s
  | .movRm8Ib rm imm => Sys2Proof.Machine.execMovRm8Ib rm imm s
  | .movRmIz rm imm => Sys2Proof.Machine.execMovRmIz rm imm s
  | .movR8Ib reg imm => Sys2Proof.Machine.execMovR8Ib reg imm s
  | .movRIz reg imm => Sys2Proof.Machine.execMovRIz reg imm s
  | .movAlMoffs off => Sys2Proof.Machine.execMovAlMoffs off s
  | .movEaxMoffs off => Sys2Proof.Machine.execMovEaxMoffs off s
  | .movMoffsAl off => Sys2Proof.Machine.execMovMoffsAl off s
  | .movMoffsEax off => Sys2Proof.Machine.execMovMoffsEax off s
  | .xchgRm8R8 rm reg => Sys2Proof.Machine.execXchgRm8R8 rm reg s
  | .xchgRmR rm reg => Sys2Proof.Machine.execXchgRmR rm reg s
  | .xchgEaxR reg => Sys2Proof.Machine.execXchgEaxR reg s
  | .nop => Sys2Proof.Machine.execNop s
  | .leaRM m reg => Sys2Proof.Machine.execLeaRM m reg s
  | .movzxRRm8 rm reg => Sys2Proof.Machine.execMovzxRRm8 rm reg s
  | .movzxRRm16 rm reg => Sys2Proof.Machine.execMovzxRRm16 rm reg s
  | .movsxRRm8 rm reg => Sys2Proof.Machine.execMovsxRRm8 rm reg s
  | .movsxRRm16 rm reg => Sys2Proof.Machine.execMovsxRRm16 rm reg s
  | .cbw => Sys2Proof.Machine.execCbw s
  | .cwd => Sys2Proof.Machine.execCwd s
  | .pushR reg => Sys2Proof.Machine.execPushR reg s
  | .popR reg => Sys2Proof.Machine.execPopR reg s
  | .pushIz imm => Sys2Proof.Machine.execPushIz imm s
  | .pushIbs imm => Sys2Proof.Machine.execPushIbs imm s
  | .pushRm rm => Sys2Proof.Machine.execPushRm rm s
  | .popRm rm => Sys2Proof.Machine.execPopRm rm s
  | .pusha => Sys2Proof.Machine.execPusha s
  | .popa => Sys2Proof.Machine.execPopa s
  | .xlat => Sys2Proof.Machine.execXlat s
  | .leave => Sys2Proof.Machine.execLeave s
  | .jccRel8 cc rel => Sys2Proof.Machine.execJccRel8 cc rel s
  | .jccRelz cc rel => Sys2Proof.Machine.execJccRelz cc rel s
  | .jmpRel8 rel => Sys2Proof.Machine.execJmpRel8 rel s
  | .jmpRelz rel => Sys2Proof.Machine.execJmpRelz rel s
  | .loopRel8 rel => Sys2Proof.Machine.execLoopRel8 rel s
  | .loopeRel8 rel => Sys2Proof.Machine.execLoopeRel8 rel s
  | .loopneRel8 rel => Sys2Proof.Machine.execLoopneRel8 rel s
  | .jcxzRel8 rel => Sys2Proof.Machine.execJcxzRel8 rel s
  | .jmpRm rm => Sys2Proof.Machine.execJmpRm rm s
  | .callRelz rel => Sys2Proof.Machine.execCallRelz rel s
  | .callRm rm => Sys2Proof.Machine.execCallRm rm s
  | .ret => Sys2Proof.Machine.execRet s
  | .retIw imm => Sys2Proof.Machine.execRetIw imm s
  | .jmpPtr off sel => Sys2Proof.Machine.execJmpPtr off sel s
  | .jmpMemFar m => Sys2Proof.Machine.execJmpMemFar m s
  | .callPtr off sel => Sys2Proof.Machine.execCallPtr off sel s
  | .callMemFar m => Sys2Proof.Machine.execCallMemFar m s
  | .retf => Sys2Proof.Machine.execRetf s
  | .retfIw imm => Sys2Proof.Machine.execRetfIw imm s
  | .iret => Sys2Proof.Machine.execIret s
  | .intIb imm => Sys2Proof.Machine.execIntIb imm s
  | .int3 => Sys2Proof.Machine.execInt3 s
  | .into => Sys2Proof.Machine.execInto s
  | .pushf => Sys2Proof.Machine.execPushf s
  | .popf => Sys2Proof.Machine.execPopf s
  | .sahf => Sys2Proof.Machine.execSahf s
  | .lahf => Sys2Proof.Machine.execLahf s
  | .clc => Sys2Proof.Machine.execClc s
  | .stc => Sys2Proof.Machine.execStc s
  | .cmc => Sys2Proof.Machine.execCmc s
  | .cld => Sys2Proof.Machine.execCld s
  | .std => Sys2Proof.Machine.execStd s
  | .cli => Sys2Proof.Machine.execCli s
  | .sti => Sys2Proof.Machine.execSti s
  | .setccRm8 cc rm => Sys2Proof.Machine.execSetccRm8 cc rm s
  | .movSregRm16 rm sreg => Sys2Proof.Machine.execMovSregRm16 rm sreg s
  | .movRm16Sreg rm sreg => Sys2Proof.Machine.execMovRm16Sreg rm sreg s
  | .pushEs => Sys2Proof.Machine.execPushEs s
  | .pushCs => Sys2Proof.Machine.execPushCs s
  | .pushSs => Sys2Proof.Machine.execPushSs s
  | .pushDs => Sys2Proof.Machine.execPushDs s
  | .pushFs => Sys2Proof.Machine.execPushFs s
  | .pushGs => Sys2Proof.Machine.execPushGs s
  | .popEs => Sys2Proof.Machine.execPopEs s
  | .popSs => Sys2Proof.Machine.execPopSs s
  | .popDs => Sys2Proof.Machine.execPopDs s
  | .popFs => Sys2Proof.Machine.execPopFs s
  | .popGs => Sys2Proof.Machine.execPopGs s
  | .ldsRMemFar m reg => Sys2Proof.Machine.execLdsRMemFar m reg s
  | .lesRMemFar m reg => Sys2Proof.Machine.execLesRMemFar m reg s
  | .lssRMemFar m reg => Sys2Proof.Machine.execLssRMemFar m reg s
  | .lfsRMemFar m reg => Sys2Proof.Machine.execLfsRMemFar m reg s
  | .lgsRMemFar m reg => Sys2Proof.Machine.execLgsRMemFar m reg s
  | .movCr0R32 reg => Sys2Proof.Machine.execMovCr0R32 reg s
  | .movCr2R32 reg => Sys2Proof.Machine.execMovCr2R32 reg s
  | .movCr3R32 reg => Sys2Proof.Machine.execMovCr3R32 reg s
  | .movR32Cr0 reg => Sys2Proof.Machine.execMovR32Cr0 reg s
  | .movR32Cr2 reg => Sys2Proof.Machine.execMovR32Cr2 reg s
  | .movR32Cr3 reg => Sys2Proof.Machine.execMovR32Cr3 reg s
  | .smswRm16 rm => Sys2Proof.Machine.execSmswRm16 rm s
  | .lmswRm16 rm => Sys2Proof.Machine.execLmswRm16 rm s
  | .invlpgM m => Sys2Proof.Machine.execInvlpgM m s
  | .clts => Sys2Proof.Machine.execClts s
  | .invd => Sys2Proof.Machine.execInvd s
  | .wbinvd => Sys2Proof.Machine.execWbinvd s
  | .hlt => Sys2Proof.Machine.execHlt s
  | .ud2 => Sys2Proof.Machine.execUd2 s

end Sys2Proof.Machine
end

