-- ==== Sys2Proof/Machine/Fetch.lean ====
section
/-! DEFINITION. Fetching an instruction's bytes (spec/30_encoding.md R200 to R204), and one step of the Dispatcher around the execution of the
instruction they decode to (spec/60_exceptions.md R731). -/

namespace Sys2Proof.Machine

/-- `FetchByte()`: the length rule, the CS limit, then the byte (R202 to R204). -/
def fetchByte : Act Byte := do
  let off ← look State.eip
  let start ← look State.eipStart
  let cs ← look fun s => s.segs.cs
  if off - start = 15#32 then raiseGp
  else if cs.limit.toNat < off.toNat then raiseGp
  else do
    let bs ← linRead (cs.base + off) 1
    update fun s => { s with eip := off + 1#32 }
    pure (bs.headD 0#8)

/-- Run a decoder over the bytes the machine fetches, keeping them for a refusal's reason. -/
def fetchDec : Dec → List Byte → Act (Decoded × List Byte)
  | .done r, seen => pure (r, seen)
  | .byte k, seen => do
    let b ← fetchByte
    fetchDec (k b) (seen ++ [b])

/-- The start of an instruction: the shadow is cleared, `eip_start` recorded, the prefix state and the bytes fetched cleared, and nothing but
`Continue` to return so far (R200, R205; R731). -/
def startInstr (s : State) : State :=
  { s with shadow := .none, eipStart := s.eip, prefixes := .clear, fetched := [], outcome := .cont }

/-- Fetch and decode the instruction at eip. -/
def fetchInstr (s : State) : EStateM.Result Stop State (Decoded × List Byte) :=
  fetchDec (decInstr s.cfg.gen s.codeBig s.prefixes) [] s

/-- The prefix state and the bytes of a decoded instruction become the machine's (spec/10_state.md R55; spec/00_scope.md R27;
notes/assumptions/15.md, 26.md). -/
def withDecoded (p : Pfx) (bytes : List Byte) (s : State) : State := { s with prefixes := p.raw s.codeBig, fetched := bytes }

/-- Fetch, decode and execute one instruction (R200, R702). -/
def runInstr (run : Instr → State → Host.Outcome State Fault Refusal) (s : State) : Host.Outcome State Fault Refusal :=
  match fetchInstr s with
  | .error e t => finish s (.error e t)
  | .ok (.instr p i, bytes) t => run i (withDecoded p bytes t)
  | .ok (.undefined, _) t => finish s (.error (.fault 6#8 none) t)
  | .ok (.refused stage, bytes) t => finish s (.error (.refuse (.encoding stage bytes)) t)
  | .ok (.tooLong, _) t => finish s (.error (.fault 13#8 (some 0#32)) t)
  | .ok (.truncated, bytes) t => finish s (.error (.model (.hostFatal bytes)) t)

/-- How many events a history says were delivered. -/
def deliveredCount (h : List Event) : Nat :=
  h.countP fun e =>
    match e with
    | .delivered _ _ => true
    | .mmioRead _ _ _ | .mmioWrite _ _ _ | .romWriteDiscarded _ _ _ | .smcInvalidate _ | .envWrite _ _ => false

/-- The single-step #DB after an instruction (R707): `s` is the state the instruction started in, `t` the one it produced. -/
def singleStep (s t : State) : State :=
  if s.flag .tf && t.unmarked && deliveredCount t.history == deliveredCount s.history && t.shadow != .movss then
    deliver 1#8 none .trap t.eip t
  else t

/-- A step that continues in a halted core returns `Halted` (R731). -/
def reportHalt (t : State) : State := if t.halted && t.outcome == .cont then { t with outcome := .halted } else t

/-- The end of a step that executed an instruction. -/
def endInstr (s : State) (o : Host.Outcome State Fault Refusal) : Host.Outcome State Fault Refusal :=
  match o with
  | .next t => .next (reportHalt (singleStep s t))
  | .fault f => .fault f
  | .refused r => .refused r

/-- The external interrupt the step accepts at its start (R720). -/
def acceptable (s : State) : Option Byte := if s.flag .intr && s.shadow == .none then s.intr else none

/-- Accept an external interrupt: deliver it, then acknowledge it (R720; notes/assumptions/18.md). -/
def acceptIntr (v : Byte) (s : State) : State :=
  let t := deliver v none .external s.eip s
  if t.unmarked then { t with intr := none } else t

/-- One step of the Dispatcher, given what executes an instruction (R731). -/
def cycle (run : Instr → State → Host.Outcome State Fault Refusal) (s : State) : Host.Outcome State Fault Refusal :=
  match s.refused, s.faulted with
  | some r, _ => .refused r
  | none, some f => .fault f
  | none, none =>
    match acceptable s with
    | some v => .next (acceptIntr v s)
    | none => if s.halted then .next { s with outcome := .halted } else endInstr s (runInstr run (startInstr s))

/-! Placing an instruction where the machine fetches (notes/assumptions/16.md). -/

/-- Install the ROM handler on a physical page that holds no bytes of its own. -/
def holdBytes (p : Nat) (s : State) : State :=
  match s.handler p with
  | .ram | .rom => s
  | .mmio _ | .unmapped => { s with handlers := tableSet s.handlers p .rom }

/-- Store a byte where a fetch at a linear address reads. -/
def placeByte (la : Word) (b : Byte) (s : State) : State :=
  match translate la false s with
  | .ok t _ =>
    let u := holdBytes t.1.toNat s
    { u with mem := tableSet u.mem (inPage t.1 la).toNat b }
  | .error _ _ => s

/-- Store bytes where a fetch at successive linear addresses reads. -/
def placeBytes (la : Word) : List Byte → State → State
  | [], s => s
  | b :: bs, s => placeBytes (la + 1#32) bs (placeByte la b s)

/-- Nothing keeps the next step from executing an instruction (R731). -/
def readyToRun (s : State) : State := { s with refused := none, faulted := none, halted := false, intr := none }

end Sys2Proof.Machine
end

