-- ==== Sys2Proof/Machine/Step.lean ====
section
/-! DEFINITION. One step of the machine (spec/60_exceptions.md R731), and an instruction placed where the step fetches. -/

namespace Sys2Proof.Machine

/-- One step (R731). -/
def step (s : State) : Host.Outcome State Fault Refusal := cycle exec s

/-- The state with an instruction of the opcode table stored where the next step fetches, so that the very next step runs it
(notes/assumptions/16.md). -/
def State.withFetchWord (s : State) (nbits w : Nat) : State :=
  placeBytes (s.segs.cs.base + s.eip) (tableBytes nbits w) (readyToRun s)

end Sys2Proof.Machine
end

