-- ==== Sys2Proof/Machine/Env.lean ====
section
/-! DEFINITION. What the environment may do between two steps (spec/20_memory.md R112, R114, R133, R136, R151; spec/60_exceptions.md R720),
and the interface helpers of the spec that no step uses (R108, R115, R147). None of it is part of the step (notes/assumptions/10.md). -/

namespace Sys2Proof.Machine

/-- Set one page's handler, keeping the table canonical. -/
def State.setHandler (s : State) (p : Nat) (h : Handler) : State :=
  { s with handlers := if h = resetHandler s.cfg p then tableErase s.handlers p else tableSet s.handlers p h }

/-- Set the handler of the physical pages in `[page, page + count)`. DESIGN CHOICE: a range that runs past physical page 2^20 - 1 goes on at
page 0 (notes/assumptions/29.md). -/
def State.setHandlers (s : State) (page : Nat) (h : Nat → Handler) : Nat → State
  | 0 => s
  | n + 1 => (s.setHandlers page h n).setHandler ((page + n) % 2 ^ 20) (h ((page + n) % 2 ^ 20))

/-- `setPageHandler(phys_page, count, handler)` (R112). -/
def setPageHandler (page count : Nat) (h : Handler) (s : State) : State := (s.setHandlers page (fun _ => h) count).clearTlb

/-- `resetPageHandler(phys_page, count)` (R112). -/
def resetPageHandler (page count : Nat) (s : State) : State := (s.setHandlers page (resetHandler s.cfg) count).clearTlb

/-- `setFrameBuffer`: a RAM-like window and an MMIO control window of device d (R114; notes/assumptions/14.md, 29.md).
DESIGN CHOICE: a page in both ranges gets the control window's handler (notes/assumptions/32.md). -/
def setFrameBuffer (page count mmioPage mmioCount d : Nat) (s : State) : State :=
  ((s.setHandlers page (fun _ => .ram) count).setHandlers mmioPage (fun _ => .mmio d) mmioCount).clearTlb

/-- Empty both TLB entries of a linear page. -/
def State.dropTlb (s : State) (lp : Nat) : State := { s with tlbR := tableErase s.tlbR lp, tlbW := tableErase s.tlbW lp }

/-- `mapPage(linear_page, physical_page, read_only)` (R136). -/
def mapPage (lp : BitVec 20) (pp : BitVec 20) (readOnly : Bool) (s : State) : State :=
  let t := s.dropTlb lp.toNat
  { t with fmap := tableSet t.fmap lp.toNat { physPage := pp, readOnly := readOnly } }

/-- `unmapPages(linear_page, count)` (R133). DESIGN CHOICE: a range that runs past linear page 2^20 - 1 goes on at page 0
(notes/assumptions/29.md). -/
def unmapPages (lp : Nat) : Nat → State → State
  | 0, s => s
  | n + 1, s =>
    let t := (unmapPages lp n s).dropTlb ((lp + n) % 2 ^ 20)
    { t with fmap := tableErase t.fmap ((lp + n) % 2 ^ 20) }

/-- Set a page's capability flags, as the recompiler collaborator does (R113), keeping the table canonical. -/
def setCap (p : BitVec 20) (c : Cap) (s : State) : State :=
  { s with caps := if c = resetCap s.cfg p.toNat then tableErase s.caps p.toNat else tableSet s.caps p.toNat c }

/-- A write of one byte by an external collaborator, in a page of ENV_PAGES (R151; notes/assumptions/21.md). -/
def envWrite (pa : Word) (v : Byte) (s : State) : State :=
  if pageOf pa ∈ s.cfg.envPages then { s.record (.envWrite pa v) with mem := tableSet s.mem pa.toNat v } else s

/-- Drive the interrupt line (R720). -/
def setIntr (v : Option Byte) (s : State) : State := { s with intr := v }

/-- `RealToLinear(seg, off)` (R147). -/
def realToLinear (seg off : BitVec 16) : Word := (seg.setWidth 32 <<< 4) + off.setWidth 32

/-- `readInterruptVector(n)`: the segment and the offset of vector n (R147; spec/10_state.md R56). DESIGN CHOICE: two 2-byte accesses, the
offset first, as R714 makes them in a delivery (notes/assumptions/31.md). -/
def readInterruptVector (n : Byte) : Act (Sel × BitVec 16) := do
  let off ← linRead (n.setWidth 32 <<< 2) 2
  let seg ← linRead ((n.setWidth 32 <<< 2) + 2#32) 2
  pure (ofBytes 16 seg, ofBytes 16 off)

/-- `writeInterruptVector(n, target)` (R147). DESIGN CHOICE: two 2-byte accesses, the offset first (notes/assumptions/31.md). -/
def writeInterruptVector (n : Byte) (seg : Sel) (off : BitVec 16) : Act Unit := do
  linWrite (n.setWidth 32 <<< 2) (toBytes off)
  linWrite ((n.setWidth 32 <<< 2) + 2#32) (toBytes seg)

/-- A checked access: `fail`, which is `none`, where the paging unit would fault, with the state unchanged; a terminal fault, the ROM trap of
R105, stays one (R108; notes/assumptions/24.md). -/
def checked {α : Type} (access : Act α) : Act (Option α) := fun s =>
  match access s with
  | .ok v t => .ok (some v) t
  | .error (.fault _ _) _ => .ok none s
  | .error (.model f) t => .error (.model f) t
  | .error (.trap v k) t => .error (.trap v k) t
  | .error (.refuse r) t => .error (.refuse r) t

/-- A checked read (R108). -/
def checkedRead (la : Word) (n : Nat) : Act (Option (List Byte)) := checked (linRead la n)

/-- A checked write (R108). -/
def checkedWrite (la : Word) (bs : List Byte) : Act (Option Unit) := checked (linWrite la bs)

/-- The capacity query that reads core state: the number of installed pages (R115). -/
def totalInstalledPages (s : State) : Nat := s.cfg.installedPages

/-- A launch state: a reset state with the fields a launch may replace (spec/70_reset_and_hazards.md R782); `mem` must be canonical. DESIGN
CHOICE: a register byte the launch leaves unwritten, its bit of `written` clear, holds what `regs` says, which may be any value
(notes/assumptions/33.md). -/
def launch (c : Config) (regs : RegFile) (written eip eflags : Word) (sels : SegReg → Sel) (mem : List Host.Cell) : State :=
  let r := State.resetWith c
  let load (k : SegReg) : SegCache := SegCache.real (sels k) ((sels k).setWidth 32 <<< 4)
  { r with
    regs := regs
    written := written
    eip := eip
    eflags := forceFixed c.gen (eflags &&& ~~~0x00020000#32)
    segs := { es := load .es, cs := load .cs, ss := load .ss, ds := load .ds, fs := load .fs, gs := load .gs }
    mem := mem }

end Sys2Proof.Machine
end

