-- ==== Sys2Proof/Safety.lean ====
section
/-! DEFINITION. Runs and their ends (spec/70_reset_and_hazards.md R780, R782), and what counts as a safe run: no refusal and no terminal fault,
in a well-formed state (spec/00_scope.md R27, R28). -/

namespace Sys2Proof.Machine

/-- The run goes on: neither sticky mark is set and the invariant holds. -/
def State.live (s : State) : Prop := s.unmarked = true ∧ s.wf = true

/-- The state a step answers, if it answers one. -/
def stepsTo (s t : State) : Prop := step s = .next t

/-- Every state that up to n steps reach is live. -/
def safeFor : Nat → State → Prop
  | 0, s => s.live
  | n + 1, s => s.live ∧ ∃ t, stepsTo s t ∧ safeFor n t

/-- A halt that no event can leave (R721, R780). -/
def State.haltedForGood (s : State) : Prop := s.halted = true ∧ s.flag .intr = false

/-! What the environment does between two steps. -/

/-- An action of the environment (spec/00_scope.md R20; spec/20_memory.md R112 to R114, R133, R136, R151; spec/60_exceptions.md R720). -/
inductive EnvAct where
  | setPageHandler (page count : Nat) (h : Handler)
  | resetPageHandler (page count : Nat)
  | setFrameBuffer (page count mmioPage mmioCount d : Nat)
  | mapPage (lp pp : BitVec 20) (readOnly : Bool)
  | unmapPages (lp count : Nat)
  | setCap (p : BitVec 20) (c : Cap)
  | envWrite (pa : Word) (v : Byte)
  | setIntr (v : Option Byte)
  deriving DecidableEq, Repr

/-- What an action does to the state. -/
def EnvAct.apply : EnvAct → State → State
  | .setPageHandler page count h => Machine.setPageHandler page count h
  | .resetPageHandler page count => Machine.resetPageHandler page count
  | .setFrameBuffer page count mmioPage mmioCount d => Machine.setFrameBuffer page count mmioPage mmioCount d
  | .mapPage lp pp readOnly => Machine.mapPage lp pp readOnly
  | .unmapPages lp count => Machine.unmapPages lp count
  | .setCap p c => Machine.setCap p c
  | .envWrite pa v => Machine.envWrite pa v
  | .setIntr v => Machine.setIntr v

/-- The state after the environment's actions, the first of the list first. -/
def applyEnv (acts : List EnvAct) (s : State) : State := acts.foldl (fun t a => a.apply t) s

/-! Runs. -/

/-- The actions that set up the memory configuration: they install page handlers (R112, R114; R781, item 1). -/
def EnvAct.configures : EnvAct → Bool
  | .setPageHandler _ _ _ | .resetPageHandler _ _ | .setFrameBuffer _ _ _ _ _ => true
  | .mapPage _ _ _ | .unmapPages _ _ | .setCap _ _ | .envWrite _ _ | .setIntr _ => false

/-- Where a run starts: a reset or a launch state in which the page handlers, and nothing else, have been installed, so that the interrupt line,
the forced map and the event history are as a launch has them (R770, R781, R782; notes/assumptions/30.md). -/
def State.starts (s : State) : Prop :=
  ∃ acts c, acts.all EnvAct.configures = true ∧ (s = applyEnv acts (State.resetWith c) ∨
    ∃ regs written eip eflags sels mem, memWf mem = true ∧ s = applyEnv acts (launch c regs written eip eflags sels mem))

/-- The outcome of the step that left `s` ends the run, the interrupt line being `line` after it (R780): a refusal, a terminal fault, a halt
with IF = 0, or a halt with IF = 1 and no interrupt waiting. A delivered guest fault sets no mark and ends nothing. -/
def State.endsRun (s : State) (line : Option Byte) : Bool :=
  match s.outcome with
  | .refused _ => true
  | .fault _ => s.faulted.isSome
  | .halted => !s.flag .intr || line.isNone
  | .cont => false

/-- How a bounded run came out (R780). -/
inductive RunResult where
  /-- It ended, in this final state. -/
  | ended (final : State)
  /-- It reached its bound without an end, in this state. -/
  | bound (s : State)
  deriving DecidableEq, Repr

/-- A run of as many steps as the list is long, each followed by the environment's actions (R780). -/
def runFrom : List (List EnvAct) → State → RunResult
  | [], s => .bound s
  | acts :: rest, s =>
    match step s with
    | .next t => if t.endsRun (applyEnv acts t).intr then .ended t else runFrom rest (applyEnv acts t)
    | .fault _ | .refused _ => .ended s

/-- The run from a start, under a schedule of the environment, has ended in the final state (R780). -/
def runEnds (schedule : List (List EnvAct)) (s final : State) : Prop := s.starts ∧ runFrom schedule s = .ended final

end Sys2Proof.Machine
end

