-- ==== Sys2Proof/Claims.lean ====
section
/-! DEFINITION. The terms the statements use: the parts of an instruction by shape, and what classes of instructions may write. Each
function names the constructors it speaks of; the wildcard arm of a shape says that no other instruction has it. -/

namespace Sys2Proof.Machine

/-- The instruction exists in this generation, and LOCK stands before it only where its row allows it (spec/30_encoding.md R208, R221). -/
def State.allows (s : State) (gen : CpuGen) (lockable : Bool) : Prop := gen.num ≤ s.cfg.gen.num ∧ (s.pfx.lock = true → lockable = true)

/-- No protected-mode parameter is supplied: each answers `Refuse` (spec/00_scope.md R23 to R25). -/
def State.pmRefuses (s : State) : Prop :=
  s.cfg.pmLoadSeg = .refuse ∧ s.cfg.pmFarTransfer = .refuse ∧ s.cfg.pmIret = .refuse ∧ s.cfg.pmDeliver = .refuse

/-- No event was delivered between two states (spec/60_exceptions.md R712). -/
def sameDeliveries (s t : State) : Prop := deliveredCount t.history = deliveredCount s.history

/-- The state with k draws taken (spec/00_scope.md R26). -/
def State.drawn (s : State) (k : Nat) : State := { s with draws := s.draws + k }

/-- A source operand. -/
inductive Src where
  | reg (r : Reg)
  | rm (x : RM)
  | imm (v : Word)
  deriving DecidableEq, Repr

/-- The value of a source operand. -/
def Src.get (w : Width) (p : Pfx) : Src → Act (BitVec w.bits)
  | .reg r => readReg w r
  | Src.rm x => readRM w p x
  | .imm v => pure (v.setWidth w.bits)

/-- The operation, width, destination and source of an ALU instruction. -/
structure AluParts where
  op : AluOp
  w : Width
  dst : RM
  src : Src
  deriving DecidableEq, Repr

/-- INC, DEC, NOT and NEG. -/
inductive UnaryOp where
  | inc | dec | not | neg
  deriving DecidableEq, Repr

/-- What a unary operation writes (spec/41_arithmetic.md R364 to R367). -/
def UnaryOp.result {n : Nat} (op : UnaryOp) (a : BitVec n) : BitVec n :=
  match op with
  | .inc => a + 1#n
  | .dec => a - 1#n
  | .not => ~~~a
  | .neg => -a

/-- The status flags after a unary operation (R364 to R367). -/
def UnaryOp.status {n : Nat} (op : UnaryOp) (old : Status) (a : BitVec n) : Status :=
  match op with
  | .inc => { flagsAdd a 1#n false with cf := old.cf }
  | .dec => { flagsSub a 1#n false with cf := old.cf }
  | .not => old
  | .neg => flagsSub 0#n a false

/-- The string operations (spec/44_string.md R497 to R501). -/
inductive StringOp where
  | mov | cmp | sto | lod | sca
  deriving DecidableEq, Repr

/-- One element of a string operation. -/
def StringOp.element (op : StringOp) (w : Width) (p : Pfx) : Act Unit :=
  match op with
  | .mov => movs w p
  | .cmp => cmps w p
  | .sto => stos w p
  | .lod => lods w p
  | .sca => scas w p

/-- A comparison ends a repetition by ZF (R494). -/
def StringOp.compares (op : StringOp) : Bool :=
  match op with
  | .cmp | .sca => true
  | .mov | .sto | .lod => false

/-- The count register of a loop, at the address size (spec/46_control_transfer.md R556). -/
def State.counter (s : State) (p : Pfx) : Word := addrReg p.asz .ecx s

/-- The state with the count register down by one. -/
def State.countDown (s : State) (p : Pfx) : State := setAddrReg p.asz .ecx (s.counter p - 1#32) s

/-- Push values, the first one first. -/
def pushEach {n : Nat} : List (BitVec n) → Act Unit
  | [] => pure ()
  | v :: vs => do
    push v
    pushEach vs

/-- Pop k values, the first popped first in the list. -/
def popEach (n : Nat) : Nat → Act (List (BitVec n))
  | 0 => pure []
  | k + 1 => do
    let v ← pop n
    let vs ← popEach n k
    pure (v :: vs)

/-- The physical addresses of the bytes of a resolved operand. -/
def spanBytes (sp : Span) : List Nat := sp.flatMap fun c => (List.range c.n).map fun k => (c.pa + BitVec.ofNat 32 k).toNat

/-- The 32-bit register a register operand of a width names (spec/10_state.md R31). -/
def destRegs (w : Width) : RM → List Reg
  | .reg r => [if w = .b8 then byteParent r else r]
  | .mem _ => []

/-- A store of n bytes through an r/m operand. -/
def rmStore (n : Nat) : RM → Option (Nat × Mem)
  | .reg _ => none
  | .mem m => some (n, m)

/-- The parts of an ALU instruction (opcode_table.json rows ADD to CMP). -/
def aluParts (p : Pfx) : Instr → Option AluParts
  | .addRm8R8 rm reg => some ⟨.add, .b8, rm, .reg reg⟩
  | .addRmR rm reg => some ⟨.add, p.osz.width, rm, .reg reg⟩
  | .addR8Rm8 rm reg => some ⟨.add, .b8, .reg reg, .rm rm⟩
  | .addRRm rm reg => some ⟨.add, p.osz.width, .reg reg, .rm rm⟩
  | .addAlIb imm => some ⟨.add, .b8, .reg .eax, .imm (imm.setWidth 32)⟩
  | .addEaxIz imm => some ⟨.add, p.osz.width, .reg .eax, .imm imm⟩
  | .addRm8Ib rm imm => some ⟨.add, .b8, rm, .imm (imm.setWidth 32)⟩
  | .addRmIz rm imm => some ⟨.add, p.osz.width, rm, .imm imm⟩
  | .addRmIbs rm imm => some ⟨.add, p.osz.width, rm, .imm (imm.signExtend 32)⟩
  | .orRm8R8 rm reg => some ⟨.or, .b8, rm, .reg reg⟩
  | .orRmR rm reg => some ⟨.or, p.osz.width, rm, .reg reg⟩
  | .orR8Rm8 rm reg => some ⟨.or, .b8, .reg reg, .rm rm⟩
  | .orRRm rm reg => some ⟨.or, p.osz.width, .reg reg, .rm rm⟩
  | .orAlIb imm => some ⟨.or, .b8, .reg .eax, .imm (imm.setWidth 32)⟩
  | .orEaxIz imm => some ⟨.or, p.osz.width, .reg .eax, .imm imm⟩
  | .orRm8Ib rm imm => some ⟨.or, .b8, rm, .imm (imm.setWidth 32)⟩
  | .orRmIz rm imm => some ⟨.or, p.osz.width, rm, .imm imm⟩
  | .orRmIbs rm imm => some ⟨.or, p.osz.width, rm, .imm (imm.signExtend 32)⟩
  | .adcRm8R8 rm reg => some ⟨.adc, .b8, rm, .reg reg⟩
  | .adcRmR rm reg => some ⟨.adc, p.osz.width, rm, .reg reg⟩
  | .adcR8Rm8 rm reg => some ⟨.adc, .b8, .reg reg, .rm rm⟩
  | .adcRRm rm reg => some ⟨.adc, p.osz.width, .reg reg, .rm rm⟩
  | .adcAlIb imm => some ⟨.adc, .b8, .reg .eax, .imm (imm.setWidth 32)⟩
  | .adcEaxIz imm => some ⟨.adc, p.osz.width, .reg .eax, .imm imm⟩
  | .adcRm8Ib rm imm => some ⟨.adc, .b8, rm, .imm (imm.setWidth 32)⟩
  | .adcRmIz rm imm => some ⟨.adc, p.osz.width, rm, .imm imm⟩
  | .adcRmIbs rm imm => some ⟨.adc, p.osz.width, rm, .imm (imm.signExtend 32)⟩
  | .sbbRm8R8 rm reg => some ⟨.sbb, .b8, rm, .reg reg⟩
  | .sbbRmR rm reg => some ⟨.sbb, p.osz.width, rm, .reg reg⟩
  | .sbbR8Rm8 rm reg => some ⟨.sbb, .b8, .reg reg, .rm rm⟩
  | .sbbRRm rm reg => some ⟨.sbb, p.osz.width, .reg reg, .rm rm⟩
  | .sbbAlIb imm => some ⟨.sbb, .b8, .reg .eax, .imm (imm.setWidth 32)⟩
  | .sbbEaxIz imm => some ⟨.sbb, p.osz.width, .reg .eax, .imm imm⟩
  | .sbbRm8Ib rm imm => some ⟨.sbb, .b8, rm, .imm (imm.setWidth 32)⟩
  | .sbbRmIz rm imm => some ⟨.sbb, p.osz.width, rm, .imm imm⟩
  | .sbbRmIbs rm imm => some ⟨.sbb, p.osz.width, rm, .imm (imm.signExtend 32)⟩
  | .andRm8R8 rm reg => some ⟨.and, .b8, rm, .reg reg⟩
  | .andRmR rm reg => some ⟨.and, p.osz.width, rm, .reg reg⟩
  | .andR8Rm8 rm reg => some ⟨.and, .b8, .reg reg, .rm rm⟩
  | .andRRm rm reg => some ⟨.and, p.osz.width, .reg reg, .rm rm⟩
  | .andAlIb imm => some ⟨.and, .b8, .reg .eax, .imm (imm.setWidth 32)⟩
  | .andEaxIz imm => some ⟨.and, p.osz.width, .reg .eax, .imm imm⟩
  | .andRm8Ib rm imm => some ⟨.and, .b8, rm, .imm (imm.setWidth 32)⟩
  | .andRmIz rm imm => some ⟨.and, p.osz.width, rm, .imm imm⟩
  | .andRmIbs rm imm => some ⟨.and, p.osz.width, rm, .imm (imm.signExtend 32)⟩
  | .subRm8R8 rm reg => some ⟨.sub, .b8, rm, .reg reg⟩
  | .subRmR rm reg => some ⟨.sub, p.osz.width, rm, .reg reg⟩
  | .subR8Rm8 rm reg => some ⟨.sub, .b8, .reg reg, .rm rm⟩
  | .subRRm rm reg => some ⟨.sub, p.osz.width, .reg reg, .rm rm⟩
  | .subAlIb imm => some ⟨.sub, .b8, .reg .eax, .imm (imm.setWidth 32)⟩
  | .subEaxIz imm => some ⟨.sub, p.osz.width, .reg .eax, .imm imm⟩
  | .subRm8Ib rm imm => some ⟨.sub, .b8, rm, .imm (imm.setWidth 32)⟩
  | .subRmIz rm imm => some ⟨.sub, p.osz.width, rm, .imm imm⟩
  | .subRmIbs rm imm => some ⟨.sub, p.osz.width, rm, .imm (imm.signExtend 32)⟩
  | .xorRm8R8 rm reg => some ⟨.xor, .b8, rm, .reg reg⟩
  | .xorRmR rm reg => some ⟨.xor, p.osz.width, rm, .reg reg⟩
  | .xorR8Rm8 rm reg => some ⟨.xor, .b8, .reg reg, .rm rm⟩
  | .xorRRm rm reg => some ⟨.xor, p.osz.width, .reg reg, .rm rm⟩
  | .xorAlIb imm => some ⟨.xor, .b8, .reg .eax, .imm (imm.setWidth 32)⟩
  | .xorEaxIz imm => some ⟨.xor, p.osz.width, .reg .eax, .imm imm⟩
  | .xorRm8Ib rm imm => some ⟨.xor, .b8, rm, .imm (imm.setWidth 32)⟩
  | .xorRmIz rm imm => some ⟨.xor, p.osz.width, rm, .imm imm⟩
  | .xorRmIbs rm imm => some ⟨.xor, p.osz.width, rm, .imm (imm.signExtend 32)⟩
  | .cmpRm8R8 rm reg => some ⟨.cmp, .b8, rm, .reg reg⟩
  | .cmpRmR rm reg => some ⟨.cmp, p.osz.width, rm, .reg reg⟩
  | .cmpR8Rm8 rm reg => some ⟨.cmp, .b8, .reg reg, .rm rm⟩
  | .cmpRRm rm reg => some ⟨.cmp, p.osz.width, .reg reg, .rm rm⟩
  | .cmpAlIb imm => some ⟨.cmp, .b8, .reg .eax, .imm (imm.setWidth 32)⟩
  | .cmpEaxIz imm => some ⟨.cmp, p.osz.width, .reg .eax, .imm imm⟩
  | .cmpRm8Ib rm imm => some ⟨.cmp, .b8, rm, .imm (imm.setWidth 32)⟩
  | .cmpRmIz rm imm => some ⟨.cmp, p.osz.width, rm, .imm imm⟩
  | .cmpRmIbs rm imm => some ⟨.cmp, p.osz.width, rm, .imm (imm.signExtend 32)⟩
  | _ => none

/-- The width and operands of TEST. -/
def testParts (p : Pfx) : Instr → Option (Width × RM × Src)
  | .testRm8R8 rm reg => some (.b8, rm, .reg reg)
  | .testRmR rm reg => some (p.osz.width, rm, .reg reg)
  | .testAlIb imm => some (.b8, .reg .eax, .imm (imm.setWidth 32))
  | .testEaxIz imm => some (p.osz.width, .reg .eax, .imm imm)
  | .testRm8Ib rm imm => some (.b8, rm, .imm (imm.setWidth 32))
  | .testRmIz rm imm => some (p.osz.width, rm, .imm imm)
  | _ => none

/-- The operation, width and operand of INC, DEC, NOT and NEG. -/
def unaryParts (p : Pfx) : Instr → Option (UnaryOp × Width × RM)
  | .incR reg => some (.inc, p.osz.width, .reg reg)
  | .decR reg => some (.dec, p.osz.width, .reg reg)
  | .incRm8 rm => some (.inc, .b8, rm)
  | .incRm rm => some (.inc, p.osz.width, rm)
  | .decRm8 rm => some (.dec, .b8, rm)
  | .decRm rm => some (.dec, p.osz.width, rm)
  | .notRm8 rm => some (.not, .b8, rm)
  | .notRm rm => some (.not, p.osz.width, rm)
  | .negRm8 rm => some (.neg, .b8, rm)
  | .negRm rm => some (.neg, p.osz.width, rm)
  | _ => none

/-- Whether it is signed, the width and the source of a one-operand multiply. -/
def mulParts (p : Pfx) : Instr → Option (Bool × Width × RM)
  | .mulRm8 rm => some (false, .b8, rm)
  | .mulRm rm => some (false, p.osz.width, rm)
  | .imulRm8 rm => some (true, .b8, rm)
  | .imulRm rm => some (true, p.osz.width, rm)
  | _ => none

/-- Whether it is signed, the width and the divisor of a division. -/
def divParts (p : Pfx) : Instr → Option (Bool × Width × RM)
  | .divRm8 rm => some (false, .b8, rm)
  | .divRm rm => some (false, p.osz.width, rm)
  | .idivRm8 rm => some (true, .b8, rm)
  | .idivRm rm => some (true, p.osz.width, rm)
  | _ => none

/-- The width, destination and two factors of a two- or three-operand IMUL. -/
def imulParts (p : Pfx) : Instr → Option (Width × Reg × Src × Src)
  | .imulRRm rm reg => some (p.osz.width, reg, .reg reg, .rm rm)
  | .imulRRmIz rm reg imm => some (p.osz.width, reg, .rm rm, .imm imm)
  | .imulRRmIbs rm reg imm => some (p.osz.width, reg, .rm rm, .imm (imm.signExtend 32))
  | _ => none

/-- The operation, width, operand and count of a group-2 shift or rotate: an immediate, 1, or CL. -/
def shiftParts (p : Pfx) : Instr → Option (ShiftOp × Width × RM × (State → Byte))
  | .rolRm8Ib rm imm => some (.rol, .b8, rm, fun _ => imm)
  | .rolRm8By1 rm => some (.rol, .b8, rm, fun _ => 1#8)
  | .rolRm8Cl rm => some (.rol, .b8, rm, fun s => s.gpr .b8 .ecx)
  | .rolRmIb rm imm => some (.rol, p.osz.width, rm, fun _ => imm)
  | .rolRmBy1 rm => some (.rol, p.osz.width, rm, fun _ => 1#8)
  | .rolRmCl rm => some (.rol, p.osz.width, rm, fun s => s.gpr .b8 .ecx)
  | .rorRm8Ib rm imm => some (.ror, .b8, rm, fun _ => imm)
  | .rorRm8By1 rm => some (.ror, .b8, rm, fun _ => 1#8)
  | .rorRm8Cl rm => some (.ror, .b8, rm, fun s => s.gpr .b8 .ecx)
  | .rorRmIb rm imm => some (.ror, p.osz.width, rm, fun _ => imm)
  | .rorRmBy1 rm => some (.ror, p.osz.width, rm, fun _ => 1#8)
  | .rorRmCl rm => some (.ror, p.osz.width, rm, fun s => s.gpr .b8 .ecx)
  | .rclRm8Ib rm imm => some (.rcl, .b8, rm, fun _ => imm)
  | .rclRm8By1 rm => some (.rcl, .b8, rm, fun _ => 1#8)
  | .rclRm8Cl rm => some (.rcl, .b8, rm, fun s => s.gpr .b8 .ecx)
  | .rclRmIb rm imm => some (.rcl, p.osz.width, rm, fun _ => imm)
  | .rclRmBy1 rm => some (.rcl, p.osz.width, rm, fun _ => 1#8)
  | .rclRmCl rm => some (.rcl, p.osz.width, rm, fun s => s.gpr .b8 .ecx)
  | .rcrRm8Ib rm imm => some (.rcr, .b8, rm, fun _ => imm)
  | .rcrRm8By1 rm => some (.rcr, .b8, rm, fun _ => 1#8)
  | .rcrRm8Cl rm => some (.rcr, .b8, rm, fun s => s.gpr .b8 .ecx)
  | .rcrRmIb rm imm => some (.rcr, p.osz.width, rm, fun _ => imm)
  | .rcrRmBy1 rm => some (.rcr, p.osz.width, rm, fun _ => 1#8)
  | .rcrRmCl rm => some (.rcr, p.osz.width, rm, fun s => s.gpr .b8 .ecx)
  | .shlRm8Ib rm imm => some (.shl, .b8, rm, fun _ => imm)
  | .shlRm8By1 rm => some (.shl, .b8, rm, fun _ => 1#8)
  | .shlRm8Cl rm => some (.shl, .b8, rm, fun s => s.gpr .b8 .ecx)
  | .shlRmIb rm imm => some (.shl, p.osz.width, rm, fun _ => imm)
  | .shlRmBy1 rm => some (.shl, p.osz.width, rm, fun _ => 1#8)
  | .shlRmCl rm => some (.shl, p.osz.width, rm, fun s => s.gpr .b8 .ecx)
  | .shrRm8Ib rm imm => some (.shr, .b8, rm, fun _ => imm)
  | .shrRm8By1 rm => some (.shr, .b8, rm, fun _ => 1#8)
  | .shrRm8Cl rm => some (.shr, .b8, rm, fun s => s.gpr .b8 .ecx)
  | .shrRmIb rm imm => some (.shr, p.osz.width, rm, fun _ => imm)
  | .shrRmBy1 rm => some (.shr, p.osz.width, rm, fun _ => 1#8)
  | .shrRmCl rm => some (.shr, p.osz.width, rm, fun s => s.gpr .b8 .ecx)
  | .sarRm8Ib rm imm => some (.sar, .b8, rm, fun _ => imm)
  | .sarRm8By1 rm => some (.sar, .b8, rm, fun _ => 1#8)
  | .sarRm8Cl rm => some (.sar, .b8, rm, fun s => s.gpr .b8 .ecx)
  | .sarRmIb rm imm => some (.sar, p.osz.width, rm, fun _ => imm)
  | .sarRmBy1 rm => some (.sar, p.osz.width, rm, fun _ => 1#8)
  | .sarRmCl rm => some (.sar, p.osz.width, rm, fun s => s.gpr .b8 .ecx)
  | _ => none

/-- Whether it shifts left, the operand, the register shifted in, and the count, of SHLD and SHRD. -/
def doubleParts : Instr → Option (Bool × RM × Reg × (State → Byte))
  | .shldRmRIb rm reg imm => some (true, rm, reg, fun _ => imm)
  | .shldRmRCl rm reg => some (true, rm, reg, fun s => s.gpr .b8 .ecx)
  | .shrdRmRIb rm reg imm => some (false, rm, reg, fun _ => imm)
  | .shrdRmRCl rm reg => some (false, rm, reg, fun s => s.gpr .b8 .ecx)
  | _ => none

/-- The operation, operand and bit offset, a register or an immediate, of a bit test. -/
def bitParts : Instr → Option (BitOp × RM × (Reg ⊕ Byte))
  | .btRmR rm reg => some (.bt, rm, .inl reg)
  | .btRmIb rm imm => some (.bt, rm, .inr imm)
  | .btsRmR rm reg => some (.bts, rm, .inl reg)
  | .btsRmIb rm imm => some (.bts, rm, .inr imm)
  | .btrRmR rm reg => some (.btr, rm, .inl reg)
  | .btrRmIb rm imm => some (.btr, rm, .inr imm)
  | .btcRmR rm reg => some (.btc, rm, .inl reg)
  | .btcRmIb rm imm => some (.btc, rm, .inr imm)
  | _ => none

/-- The operation and element width of a string instruction. -/
def stringParts (p : Pfx) : Instr → Option (StringOp × Width)
  | .movsb => some (.mov, .b8)
  | .movsw => some (.mov, p.osz.width)
  | .cmpsb => some (.cmp, .b8)
  | .cmpsw => some (.cmp, p.osz.width)
  | .stosb => some (.sto, .b8)
  | .stosw => some (.sto, p.osz.width)
  | .lodsb => some (.lod, .b8)
  | .lodsw => some (.lod, p.osz.width)
  | .scasb => some (.sca, .b8)
  | .scasw => some (.sca, p.osz.width)
  | _ => none

/-- The width, destination and source of MOV between general registers, memory and immediates. -/
def movParts (p : Pfx) : Instr → Option (Width × RM × Src)
  | .movRm8R8 rm reg => some (.b8, rm, .reg reg)
  | .movRmR rm reg => some (p.osz.width, rm, .reg reg)
  | .movR8Rm8 rm reg => some (.b8, .reg reg, .rm rm)
  | .movRRm rm reg => some (p.osz.width, .reg reg, .rm rm)
  | .movRm8Ib rm imm => some (.b8, rm, .imm (imm.setWidth 32))
  | .movRmIz rm imm => some (p.osz.width, rm, .imm imm)
  | .movR8Ib reg imm => some (.b8, .reg reg, .imm (imm.setWidth 32))
  | .movRIz reg imm => some (p.osz.width, .reg reg, .imm imm)
  | _ => none

/-- The width and operands of XCHG. -/
def xchgParts (p : Pfx) : Instr → Option (Width × RM × Reg)
  | .xchgRm8R8 rm reg => some (.b8, rm, reg)
  | .xchgRmR rm reg => some (p.osz.width, rm, reg)
  | .xchgEaxR reg => some (p.osz.width, .reg .eax, reg)
  | _ => none

/-- Whether it extends the sign, the source width, and the operands of MOVZX and MOVSX. -/
def extendParts : Instr → Option (Bool × Width × RM × Reg)
  | .movzxRRm8 rm reg => some (false, .b8, rm, reg)
  | .movzxRRm16 rm reg => some (false, .b16, rm, reg)
  | .movsxRRm8 rm reg => some (true, .b8, rm, reg)
  | .movsxRRm16 rm reg => some (true, .b16, rm, reg)
  | _ => none

/-- The source of a PUSH of opsize. -/
def pushParts : Instr → Option Src
  | .pushR reg => some (.reg reg)
  | .pushIz imm => some (.imm imm)
  | .pushIbs imm => some (.imm (imm.signExtend 32))
  | .pushRm rm => some (.rm rm)
  | _ => none

/-- A relative branch: the state before the decision, whether it is taken, and the displacement. -/
def branchParts (p : Pfx) (s : State) : Instr → Option (State × Bool × Word)
  | .jccRel8 cc rel => some (s, condHolds cc s.eflags, rel.signExtend 32)
  | .jccRelz cc rel => some (s, condHolds cc s.eflags, relSized p.osz rel)
  | .jmpRel8 rel => some (s, true, rel.signExtend 32)
  | .jmpRelz rel => some (s, true, relSized p.osz rel)
  | .loopRel8 rel => some (s.countDown p, (s.countDown p).counter p != 0#32, rel.signExtend 32)
  | .loopeRel8 rel => some (s.countDown p, (s.countDown p).counter p != 0#32 && s.flag .zf, rel.signExtend 32)
  | .loopneRel8 rel => some (s.countDown p, (s.countDown p).counter p != 0#32 && !s.flag .zf, rel.signExtend 32)
  | .jcxzRel8 rel => some (s, s.counter p == 0#32, rel.signExtend 32)
  | _ => none

/-- The kind and the target, in the instruction or in memory, of a far jump or call. -/
def farParts (p : Pfx) : Instr → Option (FarKind × Act (Word × Sel))
  | .jmpPtr off sel => some (.jmp, pure (off, sel))
  | .jmpMemFar m => some (.jmp, readFarPointer p m)
  | .callPtr off sel => some (.call, pure (off, sel))
  | .callMemFar m => some (.call, readFarPointer p m)
  | _ => none

/-- The register of PUSH Sreg. -/
def pushSegParts : Instr → Option SegReg
  | .pushEs => some .es
  | .pushCs => some .cs
  | .pushSs => some .ss
  | .pushDs => some .ds
  | .pushFs => some .fs
  | .pushGs => some .gs
  | _ => none

/-- The register of POP Sreg. -/
def popSegParts : Instr → Option SegReg
  | .popEs => some .es
  | .popSs => some .ss
  | .popDs => some .ds
  | .popFs => some .fs
  | .popGs => some .gs
  | _ => none

/-- The memory operand, the register and the segment register of LDS to LGS. -/
def farLoadParts : Instr → Option (Mem × Reg × SegReg)
  | .ldsRMemFar m reg => some (m, reg, .ds)
  | .lesRMemFar m reg => some (m, reg, .es)
  | .lssRMemFar m reg => some (m, reg, .ss)
  | .lfsRMemFar m reg => some (m, reg, .fs)
  | .lgsRMemFar m reg => some (m, reg, .gs)
  | _ => none

/-- LOCK is allowed: the row allows it and the destination is memory (opcode_table.json; R208). -/
def lockAllowed : Instr → Bool
  | .addRm8R8 rm _ => isMem rm
  | .addRmR rm _ => isMem rm
  | .addRm8Ib rm _ => isMem rm
  | .addRmIz rm _ => isMem rm
  | .addRmIbs rm _ => isMem rm
  | .orRm8R8 rm _ => isMem rm
  | .orRmR rm _ => isMem rm
  | .orRm8Ib rm _ => isMem rm
  | .orRmIz rm _ => isMem rm
  | .orRmIbs rm _ => isMem rm
  | .adcRm8R8 rm _ => isMem rm
  | .adcRmR rm _ => isMem rm
  | .adcRm8Ib rm _ => isMem rm
  | .adcRmIz rm _ => isMem rm
  | .adcRmIbs rm _ => isMem rm
  | .sbbRm8R8 rm _ => isMem rm
  | .sbbRmR rm _ => isMem rm
  | .sbbRm8Ib rm _ => isMem rm
  | .sbbRmIz rm _ => isMem rm
  | .sbbRmIbs rm _ => isMem rm
  | .andRm8R8 rm _ => isMem rm
  | .andRmR rm _ => isMem rm
  | .andRm8Ib rm _ => isMem rm
  | .andRmIz rm _ => isMem rm
  | .andRmIbs rm _ => isMem rm
  | .subRm8R8 rm _ => isMem rm
  | .subRmR rm _ => isMem rm
  | .subRm8Ib rm _ => isMem rm
  | .subRmIz rm _ => isMem rm
  | .subRmIbs rm _ => isMem rm
  | .xorRm8R8 rm _ => isMem rm
  | .xorRmR rm _ => isMem rm
  | .xorRm8Ib rm _ => isMem rm
  | .xorRmIz rm _ => isMem rm
  | .xorRmIbs rm _ => isMem rm
  | .incRm8 rm => isMem rm
  | .incRm rm => isMem rm
  | .decRm8 rm => isMem rm
  | .decRm rm => isMem rm
  | .notRm8 rm => isMem rm
  | .notRm rm => isMem rm
  | .negRm8 rm => isMem rm
  | .negRm rm => isMem rm
  | .btsRmR rm _ => isMem rm
  | .btsRmIb rm _ => isMem rm
  | .btrRmR rm _ => isMem rm
  | .btrRmIb rm _ => isMem rm
  | .btcRmR rm _ => isMem rm
  | .btcRmIb rm _ => isMem rm
  | .cmpxchgRm8R8 rm _ => isMem rm
  | .cmpxchgRmR rm _ => isMem rm
  | .xaddRm8R8 rm _ => isMem rm
  | .xaddRmR rm _ => isMem rm
  | .cmpxchg8bM64 _ => true
  | .xchgRm8R8 rm _ => isMem rm
  | .xchgRmR rm _ => isMem rm
  | _ => false

/-- The generation an instruction appeared in (opcode_table.json). -/
def firstGen : Instr → CpuGen
  | .bswapR32 _ | .cmpxchgRm8R8 _ _ | .cmpxchgRmR _ _ | .xaddRm8R8 _ _ | .xaddRmR _ _ | .invlpgM _ | .invd | .wbinvd => .g486
  | .cmpxchg8bM64 _ => .g586
  | _ => .g386

/-- The flags an instruction may write, as a mask of EFLAGS (the Flags lines of spec/40 to spec/49). -/
def flagMask : Instr → Word
  | .iret | .popf => 0x00257FD5#32
  | .addRm8R8 _ _ | .addRmR _ _ | .addR8Rm8 _ _ | .addRRm _ _ | .addAlIb _ | .addEaxIz _ | .addRm8Ib _ _
    | .addRmIz _ _ | .addRmIbs _ _ | .orRm8R8 _ _ | .orRmR _ _ | .orR8Rm8 _ _ | .orRRm _ _ | .orAlIb _ | .orEaxIz _
    | .orRm8Ib _ _ | .orRmIz _ _ | .orRmIbs _ _ | .adcRm8R8 _ _ | .adcRmR _ _ | .adcR8Rm8 _ _ | .adcRRm _ _
    | .adcAlIb _ | .adcEaxIz _ | .adcRm8Ib _ _ | .adcRmIz _ _ | .adcRmIbs _ _ | .sbbRm8R8 _ _ | .sbbRmR _ _
    | .sbbR8Rm8 _ _ | .sbbRRm _ _ | .sbbAlIb _ | .sbbEaxIz _ | .sbbRm8Ib _ _ | .sbbRmIz _ _ | .sbbRmIbs _ _
    | .andRm8R8 _ _ | .andRmR _ _ | .andR8Rm8 _ _ | .andRRm _ _ | .andAlIb _ | .andEaxIz _ | .andRm8Ib _ _
    | .andRmIz _ _ | .andRmIbs _ _ | .subRm8R8 _ _ | .subRmR _ _ | .subR8Rm8 _ _ | .subRRm _ _ | .subAlIb _
    | .subEaxIz _ | .subRm8Ib _ _ | .subRmIz _ _ | .subRmIbs _ _ | .xorRm8R8 _ _ | .xorRmR _ _ | .xorR8Rm8 _ _
    | .xorRRm _ _ | .xorAlIb _ | .xorEaxIz _ | .xorRm8Ib _ _ | .xorRmIz _ _ | .xorRmIbs _ _ | .cmpRm8R8 _ _
    | .cmpRmR _ _ | .cmpR8Rm8 _ _ | .cmpRRm _ _ | .cmpAlIb _ | .cmpEaxIz _ | .cmpRm8Ib _ _ | .cmpRmIz _ _
    | .cmpRmIbs _ _ | .testRm8R8 _ _ | .testRmR _ _ | .testAlIb _ | .testEaxIz _ | .testRm8Ib _ _ | .testRmIz _ _
    | .negRm8 _ | .negRm _ | .mulRm8 _ | .mulRm _ | .imulRm8 _ | .imulRm _ | .divRm8 _ | .divRm _ | .idivRm8 _
    | .idivRm _ | .imulRRm _ _ | .imulRRmIz _ _ _ | .imulRRmIbs _ _ _ | .shlRm8Ib _ _ | .shlRmIb _ _ | .shlRm8By1 _
    | .shlRmBy1 _ | .shlRm8Cl _ | .shlRmCl _ | .shrRm8Ib _ _ | .shrRmIb _ _ | .shrRm8By1 _ | .shrRmBy1 _
    | .shrRm8Cl _ | .shrRmCl _ | .sarRm8Ib _ _ | .sarRmIb _ _ | .sarRm8By1 _ | .sarRmBy1 _ | .sarRm8Cl _ | .sarRmCl _
    | .shldRmRIb _ _ _ | .shldRmRCl _ _ | .shrdRmRIb _ _ _ | .shrdRmRCl _ _ | .bsfRRm _ _ | .bsrRRm _ _ | .cmpsb
    | .cmpsw | .scasb | .scasw | .cmpxchgRm8R8 _ _ | .cmpxchgRmR _ _ | .xaddRm8R8 _ _ | .xaddRmR _ _ => 0x000008D5#32
  | .incR _ | .incRm8 _ | .incRm _ | .decR _ | .decRm8 _ | .decRm _ => 0x000008D4#32
  | .btRmR _ _ | .btRmIb _ _ | .btsRmR _ _ | .btsRmIb _ _ | .btrRmR _ _ | .btrRmIb _ _ | .btcRmR _ _ | .btcRmIb _ _ => 0x00000895#32
  | .rolRm8Ib _ _ | .rolRmIb _ _ | .rolRm8By1 _ | .rolRmBy1 _ | .rolRm8Cl _ | .rolRmCl _ | .rorRm8Ib _ _
    | .rorRmIb _ _ | .rorRm8By1 _ | .rorRmBy1 _ | .rorRm8Cl _ | .rorRmCl _ | .rclRm8Ib _ _ | .rclRmIb _ _
    | .rclRm8By1 _ | .rclRmBy1 _ | .rclRm8Cl _ | .rclRmCl _ | .rcrRm8Ib _ _ | .rcrRmIb _ _ | .rcrRm8By1 _
    | .rcrRmBy1 _ | .rcrRm8Cl _ | .rcrRmCl _ => 0x00000801#32
  | .cld | .std => 0x00000400#32
  | .cli | .sti => 0x00000200#32
  | .sahf => 0x000000D5#32
  | .cmpxchg8bM64 _ => 0x00000040#32
  | .clc | .stc | .cmc => 0x00000001#32
  | .notRm8 _ | .notRm _ | .bswapR32 _ | .movsb | .movsw | .stosb | .stosw | .lodsb | .lodsw | .movRm8R8 _ _
    | .movRmR _ _ | .movR8Rm8 _ _ | .movRRm _ _ | .movRm8Ib _ _ | .movRmIz _ _ | .movR8Ib _ _ | .movRIz _ _
    | .movAlMoffs _ | .movEaxMoffs _ | .movMoffsAl _ | .movMoffsEax _ | .xchgRm8R8 _ _ | .xchgRmR _ _ | .xchgEaxR _
    | .nop | .leaRM _ _ | .movzxRRm8 _ _ | .movzxRRm16 _ _ | .movsxRRm8 _ _ | .movsxRRm16 _ _ | .cbw | .cwd
    | .pushR _ | .popR _ | .pushIz _ | .pushIbs _ | .pushRm _ | .popRm _ | .pusha | .popa | .xlat | .leave
    | .jccRel8 _ _ | .jccRelz _ _ | .jmpRel8 _ | .jmpRelz _ | .loopRel8 _ | .loopeRel8 _ | .loopneRel8 _
    | .jcxzRel8 _ | .jmpRm _ | .callRelz _ | .callRm _ | .ret | .retIw _ | .jmpPtr _ _ | .jmpMemFar _ | .callPtr _ _
    | .callMemFar _ | .retf | .retfIw _ | .intIb _ | .int3 | .into | .pushf | .lahf | .setccRm8 _ _
    | .movSregRm16 _ _ | .movRm16Sreg _ _ | .pushEs | .pushCs | .pushSs | .pushDs | .pushFs | .pushGs | .popEs
    | .popSs | .popDs | .popFs | .popGs | .ldsRMemFar _ _ | .lesRMemFar _ _ | .lssRMemFar _ _ | .lfsRMemFar _ _
    | .lgsRMemFar _ _ | .movCr0R32 _ | .movCr2R32 _ | .movCr3R32 _ | .movR32Cr0 _ | .movR32Cr2 _ | .movR32Cr3 _
    | .smswRm16 _ | .lmswRm16 _ | .invlpgM _ | .clts | .invd | .wbinvd | .hlt | .ud2 => 0x00000000#32

/-- The 32-bit general registers an instruction may write (the Operation parts of spec/40 to spec/49). -/
def regsWritten : Instr → List Reg
  | .addRm8R8 rm _ | .addRm8Ib rm _ | .orRm8R8 rm _ | .orRm8Ib rm _ | .adcRm8R8 rm _ | .adcRm8Ib rm _
    | .sbbRm8R8 rm _ | .sbbRm8Ib rm _ | .andRm8R8 rm _ | .andRm8Ib rm _ | .subRm8R8 rm _ | .subRm8Ib rm _
    | .xorRm8R8 rm _ | .xorRm8Ib rm _ | .incRm8 rm | .decRm8 rm | .notRm8 rm | .negRm8 rm | .rolRm8Ib rm _
    | .rolRm8By1 rm | .rolRm8Cl rm | .rorRm8Ib rm _ | .rorRm8By1 rm | .rorRm8Cl rm | .rclRm8Ib rm _ | .rclRm8By1 rm
    | .rclRm8Cl rm | .rcrRm8Ib rm _ | .rcrRm8By1 rm | .rcrRm8Cl rm | .shlRm8Ib rm _ | .shlRm8By1 rm | .shlRm8Cl rm
    | .shrRm8Ib rm _ | .shrRm8By1 rm | .shrRm8Cl rm | .sarRm8Ib rm _ | .sarRm8By1 rm | .sarRm8Cl rm | .movRm8R8 rm _
    | .movRm8Ib rm _ | .setccRm8 _ rm => destRegs .b8 rm
  | .addRmR rm _ | .addRmIz rm _ | .addRmIbs rm _ | .orRmR rm _ | .orRmIz rm _ | .orRmIbs rm _ | .adcRmR rm _
    | .adcRmIz rm _ | .adcRmIbs rm _ | .sbbRmR rm _ | .sbbRmIz rm _ | .sbbRmIbs rm _ | .andRmR rm _ | .andRmIz rm _
    | .andRmIbs rm _ | .subRmR rm _ | .subRmIz rm _ | .subRmIbs rm _ | .xorRmR rm _ | .xorRmIz rm _ | .xorRmIbs rm _
    | .incRm rm | .decRm rm | .notRm rm | .negRm rm | .rolRmIb rm _ | .rolRmBy1 rm | .rolRmCl rm | .rorRmIb rm _
    | .rorRmBy1 rm | .rorRmCl rm | .rclRmIb rm _ | .rclRmBy1 rm | .rclRmCl rm | .rcrRmIb rm _ | .rcrRmBy1 rm
    | .rcrRmCl rm | .shlRmIb rm _ | .shlRmBy1 rm | .shlRmCl rm | .shrRmIb rm _ | .shrRmBy1 rm | .shrRmCl rm
    | .sarRmIb rm _ | .sarRmBy1 rm | .sarRmCl rm | .shldRmRIb rm _ _ | .shldRmRCl rm _ | .shrdRmRIb rm _ _
    | .shrdRmRCl rm _ | .btsRmR rm _ | .btsRmIb rm _ | .btrRmR rm _ | .btrRmIb rm _ | .btcRmR rm _ | .btcRmIb rm _
    | .movRmR rm _ | .movRmIz rm _ | .movRm16Sreg rm _ | .smswRm16 rm => destRegs .b32 rm
  | .addR8Rm8 _ reg | .orR8Rm8 _ reg | .adcR8Rm8 _ reg | .sbbR8Rm8 _ reg | .andR8Rm8 _ reg | .subR8Rm8 _ reg
    | .xorR8Rm8 _ reg | .movR8Rm8 _ reg | .movR8Ib reg _ => [byteParent reg]
  | .addRRm _ reg | .orRRm _ reg | .adcRRm _ reg | .sbbRRm _ reg | .andRRm _ reg | .subRRm _ reg | .xorRRm _ reg
    | .incR reg | .decR reg | .imulRRm _ reg | .imulRRmIz _ reg _ | .imulRRmIbs _ reg _ | .bsfRRm _ reg
    | .bsrRRm _ reg | .bswapR32 reg | .movRRm _ reg | .movRIz reg _ | .leaRM _ reg | .movzxRRm8 _ reg
    | .movzxRRm16 _ reg | .movsxRRm8 _ reg | .movsxRRm16 _ reg | .ldsRMemFar _ reg | .lesRMemFar _ reg
    | .lssRMemFar _ reg | .lfsRMemFar _ reg | .lgsRMemFar _ reg | .movR32Cr0 reg | .movR32Cr2 reg | .movR32Cr3 reg => [reg]
  | .addAlIb _ | .addEaxIz _ | .orAlIb _ | .orEaxIz _ | .adcAlIb _ | .adcEaxIz _ | .sbbAlIb _ | .sbbEaxIz _
    | .andAlIb _ | .andEaxIz _ | .subAlIb _ | .subEaxIz _ | .xorAlIb _ | .xorEaxIz _ | .mulRm8 _ | .imulRm8 _
    | .divRm8 _ | .idivRm8 _ | .movAlMoffs _ | .movEaxMoffs _ | .cbw | .xlat | .lahf => [.eax]
  | .cmpRm8R8 _ _ | .cmpRmR _ _ | .cmpR8Rm8 _ _ | .cmpRRm _ _ | .cmpAlIb _ | .cmpEaxIz _ | .cmpRm8Ib _ _
    | .cmpRmIz _ _ | .cmpRmIbs _ _ | .testRm8R8 _ _ | .testRmR _ _ | .testAlIb _ | .testEaxIz _ | .testRm8Ib _ _
    | .testRmIz _ _ | .btRmR _ _ | .btRmIb _ _ | .movMoffsAl _ | .movMoffsEax _ | .nop | .jccRel8 _ _ | .jccRelz _ _
    | .jmpRel8 _ | .jmpRelz _ | .jcxzRel8 _ | .jmpRm _ | .jmpPtr _ _ | .jmpMemFar _ | .intIb _ | .int3 | .into
    | .sahf | .clc | .stc | .cmc | .cld | .std | .cli | .sti | .movSregRm16 _ _ | .movCr0R32 _ | .movCr2R32 _
    | .movCr3R32 _ | .lmswRm16 _ | .invlpgM _ | .clts | .invd | .wbinvd | .hlt | .ud2 => []
  | .mulRm _ | .imulRm _ | .divRm _ | .idivRm _ | .cmpxchg8bM64 _ => [.eax, .edx]
  | .movsb | .movsw | .cmpsb | .cmpsw => [.ecx, .esi, .edi]
  | .stosb | .stosw | .scasb | .scasw => [.ecx, .edi]
  | .lodsb | .lodsw => [.eax, .ecx, .esi]
  | .cmpxchgRm8R8 rm _ => .eax :: destRegs .b8 rm
  | .cmpxchgRmR rm _ => .eax :: destRegs .b32 rm
  | .xaddRm8R8 rm reg | .xchgRm8R8 rm reg => byteParent reg :: destRegs .b8 rm
  | .xaddRmR rm reg | .xchgRmR rm reg => reg :: destRegs .b32 rm
  | .xchgEaxR reg => [.eax, reg]
  | .cwd => [.edx]
  | .pushR _ | .pushIz _ | .pushIbs _ | .pushRm _ | .pusha | .callRelz _ | .callRm _ | .ret | .retIw _ | .callPtr _ _
    | .callMemFar _ | .retf | .retfIw _ | .iret | .pushf | .popf | .pushEs | .pushCs | .pushSs | .pushDs | .pushFs
    | .pushGs | .popEs | .popSs | .popDs | .popFs | .popGs => [.esp]
  | .popR reg => [.esp, reg]
  | .popRm rm => .esp :: destRegs .b32 rm
  | .popa => [.eax, .ecx, .edx, .ebx, .esp, .ebp, .esi, .edi]
  | .leave => [.esp, .ebp]
  | .loopRel8 _ | .loopeRel8 _ | .loopneRel8 _ => [.ecx]

/-- The segment registers an instruction may load. -/
def segsWritten : Instr → List SegReg
  | .jmpPtr _ _ | .jmpMemFar _ | .callPtr _ _ | .callMemFar _ | .retf | .retfIw _ | .iret => [.cs]
  | .movSregRm16 _ sreg => [sreg]
  | .popEs | .lesRMemFar _ _ => [.es]
  | .popSs | .lssRMemFar _ _ => [.ss]
  | .popDs | .ldsRMemFar _ _ => [.ds]
  | .popFs | .lfsRMemFar _ _ => [.fs]
  | .popGs | .lgsRMemFar _ _ => [.gs]
  | _ => []

/-- A control transfer: it may write eip. -/
def isTransfer : Instr → Bool
  | .jccRel8 _ _ | .jccRelz _ _ | .jmpRel8 _ | .jmpRelz _ | .loopRel8 _ | .loopeRel8 _ | .loopneRel8 _ | .jcxzRel8 _
    | .jmpRm _ | .callRelz _ | .callRm _ | .ret | .retIw _ | .jmpPtr _ _ | .jmpMemFar _ | .callPtr _ _
    | .callMemFar _ | .retf | .retfIw _ | .iret | .intIb _ | .int3 | .into => true
  | _ => false

/-- The bytes and the memory operand an instruction stores to through its ModRM operand, but for POP r/m and the bit tests by register,
whose address is another (R317, R461). -/
def modrmStore (p : Pfx) : Instr → Option (Nat × Mem)
  | .addRm8R8 rm _ | .addRm8Ib rm _ | .orRm8R8 rm _ | .orRm8Ib rm _ | .adcRm8R8 rm _ | .adcRm8Ib rm _
    | .sbbRm8R8 rm _ | .sbbRm8Ib rm _ | .andRm8R8 rm _ | .andRm8Ib rm _ | .subRm8R8 rm _ | .subRm8Ib rm _
    | .xorRm8R8 rm _ | .xorRm8Ib rm _ | .incRm8 rm | .decRm8 rm | .notRm8 rm | .negRm8 rm | .rolRm8Ib rm _
    | .rolRm8By1 rm | .rolRm8Cl rm | .rorRm8Ib rm _ | .rorRm8By1 rm | .rorRm8Cl rm | .rclRm8Ib rm _ | .rclRm8By1 rm
    | .rclRm8Cl rm | .rcrRm8Ib rm _ | .rcrRm8By1 rm | .rcrRm8Cl rm | .shlRm8Ib rm _ | .shlRm8By1 rm | .shlRm8Cl rm
    | .shrRm8Ib rm _ | .shrRm8By1 rm | .shrRm8Cl rm | .sarRm8Ib rm _ | .sarRm8By1 rm | .sarRm8Cl rm
    | .cmpxchgRm8R8 rm _ | .xaddRm8R8 rm _ | .movRm8R8 rm _ | .movRm8Ib rm _ | .xchgRm8R8 rm _ | .setccRm8 _ rm => rmStore 1 rm
  | .addRmR rm _ | .addRmIz rm _ | .addRmIbs rm _ | .orRmR rm _ | .orRmIz rm _ | .orRmIbs rm _ | .adcRmR rm _
    | .adcRmIz rm _ | .adcRmIbs rm _ | .sbbRmR rm _ | .sbbRmIz rm _ | .sbbRmIbs rm _ | .andRmR rm _ | .andRmIz rm _
    | .andRmIbs rm _ | .subRmR rm _ | .subRmIz rm _ | .subRmIbs rm _ | .xorRmR rm _ | .xorRmIz rm _ | .xorRmIbs rm _
    | .incRm rm | .decRm rm | .notRm rm | .negRm rm | .rolRmIb rm _ | .rolRmBy1 rm | .rolRmCl rm | .rorRmIb rm _
    | .rorRmBy1 rm | .rorRmCl rm | .rclRmIb rm _ | .rclRmBy1 rm | .rclRmCl rm | .rcrRmIb rm _ | .rcrRmBy1 rm
    | .rcrRmCl rm | .shlRmIb rm _ | .shlRmBy1 rm | .shlRmCl rm | .shrRmIb rm _ | .shrRmBy1 rm | .shrRmCl rm
    | .sarRmIb rm _ | .sarRmBy1 rm | .sarRmCl rm | .shldRmRIb rm _ _ | .shldRmRCl rm _ | .shrdRmRIb rm _ _
    | .shrdRmRCl rm _ | .btsRmIb rm _ | .btrRmIb rm _ | .btcRmIb rm _ | .cmpxchgRmR rm _ | .xaddRmR rm _
    | .movRmR rm _ | .movRmIz rm _ | .xchgRmR rm _ => rmStore p.osz.bytes rm
  | .cmpxchg8bM64 m => some (8, m)
  | .movRm16Sreg rm _ | .smswRm16 rm => rmStore 2 rm
  | _ => none

/-- The forms that store to memory elsewhere than through a ModRM operand at its own address: to the stack, a string element, a direct offset,
POP r/m after the pop, a bit selected by a register. -/
def storesElsewhere : Instr → Bool
  | .movMoffsAl _ | .movMoffsEax _ | .movsb | .movsw | .stosb | .stosw | .pushR _ | .pushIz _ | .pushIbs _
    | .pushRm _ | .pusha | .callRelz _ | .callRm _ | .callPtr _ _ | .callMemFar _ | .pushf | .pushEs | .pushCs
    | .pushSs | .pushDs | .pushFs | .pushGs => true
  | .popRm rm | .btsRmR rm _ | .btrRmR rm _ | .btcRmR rm _ => isMem rm
  | _ => false

end Sys2Proof.Machine
end

