-- ==== Sys2Proof/Certificates/Slice0/Obligations.lean ====
section
/-! DEFINITION. The statements for the provers. Each says which rule of spec/ it formalises; where it speaks of an operand in memory, "resolves"
means that the segment check and the translation of the operand's bytes succeed (spec/20_memory.md R144 to R146), computed by the functions the
meanings use. A free value of the spec (R26) is bound by an existential quantifier, so no statement rests on one. Every state of the model is meant, with
any pattern of TLB evictions (spec/20_memory.md R134), unless a statement's hypotheses say otherwise. -/

section

open Sys2Proof
open Sys2Proof.Machine

/-! Encoding. -/

/-- One word of each family of the opcode table, written out from its `match` bits, ModRM fields and immediates, decodes to its
instruction (spec/30_encoding.md R201, R210 to R215; opcode_table.json). -/
def Obligations.WordsOfEveryFamilyDecode : Prop :=
  let p16 : Pfx := { seg := none, osz := .w16, asz := .w16, lock := false, rep := .none }
  let p32 : Pfx := { seg := none, osz := .w32, asz := .w32, lock := false, rep := .none }
  -- ADD [BX+SI+12H], CX
  decode .g486 false [0x01#8, 0x48#8, 0x12#8] = (.instr p16 (.addRmR (.mem (.based16 .bxSi (.d8 0x12#8))) .ecx), []) ∧
  -- SHL byte AL, 3
  decode .g486 false [0xC0#8, 0xE0#8, 0x03#8] = (.instr p16 (.shlRm8Ib (.reg .eax) 3#8), []) ∧
  -- BTS [EBX+ECX*4+12345678H], EDX in 32-bit code
  decode .g486 true [0x0F#8, 0xAB#8, 0x94#8, 0x8B#8, 0x78#8, 0x56#8, 0x34#8, 0x12#8] =
    (.instr p32 (.btsRmR (.mem (.sib 2#2 (some .ecx) .ebx (.full 0x12345678#32))) .edx), []) ∧
  -- REP MOVSD: F3 66 A5 in 16-bit code
  decode .g486 false [0xF3#8, 0x66#8, 0xA5#8] = (.instr { p16 with osz := .w32, rep := .repe } .movsw, []) ∧
  -- LOCK CMPXCHG [1234H], BL
  decode .g486 false [0xF0#8, 0x0F#8, 0xB0#8, 0x1E#8, 0x34#8, 0x12#8] =
    (.instr { p16 with lock := true } (.cmpxchgRm8R8 (.mem (.abs16 0x1234#16)) .ebx), []) ∧
  -- MOV word FS:[BP+0], 5678H
  decode .g486 false [0x64#8, 0xC7#8, 0x46#8, 0x00#8, 0x78#8, 0x56#8] =
    (.instr { p16 with seg := some .fs } (.movRmIz (.mem (.based16 .bp (.d8 0#8))) 0x5678#32), []) ∧
  -- JNZ rel8, CALL far 0FFF0H:1234H, and a byte that follows
  decode .g486 false [0x75#8, 0xFE#8, 0x90#8] = (.instr p16 (.jccRel8 .ne 0xFE#8), [0x90#8]) ∧
  decode .g486 false [0x9A#8, 0x34#8, 0x12#8, 0xF0#8, 0xFF#8] = (.instr p16 (.callPtr 0x1234#32 0xFFF0#16), []) ∧
  -- POPF, LES AX,[DI], MOV CR0,EAX
  decode .g486 false [0x9D#8] = (.instr p16 .popf, []) ∧
  decode .g486 false [0xC4#8, 0x05#8] = (.instr p16 (.lesRMemFar (.based16 .di .none) .eax), []) ∧
  decode .g486 false [0x0F#8, 0x22#8, 0xC0#8] = (.instr p16 (.movCr0R32 .eax), [])

/-- Decoding what the encoder wrote gives the instruction and its prefixes back, whatever follows it, for every well-formed instruction whose
bytes keep the length rule (R200, R204, R206, R207). -/
def Obligations.DecodeOfEncode : Prop :=
  ∀ (gen : CpuGen) (big : Bool) (p : Pfx) (i : Instr) (rest : List Byte), i.wellFormed p.osz p.asz = true →
    (encode big p i).length ≤ 15 → decode gen big (encode big p i ++ rest) = (.instr p i, rest)

/-- What the decoder reads is well-formed under the sizes its prefixes give, so every instruction executed is a row of the opcode table in one
of its operand forms (R211 to R215, R230). -/
def Obligations.DecodedIsWellFormed : Prop :=
  ∀ (gen : CpuGen) (big : Bool) (bs rest : List Byte) (p : Pfx) (i : Instr), decode gen big bs = (.instr p i, rest) →
    i.wellFormed p.osz p.asz = true

/-- The fetch of an instruction always ends in an outcome of the decoder or a fault: the host-fatal condition of R740, a missing dispatch
entry, cannot arise. -/
def Obligations.FetchEndsInAnOutcome : Prop :=
  ∀ (s t : State) (d : Decoded) (bs : List Byte), fetchInstr s = .ok (d, bs) t → d ≠ .truncated

/-! The step. -/

/-- A step that accepts no event and is not halted executes the instruction it fetches and decodes, under the prefix state decoded, from the
state the fetch left, and then takes the single-step trap if one is due (R200, R731). -/
def Obligations.StepRunsTheDecodedInstruction : Prop :=
  ∀ (s t : State) (p : Pfx) (i : Instr) (bs : List Byte), s.unmarked = true → acceptable s = none → s.halted = false →
    fetchInstr (startInstr s) = .ok (.instr p i, bs) t →
    step s = endInstr (startInstr s) (exec i (withDecoded p bs t))

/-- With paging off, when bytes of RAM or ROM within the CS limit stand at the program counter and decode to an instruction, the step is that
instruction's execution with eip moved past its bytes (R200 to R204, R731; spec/20_memory.md R121). -/
def Obligations.StepRunsTheBytesAtEip : Prop :=
  ∀ (s : State) (bs : List Byte) (p : Pfx) (i : Instr), s.unmarked = true → acceptable s = none → s.halted = false → s.pg = false →
    decode s.cfg.gen s.codeBig bs = (.instr p i, []) →
    (∀ k, (h : k < bs.length) →
      let off := s.eip + BitVec.ofNat 32 k
      let pa := inPage (translateOff s (s.segs.cs.base + off)).1 (s.segs.cs.base + off)
      off.toNat ≤ s.segs.cs.limit.toNat ∧ (s.handler (pageOf pa) = .ram ∨ s.handler (pageOf pa) = .rom) ∧
        memByte s.mem pa.toNat = bs[k]) →
    step s =
      endInstr (startInstr s) (exec i (withDecoded p bs { startInstr s with eip := s.eip + BitVec.ofNat 32 bs.length }))

/-- The fetch of a byte beyond the CS limit, or of a 16th byte, raises #GP(0) and changes nothing (R203, R204). An undefined encoding raises
#UD with the return offset at the instruction's first byte, and a refused encoding sets the sticky mark with the decode stage and the bytes,
both from the registers the step began with (R230, R232; spec/00_scope.md R27; spec/60_exceptions.md R700, R702). The model's own choices, where
the spec is silent: the marking step answers a next state (notes/assumptions/8.md), a refusal leaves registers and eip as they were at the
instruction's start (11.md), and its reason holds every byte fetched so far (26.md). -/
def Obligations.WhatIsNoInstruction : Prop :=
  (∀ s : State, (s.segs.cs.limit.toNat < s.eip.toNat ∨ s.eip - s.eipStart = 15#32) →
    fetchByte s = .error (.fault 13#8 (some 0#32)) s) ∧
  ∀ (s t : State) (bs : List Byte), s.unmarked = true → acceptable s = none → s.halted = false →
    (fetchInstr (startInstr s) = .ok (.undefined, bs) t →
      step s = endInstr (startInstr s) (.next (deliver 6#8 none .fault s.eip { t with eip := s.eip }))) ∧
    ∀ stage, fetchInstr (startInstr s) = .ok (.refused stage, bs) t →
      step s = .next { t with eip := s.eip, refused := some (.encoding stage bs), outcome := .refused (.encoding stage bs) }

/-- The state after reset (spec/70_reset_and_hazards.md R770 and spec/10_state.md R70): every field the spec gives a value, under any launch
parameters. The general registers are not among them (notes/assumptions/2.md). -/
def Obligations.ResetValues : Prop :=
  ∀ c : Config, let s := State.resetWith c
    s.eip = 0x0000FFF0#32 ∧ s.eflags = 0x00000002#32 ∧ s.written = 0#32 ∧
      s.segs.cs = { sel := 0xF000#16, base := 0xFFFF0000#32, limit := 0xFFFF#32, big := false, null := false } ∧
      (∀ r : SegReg, r ≠ .cs → s.seg r = { sel := 0#16, base := 0#32, limit := 0xFFFF#32, big := false, null := false }) ∧
      s.cr0 = (if c.gen = .g386 then 0x10#32 else 0x60000010#32) ∧ s.cr2 = 0#32 ∧ s.cr3 = 0#32 ∧ s.cpl = 0#2 ∧
      s.tlbR = [] ∧ s.tlbW = [] ∧ s.fmap = [] ∧
      (∀ q : Nat, s.handler q = if q < c.installedPages then .ram else .unmapped) ∧
      (∀ q : Nat, s.cap q =
        { readable := true, writable := decide (q < c.installedPages), hasRom := false, has32BitCode := false, has16BitCode := false
          noDynamicCode := false, init := false }) ∧
      s.halted = false ∧ s.shadow = .none ∧ s.refused = none ∧ s.faulted = none ∧ s.history = [] ∧ s.intr = none

/-- Under every launch parameter the state after reset satisfies the machine's invariant: tables in canonical form, reserved bits of EFLAGS and
CR0, and the relations of PE, PG, CPL and the TLB (R38, R44, R48, R49; Machine/Wf.lean). -/
def Obligations.ResetIsWellFormed : Prop := ∀ c : Config, (State.resetWith c).wf = true

/-- Every step keeps the machine's invariant, from every state that has it: memory and the TLB tables stay in canonical form, the fixed bits of
EFLAGS read as R38 says with VM 0 (R39), CR0 holds its reserved bits (R44), PG implies PE, real mode has CPL 0, and the TLB is empty while
paging is off (R48, R49, R670). Under a supplied protected-mode parameter this rests on the model's choice, not on the spec: an `Ok` answer
that breaks the invariant counts as `Refuse` (notes/assumptions/7.md). -/
def Obligations.StepKeepsWellFormed : Prop := ∀ s t : State, s.wf = true → step s = .next t → t.wf = true

/-- With no protected-mode parameter supplied, no step changes the launch parameters, the forced map, the page handlers or the capability
flags; the event history only grows; and the privilege level changes not at all (R11, R18, R52, R53, R57). -/
def Obligations.StepKeepsMapsAndPrivilege : Prop :=
  ∀ s t : State, s.pmRefuses → step s = .next t →
    t.cfg = s.cfg ∧ t.fmap = s.fmap ∧ t.handlers = s.handlers ∧ t.caps = s.caps ∧ t.cpl = s.cpl ∧ s.history <:+ t.history

/-- In protected mode with CPL other than 0 and no parameter supplied, no step changes CR0, CR3, CPL or IOPL, and none changes IF while
IOPL is below CPL (spec/47_flags.md R617, R622; spec/49_system.md R682). -/
def Obligations.UnprivilegedCodeCannotChangeControl : Prop :=
  ∀ s t : State, s.pmRefuses → s.pe = true → s.cpl ≠ 0#2 → step s = .next t →
    t.cr0 = s.cr0 ∧ t.cr3 = s.cr3 ∧ t.cpl = s.cpl ∧ t.iopl = s.iopl ∧
      (s.iopl.toNat < s.cpl.toNat → t.flag .intr = s.flag .intr)

/-- An instruction that ends the run, by a terminal fault or a refusal, leaves the general registers, the flags, the segment registers and the
control registers but CR2 as it found them, and eip at its first byte, and its outcome is that of the mark (R27, R28). For a guest fault this
is spec/60_exceptions.md R700; for a ROM trap or a refusal it is the model's choice (notes/assumptions/11.md), and so it is for a software
interrupt whose delivery fails (13.md); that the marking step answers a next state is 8.md. -/
def Obligations.AnEndedRunKeepsRegisters : Prop :=
  ∀ (i : Instr) (s t : State), s.unmarked = true → exec i s = .next t → t.unmarked = false →
    t.regs = s.regs ∧ t.eflags = s.eflags ∧ t.segs = s.segs ∧ t.cr0 = s.cr0 ∧ t.cr3 = s.cr3 ∧ t.cpl = s.cpl ∧ t.eip = s.eipStart ∧
      t.halted = s.halted ∧
      ((∃ r, t.refused = some r ∧ t.outcome = .refused r) ∨ ∃ f, t.faulted = some f ∧ t.outcome = .fault f)

/-- The steps that execute no instruction. A state that carries a mark takes none: the mark stands for ever (spec/00_scope.md R27, R28). An
external interrupt is accepted at the start of a step exactly when the line is driven, IF is 1, no shadow is in force and no mark is set;
acceptance records the event, with the return offset eip, returns `Continue` and clears the line; that a delivery which ends the run leaves the
line is the model's reading (notes/assumptions/18.md). A halted core that accepts none returns `Halted` and stays as it is, for ever once IF is
0 (spec/60_exceptions.md R716, R720 to R722). -/
def Obligations.StepsThatExecuteNothing : Prop :=
  ∀ s : State,
    (∀ r, s.refused = some r → step s = .refused r) ∧
    (∀ f, s.refused = none → s.faulted = some f → step s = .fault f) ∧
    (s.unmarked = true →
      (∀ v, acceptable s = some v ↔ s.intr = some v ∧ s.flag .intr = true ∧ s.shadow = .none) ∧
      (∀ v, acceptable s = some v → ∃ t, step s = .next t ∧ .delivered v .external ∈ t.history ∧
        (t.unmarked = true → t = { deliver v none .external s.eip s with intr := none } ∧ t.halted = false ∧ t.outcome = .cont)) ∧
      (s.halted = true → acceptable s = none → step s = .next { s with outcome := .halted }) ∧
      (s.halted = true → s.flag .intr = false → step s = .next { s with outcome := .halted }))

/-- After an instruction that began with TF = 1, delivered nothing, set no mark and left no MOV SS shadow, #DB is delivered as a trap with the
return offset of the next instruction; with TF = 0 at its start, or after one that itself delivered an event, it is not, and a step that would
continue with the core halted returns `Halted` (R707, R722, R731). -/
def Obligations.SingleStepTrap : Prop :=
  ∀ s t : State,
    (s.flag .tf = true → t.unmarked = true → sameDeliveries s t → t.shadow ≠ .movss →
      endInstr s (.next t) = .next (deliver 1#8 none .trap t.eip t)) ∧
    (s.flag .tf = false ∨ t.unmarked = false ∨ ¬ sameDeliveries s t ∨ t.shadow = .movss →
      endInstr s (.next t) = .next (if t.halted = true ∧ t.outcome = .cont then { t with outcome := .halted } else t))

/-- Delivery in real mode, when the three pushes and the two reads of the vector table succeed: FLAGS, CS and the low half of the return
offset are pushed in this order, IF, TF and AC are cleared after FLAGS is saved, CS and eip come from the vector's entry read after the pushes,
and halt and shadow end (R712, R714); the step's outcome names a guest fault and continues after the other events (R716). -/
def Obligations.RealModeDelivery : Prop :=
  ∀ (v : Byte) (err : Option Word) (kind : EventKind) (ret : Word) (s s1 s2 s3 s4 s5 : State) (off sel : List Byte), s.pe = false →
    push (s.eflags.setWidth 16) (s.record (.delivered v kind)) = .ok () s1 →
    push s.segs.cs.sel { s1 with eflags := s.eflags &&& ~~~0x00040300#32 } = .ok () s2 →
    push (ret.setWidth 16) s2 = .ok () s3 →
    linRead (BitVec.ofNat 32 (4 * v.toNat)) 2 s3 = .ok off s4 →
    linRead (BitVec.ofNat 32 (4 * v.toNat + 2)) 2 s4 = .ok sel s5 →
    deliver v err kind ret s =
      { s5 with
        segs := { s.segs with cs := s.segs.cs.loadReal (ofBytes 16 sel) }
        eip := (ofBytes 16 off).setWidth 32
        halted := false
        shadow := .none
        outcome := if kind = .fault then .fault (.guest v err) else .cont }

/-- A guest fault during a real-mode delivery ends the run as vector 8 with error code 0, the registers as they were when the delivery began
(R715); in protected mode a parameter that refuses ends the run as the fault itself, or refuses the step for the other kinds, and one that
answers gives its state, halt and shadow ended (R712, R713, R716; spec/00_scope.md R25). The model's own: that the event is recorded and eip is
the one the delivery began with when it fails (notes/assumptions/13.md), that a `Fault` answer of PM_DELIVER refuses (7.md), and which bytes the
reason of a refusal holds (26.md). -/
def Obligations.DeliveryThatFails : Prop :=
  ∀ (v : Byte) (err : Option Word) (kind : EventKind) (ret : Word) (s : State),
    let refused := Refusal.pmDeliver v kind (if kind = .external then [] else s.fetched)
    let ended := if kind = .fault then { s.record (.delivered v kind) with faulted := some (.guest v err), outcome := .fault (.guest v err) }
      else { s.record (.delivered v kind) with refused := some refused, outcome := .refused refused }
    (s.pe = false → ∀ w e t, deliverReal v ret (s.record (.delivered v kind)) = .error (.fault w e) t →
      (deliver v err kind ret s).faulted = some (.guest 8#8 (some 0#32)) ∧
        (deliver v err kind ret s).outcome = .fault (.guest 8#8 (some 0#32)) ∧ (deliver v err kind ret s).regs = s.regs ∧
        (deliver v err kind ret s).eflags = s.eflags ∧ (deliver v err kind ret s).segs = s.segs ∧ (deliver v err kind ret s).eip = s.eip) ∧
    (s.pe = true → s.cfg.pmDeliver = .refuse → deliver v err kind ret s = ended) ∧
    (s.pe = true → deliver v err kind ret s =
      match pmDeliver v err kind { s.record (.delivered v kind) with eip := ret } with
      | .ok t => { t with halted := false, shadow := .none, outcome := if kind = .fault then .fault (.guest v err) else .cont }
      | .fault _ _ | .refuse => ended)

/-! Memory. -/

/-- Bytes stored at a physical address are read back in order, and every other byte reads as before (spec/20_memory.md R101, R102). -/
def Obligations.StoreThenLoad : Prop :=
  ∀ (m : List Host.Cell) (a : Word) (bs : List Byte), bs.length ≤ 2 ^ 32 →
    memRead (memWrite m a bs) a bs.length = bs ∧
    (∀ b : Nat, (∀ k < bs.length, b ≠ (a + BitVec.ofNat 32 k).toNat) → memByte (memWrite m a bs) b = memByte m b) ∧
    (Memory.wf m = true → Memory.wf (memWrite m a bs) = true)

/-- What each page handler does with an access: RAM reads and writes the store; ROM reads it, and drops or traps a write as the launch says;
an unmapped page reads the fill byte and drops a write; a device page records the access in the event history and touches no byte. A page
reached through a read-only forced mapping takes writes as ROM does, and a write to a page that holds code is announced first (R105 to R107,
R111, R113, R121). The model's own: that a dropped or trapped write is announced too (notes/assumptions/20.md), and that a device's answer is a
free value numbered by the count of draws (5.md). -/
def Obligations.PageHandlers : Prop :=
  ∀ (s : State) (c : Chunk) (bs : List Byte), bs.length = c.n → c.n ≤ 4 →
    let page := pageOf c.pa
    let s0 := if (s.cap page).has32BitCode || (s.cap page).has16BitCode then s.record (.smcInvalidate page) else s
    let dropped := s0.record (.romWriteDiscarded c.pa c.n (bytesWord bs))
    (s.handler page = .ram ∨ s.handler page = .rom → handlerRead c s = .ok (memRead s.mem c.pa c.n) s) ∧
    (s.handler page = .unmapped → handlerRead c s = .ok (List.replicate c.n s.cfg.unmappedFill) s) ∧
    (∀ d, s.handler page = .mmio d → ∃ v : Word, handlerRead c s = .ok (leBytes c.n v.toNat)
      { s with draws := s.draws + 1, history := .mmioRead c.pa c.n (bytesWord (leBytes c.n v.toNat)) :: s.history }) ∧
    (s.handler page = .ram → c.ro = false → handlerWrite c bs s = .ok () { s0 with mem := memWrite s.mem c.pa bs }) ∧
    (s.handler page = .rom ∨ c.ro = true → s.cfg.romPolicy = .discard → handlerWrite c bs s = .ok () dropped) ∧
    (s.handler page = .rom ∨ c.ro = true → s.cfg.romPolicy = .trap → handlerWrite c bs s = .error (.model (.romWrite c.pa)) s0) ∧
    (s.handler page = .unmapped → c.ro = false → handlerWrite c bs s = .ok () s0) ∧
    (∀ d, s.handler page = .mmio d → c.ro = false →
      handlerWrite c bs s = .ok () (s0.record (.mmioWrite c.pa c.n (bytesWord bs))))

/-- A span whose bytes are distinct RAM bytes of pages that hold no code, reached writably, reads back what is written to it, little-endian,
and its write changes no byte outside it and nothing but memory (R102, R105, R110, R111). -/
def Obligations.SpanRoundTrip : Prop :=
  ∀ (s : State) (sp : Span) (bs : List Byte), (spanBytes sp).Nodup → bs.length = (spanBytes sp).length →
    (∀ c ∈ sp, s.handler (pageOf c.pa) = .ram ∧ s.holdsCode (pageOf c.pa) = false ∧ c.ro = false) →
    ∃ m, writeSpan sp bs s = .ok () { s with mem := m } ∧ readSpan sp { s with mem := m } = .ok bs { s with mem := m } ∧
      (∀ b : Nat, b ∉ spanBytes sp → memByte m b = memByte s.mem b) ∧
      ∀ k, (h : k < bs.length) → ∀ b, (spanBytes sp)[k]? = some b → memByte m b = bs[k]

/-- The span of an n-byte access with paging off covers, in ascending address order, the physical bytes that the forced map or the identity gives
its linear bytes, within a page and across one (R109, R121, R140 to R142). -/
def Obligations.SpanWithPagingOff : Prop :=
  ∀ (s : State) (la : Word) (n : Nat) (write : Bool), s.pg = false → n = 1 ∨ n = 2 ∨ n = 4 ∨ n = 8 →
    ∃ sp, resolveLin la n write s = .ok sp s ∧
      spanBytes sp = (List.range n).map fun k =>
        (inPage (translateOff s (la + BitVec.ofNat 32 k)).1 (la + BitVec.ofNat 32 k)).toNat

/-- The segment check: a null segment raises #GP(0), an access beyond the limit raises #SS(0) in SS and #GP(0) elsewhere, an access within it
passes, and none of them changes the state (R144). -/
def Obligations.SegmentCheck : Prop :=
  ∀ (s : State) (r : SegReg) (off : Word) (n : Nat),
    let c := s.seg r
    let inside := off.toNat + n ≤ c.limit.toNat + 1
    (c.null = true → segCheck r off n s = .error (.fault 13#8 (some 0#32)) s) ∧
    (c.null = false → inside → segCheck r off n s = .ok () s) ∧
    (c.null = false → ¬ inside → r = .ss → segCheck r off n s = .error (.fault 12#8 (some 0#32)) s) ∧
    (c.null = false → ¬ inside → r ≠ .ss → segCheck r off n s = .error (.fault 13#8 (some 0#32)) s)

/-- With paging on, a translation the TLB answers, after the evictions that come before it, uses its entry alone, whatever the tables in memory
now say, and changes nothing else (R129, R135): the entry's page must pass the permission check of R125. An eviction takes entries out and leaves
the others and everything else but the count of draws as it was, for every pattern of evictions (R134; notes/assumptions/6.md). -/
def Obligations.TlbHitIgnoresTables : Prop :=
  ∀ s : State, let s0 := s.evicted
    (∃ r w d, s0 = { s with tlbR := r, tlbW := w, draws := d } ∧
      ∀ p : Nat, (tableGet r p = none ∨ tableGet r p = tableGet s.tlbR p) ∧ (tableGet w p = none ∨ tableGet w p = tableGet s.tlbW p)) ∧
    ∀ (la : Word) (write : Bool) (e : TlbEntry), s.pg = true →
      tableGet (if write then s0.tlbW else s0.tlbR) (pageOf la) = some e →
      (if s.cpl = 3#2 then e.uOk = true ∧ (write = true → e.wOk = true)
        else write = true → e.wOk = true ∨ s.cfg.gen = .g386 ∨ s.wp = false) →
      ∀ m, translate la write { s with mem := m } = .ok (e.physPage, false) { s0 with mem := m }

/-- With paging on, no TLB entry left by the evictions before it (R134, every pattern; notes/assumptions/6.md) and the entries the walk reads in
RAM of pages that hold no code, a translation faults as the walk says: entry absent in the directory or the table gives error-code bit 0 = 0, a
protection failure gives 1; bit 1 is the write, bit 2 is CPL 3; CR2 takes the linear address; and nothing else but the accessed bit of the
directory entry changes (R122, R125, R128; spec/60_exceptions.md R710). -/
def Obligations.PageFaults : Prop :=
  ∀ (s : State) (la : Word) (write : Bool), let s0 := s.evicted
    s.pg = true → tlbHit s0 la write = none →
    let pdeAddr := pdeAddrOf s.cr3 la
    let pde := bytesWord (memRead s.mem pdeAddr 4)
    let pteAddr := pteAddrOf pde la
    let pte := bytesWord (memRead s.mem pteAddr 4)
    let user := s.cpl == 3#2
    let plain := fun pa : Word => s.handler (pageOf pa) = .ram ∧ s.holdsCode (pageOf pa) = false
    let allowed := permitted (pde.getLsbD 2 && pte.getLsbD 2) (pde.getLsbD 1 && pte.getLsbD 1) write user (s.cfg.gen != .g386 && s.wp)
    plain pdeAddr →
    (pde.getLsbD 0 = false → translate la write s = .error (.fault 14#8 (some (pfError false write user))) { s0 with cr2 := la }) ∧
    (pde.getLsbD 0 = true → plain pteAddr → pte.getLsbD 0 = false ∨ allowed = false → ∃ t,
      translate la write s = .error (.fault 14#8 (some (pfError (pte.getLsbD 0) write user))) t ∧
      (∃ m d, t = { s0 with cr2 := la, mem := m, draws := d }) ∧
      (t.mem = s.mem ∨ t.mem = memWrite s.mem pdeAddr (leBytes 4 (pde ||| 0x20#32).toNat)))

/-- With paging on, no TLB entry left by the evictions before it (R134, every pattern; notes/assumptions/6.md) and tables in RAM of pages that
hold no code, a walk whose entries are present and permit the access gives the
table entry's page, sets the accessed bits and on a write the dirty bit, and fills the read entry of the TLB, and the write entry when the page
is dirty (R122, R125, R126, R130). -/
def Obligations.WalkFillsTlb : Prop :=
  ∀ (s : State) (la : Word) (write : Bool), let s0 := s.evicted
    s.pg = true → tlbHit s0 la write = none →
    let pdeAddr := pdeAddrOf s.cr3 la
    let pde := bytesWord (memRead s.mem pdeAddr 4)
    let pteAddr := pteAddrOf pde la
    let pte := bytesWord (memRead s.mem pteAddr 4)
    let plain := fun pa : Word => s.handler (pageOf pa) = .ram ∧ s.holdsCode (pageOf pa) = false
    let e : TlbEntry :=
      { physPage := pte.extractLsb' 12 20, uOk := pde.getLsbD 2 && pte.getLsbD 2, wOk := pde.getLsbD 1 && pte.getLsbD 1 }
    let dirty := pte.getLsbD 6 || write
    plain pdeAddr → plain pteAddr → pde.getLsbD 0 = true → pte.getLsbD 0 = true →
    permitted e.uOk e.wOk write (s.cpl == 3#2) (s.cfg.gen != .g386 && s.wp) = true →
    ∃ m, translate la write s =
        .ok (e.physPage, false)
          { s0 with
            mem := m
            tlbR := tableSet s0.tlbR (pageOf la) e
            tlbW := if dirty then tableSet s0.tlbW (pageOf la) e else s0.tlbW } ∧
      bytesWord (memRead m pteAddr 4) = pte ||| 0x20#32 ||| (if write then 0x40#32 else 0#32) ∧
      (pteAddr ≠ pdeAddr → bytesWord (memRead m pdeAddr 4) = pde ||| 0x20#32) ∧
      ∀ b : Nat, (∀ k < 4, b ≠ (pdeAddr + BitVec.ofNat 32 k).toNat ∧ b ≠ (pteAddr + BitVec.ofNat 32 k).toNat) →
        memByte m b = memByte s.mem b

/-! Registers and flags. -/

/-- The general registers and their views: a write of width w reads back, changes no other 32-bit register, keeps bits 31:16 of a 16-bit
write's register and every other byte of an 8-bit write's parent (spec/10_state.md R31, R32). -/
def Obligations.RegisterViews : Prop :=
  ∀ (s : State) (w : Width) (r : Reg) (v : BitVec w.bits),
    (s.setGpr w r v).gpr w r = v ∧
    (∀ q : Reg, q ∉ destRegs w (.reg r) → (s.setGpr w r v).gpr32 q = s.gpr32 q) ∧
    (w = .b16 → ((s.setGpr w r v).gpr32 r).extractLsb' 16 16 = (s.gpr32 r).extractLsb' 16 16) ∧
    (w = .b8 → ∀ q : Reg, q ≠ r → (s.setGpr w r v).gpr .b8 q = s.gpr .b8 q) ∧
    (w = .b8 → ((s.setGpr w r v).gpr32 (byteParent r)).extractLsb' 16 16 = (s.gpr32 (byteParent r)).extractLsb' 16 16) ∧
    (s.setGpr w r v).written &&& s.written = s.written

/-- The flags of an addition and a subtraction as facts about integers: the result is the exact sum or difference modulo 2^w, CF says that the
unsigned result does not fit, OF that the signed one does not, AF is the carry or borrow of the low four bits, ZF, SF and PF are those of the
result (R350 to R352). -/
def Obligations.AddAndSubFlagsAreIntegerFacts : Prop :=
  ∀ (w : Width) (a b : BitVec w.bits) (c : Bool),
    let inRange := fun x : Int => -(2 ^ (w.bits - 1) : Int) ≤ x ∧ x < 2 ^ (w.bits - 1)
    let common := fun (st : Status) (r : BitVec w.bits) =>
      (st.zf = true ↔ r = 0#w.bits) ∧ (st.sf = true ↔ r.toInt < 0) ∧ st.pf = parity r ∧
        (st.pf = true ↔ ((List.range 8).countP fun k => r.getLsbD k) % 2 = 0)
    let sum := addResult a b c
    let diff := subResult a b c
    (sum.toNat = (a.toNat + b.toNat + c.toNat) % 2 ^ w.bits ∧ common (flagsAdd a b c) sum ∧
      ((flagsAdd a b c).cf = true ↔ 2 ^ w.bits ≤ a.toNat + b.toNat + c.toNat) ∧
      ((flagsAdd a b c).of = true ↔ ¬ inRange (a.toInt + b.toInt + c.toNat)) ∧
      ((flagsAdd a b c).af = true ↔ 16 ≤ a.toNat % 16 + b.toNat % 16 + c.toNat)) ∧
    (diff.toInt = (a.toInt - b.toInt - c.toNat).bmod (2 ^ w.bits) ∧ common (flagsSub a b c) diff ∧
      ((flagsSub a b c).cf = true ↔ a.toNat < b.toNat + c.toNat) ∧
      ((flagsSub a b c).of = true ↔ ¬ inRange (a.toInt - b.toInt - c.toNat)) ∧
      ((flagsSub a b c).af = true ↔ a.toNat % 16 < b.toNat % 16 + c.toNat))

/-- The results of the shifts and rotates as facts about integers and bits, for the counts the masked count gives (R421, R424 to R430): SHL
multiplies, SHR divides, SAR divides toward minus infinity, ROL and ROR move bit i to i + c and i - c modulo w, and RCL and RCR do so on the w + 1
bits with CF on top. CF is the last bit shifted out, free for SHL and SHR by the width or more, and the end of the result the bits came in at for
ROL and ROR. OF for a count of 1 is the result's top bit against CF for the left shifts and rotates, the result's two top bits against each other
for ROR and RCR, the operand's top bit for SHR and 0 for SAR. -/
def Obligations.ShiftResults : Prop :=
  ∀ (w : Width) (a : BitVec w.bits) (cf : Bool) (c : Nat), 1 ≤ c → c < 32 →
    let n := w.bits
    let wide := fun (r : ShiftOut n) (k : Nat) => if k = n then r.cf = some true else r.r.getLsbD k = true
    (shiftOut .shl a cf c).r.toNat = a.toNat * 2 ^ c % 2 ^ n ∧ (shiftOut .shr a cf c).r.toNat = a.toNat / 2 ^ c ∧
    (shiftOut .sar a cf c).r.toInt = a.toInt / 2 ^ c ∧
    (∀ i < n, (shiftOut .rol a cf c).r.getLsbD ((i + c) % n) = a.getLsbD i) ∧
    (∀ i < n, (shiftOut .ror a cf c).r.getLsbD i = a.getLsbD ((i + c) % n)) ∧
    (∀ i ≤ n, wide (shiftOut .rcl a cf c) ((i + c) % (n + 1)) ↔ (if i = n then cf = true else a.getLsbD i = true)) ∧
    (∀ i ≤ n, wide (shiftOut .rcr a cf c) i ↔
      (if (i + c) % (n + 1) = n then cf = true else a.getLsbD ((i + c) % (n + 1)) = true)) ∧
    ((shiftOut .shl a cf c).cf = (if c < n then some (a.getLsbD (n - c)) else none)) ∧
    ((shiftOut .shr a cf c).cf = (if c < n then some (a.getLsbD (c - 1)) else none)) ∧
    ((shiftOut .sar a cf c).cf = some (a.getLsbD (min c n - 1))) ∧
    (let r := (shiftOut .rol a cf c).r
     (shiftOut .rol a cf c).cf = some (r.getLsbD 0) ∧ (c = 1 → (shiftOut .rol a cf c).of1 = (r.getLsbD (n - 1) ^^ r.getLsbD 0))) ∧
    (let r := (shiftOut .ror a cf c).r
     (shiftOut .ror a cf c).cf = some (r.getLsbD (n - 1)) ∧
       (c = 1 → (shiftOut .ror a cf c).of1 = (r.getLsbD (n - 1) ^^ r.getLsbD (n - 2)))) ∧
    (let r := (shiftOut .rcl a cf c).r
     (shiftOut .rcl a cf c).cf.isSome = true ∧ (c = 1 → (shiftOut .rcl a cf c).of1 = (r.getLsbD (n - 1) ^^ a.getLsbD (n - 1)))) ∧
    (let r := (shiftOut .rcr a cf c).r
     (shiftOut .rcr a cf c).cf.isSome = true ∧
       (c = 1 → (shiftOut .rcr a cf c).of1 = (r.getLsbD (n - 1) ^^ r.getLsbD (n - 2)))) ∧
    (c = 1 → (shiftOut .shl a cf c).of1 = ((shiftOut .shl a cf c).r.getLsbD (n - 1) ^^ a.getLsbD (n - 1))) ∧
    (c = 1 → (shiftOut .shr a cf c).of1 = a.getLsbD (n - 1)) ∧ (c = 1 → (shiftOut .sar a cf c).of1 = false)

/-- What writes to EFLAGS leave alone: the six status flags are bits 0, 2, 4, 6, 7 and 11, and writing them sets each as asked and keeps every
other bit (R37), and `SetEFLAGS`
writes the bits of its mask that exist in the generation, keeps the others, and leaves the fixed bits as R38 says (R615). -/
def Obligations.FlagWritesKeepTheRest : Prop :=
  ∀ (s : State) (st : Status) (v mask : Word), let t := s.setEflags v mask
    Status.of32 v = { cf := v.getLsbD 0, pf := v.getLsbD 2, af := v.getLsbD 4, zf := v.getLsbD 6, sf := v.getLsbD 7, of := v.getLsbD 11 } ∧
    Status.of32 (st.put v) = st ∧ (st.put v) &&& ~~~0x8D5#32 = v &&& ~~~0x8D5#32 ∧
    (∀ k < 32, (fixedZero s.cfg.gen).getLsbD k = true → t.eflags.getLsbD k = false) ∧ t.eflags.getLsbD 1 = true ∧
    (∀ k < 32, k ≠ 1 → (fixedZero s.cfg.gen).getLsbD k = false →
      t.eflags.getLsbD k = if mask.getLsbD k then v.getLsbD k else s.eflags.getLsbD k) ∧
    t = { s with eflags := t.eflags }

/-! What each instruction does. In these statements `s.allows gen lockable` says that the instruction's generation exists and that LOCK is not
misused; `s.drawn k` is the state with k free values drawn. -/

/-- ADD, OR, ADC, SBB, AND, SUB, XOR and CMP complete when their operands can be read and the destination written: the destination takes the
sum, the difference or the bitwise result, ADC and SBB with CF, CMP's takes nothing; the flags of the sums and differences are those of R351 and
R352, and a bitwise result clears CF and OF, sets ZF, SF and PF of it and draws AF (R353 to R362). TEST completes when its operands can be read:
its flags are those of the bitwise AND, and nothing is written (R363). -/
def Obligations.AluCompletes : Prop :=
  let logic := fun {n : Nat} (r : BitVec n) (af : Bool) =>
    ({ cf := false, pf := parity r, af := af, zf := r == 0#n, sf := r.msb, of := false } : Status)
  (∀ (i : Instr) (s s1 s2 s3 s4 : State) (x : AluParts) (pl : Place) (a b : BitVec x.w.bits),
    aluParts s.pfx i = some x → s.allows .g386 (x.op.writes && isMem x.dst) →
    resolveRM x.w x.op.writes s.pfx x.dst s = .ok pl s1 → readPlace x.w pl s1 = .ok a s2 → x.src.get x.w s.pfx s2 = .ok b s3 →
    let c : BitVec x.w.bits := if s.flag .cf then 1#x.w.bits else 0#x.w.bits
    let done := fun (r : BitVec x.w.bits) (st : Status) => writePlace x.w pl r s3 = .ok () s4 → exec i s = .next (s4.setStatus st)
    let drawn := fun (r : BitVec x.w.bits) =>
      writePlace x.w pl r s3 = .ok () s4 → ∃ af : Bool, exec i s = .next ((s4.drawn 1).setStatus (logic r af))
    match x.op with
    | .add => done (a + b) (flagsAdd a b false)
    | .adc => done (a + b + c) (flagsAdd a b (s.flag .cf))
    | .sub => done (a - b) (flagsSub a b false)
    | .sbb => done (a - b - c) (flagsSub a b (s.flag .cf))
    | .cmp => exec i s = .next (s3.setStatus (flagsSub a b false))
    | .and => drawn (a &&& b)
    | .or => drawn (a ||| b)
    | .xor => drawn (a ^^^ b)) ∧
  ∀ (i : Instr) (s s1 s2 : State) (w : Width) (dst : RM) (src : Src) (a b : BitVec w.bits),
    testParts s.pfx i = some (w, dst, src) → s.allows .g386 false →
    readRM w s.pfx dst s = .ok a s1 → src.get w s.pfx s1 = .ok b s2 →
    ∃ af : Bool, exec i s = .next ((s2.drawn 1).setStatus (logic (a &&& b) af))

/-- INC, DEC, NOT and NEG complete when their operand can be read and written: INC and DEC keep CF, NOT keeps every flag, NEG sets the flags
of 0 minus the operand (R364 to R367). -/
def Obligations.UnaryCompletes : Prop :=
  ∀ (i : Instr) (s s1 s2 s3 : State) (op : UnaryOp) (w : Width) (rm : RM) (pl : Place) (a : BitVec w.bits),
    unaryParts s.pfx i = some (op, w, rm) → s.allows .g386 (lockAllowed i) →
    resolveRM w true s.pfx rm s = .ok pl s1 → readPlace w pl s1 = .ok a s2 → writePlace w pl (op.result a) s2 = .ok () s3 →
    exec i s = .next (s3.setStatus (op.status s.status a))

/-- MUL and one-operand IMUL complete when their source can be read: AX, DX:AX or EDX:EAX takes the exact product of the accumulator and the
source, CF and OF say that the high half is significant, and the other status flags are draws (R368, R369). IMUL with two or three operands
completes when its factors can be read: the register takes the product modulo 2^w, CF and OF say that the exact product does not fit, and the
other status flags are draws (R370, R371). -/
def Obligations.MultiplyCompletes : Prop :=
  (∀ (i : Instr) (s s1 : State) (signed : Bool) (w : Width) (rm : RM) (a : BitVec w.bits),
    mulParts s.pfx i = some (signed, w, rm) → s.allows .g386 false → readRM w s.pfx rm s = .ok a s1 →
    let acc := s.gpr w .eax
    let product : Int := if signed then acc.toInt * a.toInt else acc.toNat * a.toNat
    let lo := BitVec.ofInt w.bits product
    let hi := BitVec.ofInt w.bits (product / 2 ^ w.bits)
    let big := if signed then product ≠ lo.toInt else hi ≠ 0#w.bits
    ∃ st : Status, (st.cf = true ↔ big) ∧ st.of = st.cf ∧
      exec i s = .next ((((s1.setGpr w .eax lo).setGpr w (highReg w) hi).drawn 6).setStatus st)) ∧
  ∀ (i : Instr) (s s1 s2 : State) (w : Width) (r : Reg) (x y : Src) (a b : BitVec w.bits),
    imulParts s.pfx i = some (w, r, x, y) → s.allows .g386 false →
    x.get w s.pfx s = .ok a s1 → y.get w s.pfx s1 = .ok b s2 →
    ∃ st : Status, (st.cf = true ↔ a.toInt * b.toInt ≠ (a * b).toInt) ∧ st.of = st.cf ∧
      exec i s = .next (((s2.setGpr w r (BitVec.ofInt w.bits (a.toInt * b.toInt))).drawn 6).setStatus st)

/-- DIV and IDIV, with a divisor that can be read: where the quotient of AX, DX:AX or EDX:EAX, truncated toward zero, fits, the low half takes
it and the high half the remainder, and the status flags are draws; a divisor of 0 or a quotient that does not fit raises #DE, with the
return offset at the instruction and the registers unchanged (R372, R373; spec/60_exceptions.md R700, R701). -/
def Obligations.DivideCompletesOrTraps : Prop :=
  ∀ (i : Instr) (s s1 : State) (signed : Bool) (w : Width) (rm : RM) (d : BitVec w.bits),
    divParts s.pfx i = some (signed, w, rm) → s.allows .g386 false → readRM w s.pfx rm s = .ok d s1 →
    let both : BitVec (w.bits + w.bits) := s.gpr w (highReg w) ++ s.gpr w .eax
    let num : Int := if signed then both.toInt else both.toNat
    let den : Int := if signed then d.toInt else d.toNat
    let q := num.tdiv den
    let fits := if signed then -(2 ^ (w.bits - 1) : Int) ≤ q ∧ q < 2 ^ (w.bits - 1) else q < 2 ^ w.bits
    (den ≠ 0 ∧ fits → ∃ st : Status, exec i s =
      .next ((((s1.setGpr w .eax (BitVec.ofInt w.bits q)).setGpr w (highReg w) (BitVec.ofInt w.bits (num.tmod den))).drawn 6).setStatus st)) ∧
    (den = 0 ∨ ¬ fits → exec i s = .next (deliver 0#8 none .fault s.eipStart (rollback s s1)))

/-- The shifts and rotates, with an operand that can be read and written: the count is taken modulo 32; a count of 0 changes nothing; another
one writes the result of R424 to R430, a rotate sets CF and OF alone, a shift all six flags, OF as defined for a count of 1, and each flag the
rules leave undefined is a draw (R420 to R430). -/
def Obligations.ShiftCompletes : Prop :=
  ∀ (i : Instr) (s s1 s2 : State) (op : ShiftOp) (w : Width) (rm : RM) (count : State → Byte) (pl : Place) (a : BitVec w.bits),
    shiftParts s.pfx i = some (op, w, rm, count) → s.allows .g386 false →
    resolveRM w true s.pfx rm s = .ok pl s1 → readPlace w pl s1 = .ok a s2 →
    let c := (count s).toNat % 32
    let out := shiftOut op a (s.flag .cf) c
    (c = 0 → exec i s = .next s2) ∧
    (c ≠ 0 → ∃ k ≤ 3, ∀ s3, writePlace w pl out.r (s2.drawn k) = .ok () s3 →
      ∃ st : Status, exec i s = .next (s3.setStatus st) ∧ (∀ x, out.cf = some x → st.cf = x) ∧ (c = 1 → st.of = out.of1) ∧
        if op.isRotate then st.pf = s.status.pf ∧ st.af = s.status.af ∧ st.zf = s.status.zf ∧ st.sf = s.status.sf
        else st.pf = parity out.r ∧ (st.zf = true ↔ out.r = 0#w.bits) ∧ st.sf = out.r.msb)

/-- SHLD and SHRD, with an operand that can be read and written: a masked count of 0 changes nothing; one up to the width shifts the operand and
fills from the register, CF the last bit shifted out, OF for a count of 1 a change of sign; a count beyond the width leaves a drawn result
and drawn flags (R431, R432). -/
def Obligations.DoubleShiftCompletes : Prop :=
  ∀ (i : Instr) (s s1 s2 : State) (left : Bool) (rm : RM) (r : Reg) (count : State → Byte) (pl : Place)
    (a : BitVec s.pfx.osz.width.bits),
    let w := s.pfx.osz.width
    doubleParts i = some (left, rm, r, count) → s.allows .g386 false →
    resolveRM w true s.pfx rm s = .ok pl s1 → readPlace w pl s1 = .ok a s2 →
    let c := (count s).toNat % 32
    let b := s.gpr w r
    let v := if left then a <<< c ||| b >>> (w.bits - c) else a >>> c ||| b <<< (w.bits - c)
    let out := if left then a.getLsbD (w.bits - c) else a.getLsbD (c - 1)
    (c = 0 → exec i s = .next s2) ∧
    (1 ≤ c ∧ c ≤ w.bits → ∃ k ≤ 2, ∀ s3, writePlace w pl v (s2.drawn k) = .ok () s3 →
      ∃ st : Status, exec i s = .next (s3.setStatus st) ∧ st.cf = out ∧ (c = 1 → st.of = (v.msb ^^ a.msb)) ∧ st.pf = parity v ∧
        (st.zf = true ↔ v = 0#w.bits) ∧ st.sf = v.msb) ∧
    (w.bits < c → ∃ x : BitVec w.bits, ∀ s3, writePlace w pl x (s2.drawn 7) = .ok () s3 →
      ∃ st : Status, exec i s = .next (s3.setStatus st))

/-- BT, BTS, BTR and BTC complete when the operand that holds the selected bit can be read, and for the last three written. The bit is the
offset modulo the width; a register offset into memory is signed and moves the operand by whole units of the width. CF takes the old bit, ZF
stays, the other flags are draws, and BTS, BTR and BTC set, clear and invert the bit (R460 to R467). -/
def Obligations.BitTestCompletes : Prop :=
  ∀ (i : Instr) (s s1 s2 s3 : State) (op : BitOp) (rm : RM) (k : Reg ⊕ Byte) (pl : Place) (v : BitVec s.pfx.osz.width.bits) (n : Nat),
    let w := s.pfx.osz.width
    bitParts i = some (op, rm, k) → s.allows .g386 (op.writes && isMem rm) →
    (match k, rm with
      | .inr imm, rm => resolveRM w op.writes s.pfx rm s = .ok pl s1 ∧ n = imm.toNat % w.bits
      | .inl r, .reg q => pl = .reg q ∧ s1 = s ∧ n = (s.gpr w r).toNat % w.bits
      | .inl r, .mem m => ∃ sp, pl = .mem sp ∧ (n : Int) = (s.gpr w r).toInt % w.bits ∧
        resolveMem (effSeg s.pfx m)
          (addrWrap s.pfx.asz (effOffset s m + BitVec.ofInt 32 (w.bytes * ((s.gpr w r).toInt / w.bits)))) w.bytes op.writes s =
            .ok sp s1) →
    readPlace w pl s1 = .ok v s2 →
    (match op with
      | .bt => s3 = s2
      | .bts => writePlace w pl (v ||| 1#w.bits <<< n) s2 = .ok () s3
      | .btr => writePlace w pl (v &&& ~~~(1#w.bits <<< n)) s2 = .ok () s3
      | .btc => writePlace w pl (v ^^^ 1#w.bits <<< n) s2 = .ok () s3) →
    ∃ st : Status, st.cf = v.getLsbD n ∧ st.zf = s.status.zf ∧ exec i s = .next ((s3.drawn 6).setStatus st)

/-- BSF and BSR complete when their source can be read: for a source that is not 0 the register takes the index of its lowest or highest 1 bit
and ZF is 0; for 0 the register is a draw and ZF is 1; the other flags are draws (R468, R469). BSWAP reverses the bytes of its register at
operand size 32 and leaves a drawn low half at 16 (R470). -/
def Obligations.BitScanAndByteSwapComplete : Prop :=
  (∀ (s s1 : State) (rm : RM) (r : Reg) (v : BitVec s.pfx.osz.width.bits),
    let w := s.pfx.osz.width
    s.allows .g386 false → readRM w s.pfx rm s = .ok v s1 →
    (v = 0#w.bits → ∀ i ∈ [Instr.bsfRRm rm r, Instr.bsrRRm rm r], ∃ (x : BitVec w.bits) (st : Status), st.zf = true ∧
      exec i s = .next (((s1.setGpr w r x).drawn 7).setStatus st)) ∧
    (∀ k < w.bits, v.getLsbD k = true → (∀ j < k, v.getLsbD j = false) → ∃ st : Status, st.zf = false ∧
      exec (.bsfRRm rm r) s = .next (((s1.setGpr w r (BitVec.ofNat w.bits k)).drawn 6).setStatus st)) ∧
    (∀ k < w.bits, v.getLsbD k = true → (∀ j, k < j → v.getLsbD j = false) → ∃ st : Status, st.zf = false ∧
      exec (.bsrRRm rm r) s = .next (((s1.setGpr w r (BitVec.ofNat w.bits k)).drawn 6).setStatus st))) ∧
  ∀ (s : State) (r : Reg), s.allows .g486 false →
    (s.pfx.osz = .w32 → exec (.bswapR32 r) s =
      .next (s.setGpr .b32 r (BitVec.ofNat 32 (leNat (leBytes 4 (s.gpr32 r).toNat).reverse)))) ∧
    (s.pfx.osz = .w16 → ∃ x : BitVec 16, exec (.bswapR32 r) s = .next ((s.setGpr .b16 r x).drawn 1))

/-- A string instruction without a repeat prefix completes when its elements can be accessed: MOVS copies the source element to ES:(E)DI, CMPS
and SCAS set the flags of the source or the accumulator minus the destination element, STOS stores the accumulator, LODS loads it, and the
index registers move by the element size, down when DF is 1 (R495 to R501). -/
def Obligations.StringElementCompletes : Prop :=
  ∀ (i : Instr) (s : State) (op : StringOp) (w : Width), stringParts s.pfx i = some (op, w) → s.allows .g386 false →
    s.pfx.rep = .none →
    let p := s.pfx
    let step := fun (r : Reg) (t : State) =>
      setAddrReg p.asz r (addrReg p.asz r s + (if s.flag .df then -BitVec.ofNat 32 w.bytes else BitVec.ofNat 32 w.bytes)) t
    let source := memReadBits w.bits (p.seg.getD .ds) (addrReg p.asz .esi s)
    let dest := memReadBits w.bits .es (addrReg p.asz .edi s)
    let acc := s.gpr w .eax
    match op with
    | .mov => ∀ v t u, source s = .ok v t → memWriteBits .es (addrReg p.asz .edi s) v t = .ok () u →
      exec i s = .next (step .edi (step .esi u))
    | .cmp => ∀ a b t u, source s = .ok a t → dest t = .ok b u →
      exec i s = .next (step .edi (step .esi (u.setStatus (flagsSub a b false))))
    | .sto => ∀ t, memWriteBits .es (addrReg p.asz .edi s) acc s = .ok () t → exec i s = .next (step .edi t)
    | .lod => ∀ v t, source s = .ok v t → exec i s = .next (step .esi (t.setGpr w .eax v))
    | .sca => ∀ b t, dest s = .ok b t → exec i s = .next (step .edi (t.setStatus (flagsSub acc b false)))

/-- A string instruction under a repeat prefix runs one element a step: a count of 0 does nothing; otherwise, when the element's accesses
succeed, the count goes down by one, and eip returns to the instruction's first byte unless the count reached 0 or a comparison's condition
ended the repetition: ZF = 0 under REPE, ZF = 1 under REPNE (R490 to R494). -/
def Obligations.StringRepetition : Prop :=
  ∀ (i : Instr) (s t : State) (op : StringOp) (w : Width), stringParts s.pfx i = some (op, w) → s.allows .g386 false →
    s.pfx.rep ≠ .none →
    let p := s.pfx
    let count := addrReg p.asz .ecx s
    (count = 0#32 → exec i s = .next s) ∧
    (count ≠ 0#32 → op.element w p s = .ok () t →
      let u := setAddrReg p.asz .ecx (count - 1#32) t
      let done := count = 1#32 ∨ (op.compares = true ∧ (t.flag .zf = true ↔ p.rep = .repne))
      (done → exec i s = .next u) ∧ (¬ done → exec i s = .next { u with eip := s.eipStart }))

/-- CMPXCHG completes when its destination can be read and written: the flags are those of the accumulator minus the destination; on equality
the destination takes the source, else it is written back and the accumulator takes it (R520, R522). XADD: the register takes the old
destination, then the destination the sum, with the flags of the addition (R523). CMPXCHG8B: where EDX:EAX equals the eight bytes ZF is set and
they take ECX:EBX, else ZF is cleared, they are written back and EDX:EAX takes them; no other flag changes (R524). -/
def Obligations.CompareExchangeCompletes : Prop :=
  (∀ (s s1 s2 s3 : State) (w : Width) (i : Instr) (rm : RM) (r : Reg) (pl : Place) (d : BitVec w.bits),
    (i = .cmpxchgRm8R8 rm r ∧ w = .b8) ∨ (i = .cmpxchgRmR rm r ∧ w = s.pfx.osz.width) → s.allows .g486 (isMem rm) →
    resolveRM w true s.pfx rm s = .ok pl s1 → readPlace w pl s1 = .ok d s2 →
    let acc := s.gpr w .eax
    let u := s2.setStatus (flagsSub acc d false)
    (acc = d → writePlace w pl (s.gpr w r) u = .ok () s3 → exec i s = .next s3) ∧
    (acc ≠ d → writePlace w pl d u = .ok () s3 → exec i s = .next (s3.setGpr w .eax d))) ∧
  (∀ (s s1 s2 s3 : State) (w : Width) (i : Instr) (rm : RM) (r : Reg) (pl : Place) (d : BitVec w.bits),
    (i = .xaddRm8R8 rm r ∧ w = .b8) ∨ (i = .xaddRmR rm r ∧ w = s.pfx.osz.width) → s.allows .g486 (isMem rm) →
    resolveRM w true s.pfx rm s = .ok pl s1 → readPlace w pl s1 = .ok d s2 →
    writePlace w pl (d + s.gpr w r) (s2.setGpr w r d) = .ok () s3 →
    exec i s = .next (s3.setStatus (flagsAdd d (s.gpr w r) false))) ∧
  ∀ (s s1 s2 s3 : State) (m : Mem) (sp : Span) (bs : List Byte), s.allows .g586 true →
    resolveMem (effSeg s.pfx m) (effOffset s m) 8 true s = .ok sp s1 → readSpan sp s1 = .ok bs s2 →
    let v := ofBytes 64 bs
    (s.gpr32 .edx ++ s.gpr32 .eax = v →
      writeSpan sp (toBytes (s.gpr32 .ecx ++ s.gpr32 .ebx)) { s2 with eflags := s.eflags ||| 0x40#32 } = .ok () s3 →
      exec (.cmpxchg8bM64 m) s = .next s3) ∧
    (s.gpr32 .edx ++ s.gpr32 .eax ≠ v → writeSpan sp (toBytes v) { s2 with eflags := s.eflags &&& ~~~0x40#32 } = .ok () s3 →
      exec (.cmpxchg8bM64 m) s =
        .next ((s3.setGpr .b32 .edx (v.extractLsb' 32 32)).setGpr .b32 .eax (v.extractLsb' 0 32)))

/-- MOV, MOVZX, MOVSX, LEA, XCHG, NOP, CBW, CWDE, CWD, CDQ and XLAT complete when their operands can be read and written; each moves its value
and changes no flag (R305 to R315, R323). -/
def Obligations.MovesComplete : Prop :=
  ∀ (s s1 s2 s3 : State), let p := s.pfx; let w := p.osz.width
    (∀ i w' dst src v, movParts p i = some (w', dst, src) → s.allows .g386 false → src.get w' p s = .ok v s1 →
      writeRM w' p dst v s1 = .ok () s2 → exec i s = .next s2) ∧
    (∀ off v, s.allows .g386 false → memReadBits 8 (p.seg.getD .ds) off s = .ok v s1 →
      exec (.movAlMoffs off) s = .next (s1.setGpr .b8 .eax v)) ∧
    (∀ off v, s.allows .g386 false → memReadBits w.bits (p.seg.getD .ds) off s = .ok v s1 →
      exec (.movEaxMoffs off) s = .next (s1.setGpr w .eax v)) ∧
    (∀ off, s.allows .g386 false → memWriteBits (p.seg.getD .ds) off (s.gpr .b8 .eax) s = .ok () s1 →
      exec (.movMoffsAl off) s = .next s1) ∧
    (∀ off, s.allows .g386 false → memWriteBits (p.seg.getD .ds) off (s.gpr w .eax) s = .ok () s1 →
      exec (.movMoffsEax off) s = .next s1) ∧
    (∀ i w' rm r pl a, xchgParts p i = some (w', rm, r) → s.allows .g386 (lockAllowed i) → resolveRM w' true p rm s = .ok pl s1 →
      readPlace w' pl s1 = .ok a s2 → writePlace w' pl (s.gpr w' r) s2 = .ok () s3 → exec i s = .next (s3.setGpr w' r a)) ∧
    (s.allows .g386 false → exec .nop s = .next s) ∧
    (∀ m r, s.allows .g386 false → exec (.leaRM m r) s = .next (s.setGpr w r ((effOffset s m).setWidth w.bits))) ∧
    (∀ i signed w' rm r v, extendParts i = some (signed, w', rm, r) → s.allows .g386 false → readRM w' p rm s = .ok v s1 →
      exec i s = .next (s1.setGpr w r (if signed then BitVec.ofInt w.bits v.toInt else BitVec.ofNat w.bits v.toNat))) ∧
    (s.allows .g386 false → exec .cbw s = .next (match p.osz with
      | .w16 => s.setGpr .b16 .eax (BitVec.ofInt 16 (s.gpr .b8 .eax).toInt)
      | .w32 => s.setGpr .b32 .eax (BitVec.ofInt 32 (s.gpr .b16 .eax).toInt))) ∧
    (s.allows .g386 false → exec .cwd s = .next (s.setGpr w .edx (if (s.gpr w .eax).toInt < 0 then BitVec.allOnes w.bits else 0#w.bits))) ∧
    (∀ v, s.allows .g386 false →
      memReadBits 8 (p.seg.getD .ds) (addrWrap p.asz (addrReg p.asz .ebx s + (s.gpr .b8 .eax).setWidth 32)) s = .ok v s1 →
      exec .xlat s = .next (s1.setGpr .b8 .eax v))

/-- PUSH and POP of opsize, PUSHA, POPA and LEAVE complete when the stack can be accessed: a push stores below the stack pointer and then moves
it, the pushed stack pointer being the old one; a pop reads at the stack pointer, moves it, and then writes its destination, whose address uses
the moved stack pointer (R302, R303, R316, R317, R319 to R322, R324). -/
def Obligations.StackInstructionsComplete : Prop :=
  ∀ (s s1 s2 : State), let w := s.pfx.osz.width; s.allows .g386 false →
    (∀ i src v, pushParts i = some src → src.get w s.pfx s = .ok v s1 →
      memWriteBits .ss (stackWrap s.stackBig (s.stackTop - BitVec.ofNat 32 w.bytes)) v s1 = .ok () s2 →
      exec i s = .next (s2.setStackTop (stackWrap s.stackBig (s.stackTop - BitVec.ofNat 32 w.bytes)))) ∧
    (∀ r v, memReadBits w.bits .ss s.stackTop s = .ok v s1 →
      exec (.popR r) s = .next ((s1.setStackTop (s.stackTop + BitVec.ofNat 32 w.bytes)).setGpr w r v)) ∧
    (∀ rm v, memReadBits w.bits .ss s.stackTop s = .ok v s1 →
      writeRM w s.pfx rm v (s1.setStackTop (s.stackTop + BitVec.ofNat 32 w.bytes)) = .ok () s2 → exec (.popRm rm) s = .next s2) ∧
    (pushEach ([Reg.eax, .ecx, .edx, .ebx, .esp, .ebp, .esi, .edi].map (s.gpr w)) s = .ok () s1 → exec .pusha s = .next s1) ∧
    (∀ di si bp sp bx dx cx ax t1 t2 t3 t4 t5 t6 t7 t8, pop w.bits s = .ok di t1 → pop w.bits (t1.setGpr w .edi di) = .ok si t2 →
      pop w.bits (t2.setGpr w .esi si) = .ok bp t3 → pop w.bits (t3.setGpr w .ebp bp) = .ok sp t4 → pop w.bits t4 = .ok bx t5 →
      pop w.bits (t5.setGpr w .ebx bx) = .ok dx t6 → pop w.bits (t6.setGpr w .edx dx) = .ok cx t7 →
      pop w.bits (t7.setGpr w .ecx cx) = .ok ax t8 → exec .popa s = .next (t8.setGpr w .eax ax)) ∧
    (∀ v, memReadBits w.bits .ss (stackWrap s.stackBig (s.gpr32 .ebp)) (s.setStackTop (s.gpr32 .ebp)) = .ok v s1 →
      exec .leave s =
        .next ((s1.setStackTop (stackWrap s.stackBig (s.gpr32 .ebp) + BitVec.ofNat 32 w.bytes)).setGpr w .ebp v))

/-- Jcc, relative JMP, LOOP, LOOPE, LOOPNE, JCXZ and JECXZ complete: the loops count down first; a branch not taken goes on; one taken goes to
the next instruction plus the displacement, cut to 16 bits at operand size 16, if that is within the CS limit, and raises #GP(0) with eip at
the instruction and the count restored if it is not (R550, R553 to R559). The sixteen conditions are those of spec/30_encoding.md R224. -/
def Obligations.RelativeBranchesComplete : Prop :=
  (∀ (cc : Cond) (v : Word),
    let cf := v.getLsbD 0; let pf := v.getLsbD 2; let zf := v.getLsbD 6; let sf := v.getLsbD 7; let of := v.getLsbD 11
    condHolds cc v = true ↔ match cc with
      | .o => of = true
      | .no => of = false
      | .b => cf = true
      | .ae => cf = false
      | .e => zf = true
      | .ne => zf = false
      | .be => cf = true ∨ zf = true
      | .a => cf = false ∧ zf = false
      | .s => sf = true
      | .ns => sf = false
      | .p => pf = true
      | .np => pf = false
      | .l => sf ≠ of
      | .ge => sf = of
      | .le => zf = true ∨ sf ≠ of
      | .g => zf = false ∧ sf = of) ∧
  ∀ (i : Instr) (s u : State) (taken : Bool) (rel : Word), branchParts s.pfx s i = some (u, taken, rel) → s.allows .g386 false →
    let target := if s.pfx.osz = .w16 then (s.eip + rel) &&& 0xFFFF#32 else s.eip + rel
    (taken = false → exec i s = .next u) ∧
    (taken = true → target.toNat ≤ s.segs.cs.limit.toNat → exec i s = .next { u with eip := target }) ∧
    (taken = true → s.segs.cs.limit.toNat < target.toNat →
      exec i s = .next (deliver 13#8 (some 0#32) .fault s.eipStart (rollback s s)))

/-- JMP r/m, near CALL and RET complete when their operands and the stack can be accessed and the target lies within the CS limit: CALL pushes
the next instruction's offset; RET pops its target and drops the immediate's bytes; a target beyond the limit raises #GP(0) (R550, R560 to
R563). -/
def Obligations.NearTransfersComplete : Prop :=
  ∀ (s s1 s2 : State), let p := s.pfx; let w := p.osz.width; let limit := s.segs.cs.limit.toNat
    let cut := fun v : Word => if p.osz = .w16 then v &&& 0xFFFF#32 else v
    let gp := fun t : State => Host.Outcome.next (deliver 13#8 (some 0#32) .fault s.eipStart (rollback s t))
    s.allows .g386 false →
    (∀ rm v, readRM w p rm s = .ok v s1 →
      ((v.setWidth 32).toNat ≤ limit → exec (.jmpRm rm) s = .next { s1 with eip := v.setWidth 32 }) ∧
      (limit < (v.setWidth 32).toNat → exec (.jmpRm rm) s = gp s1 ∧ exec (.callRm rm) s = gp s1) ∧
      ((v.setWidth 32).toNat ≤ limit → push (s.eip.setWidth w.bits) s1 = .ok () s2 →
        exec (.callRm rm) s = .next { s2 with eip := v.setWidth 32 })) ∧
    (∀ rel, let t := cut (s.eip + relSized p.osz rel)
      (limit < t.toNat → exec (.callRelz rel) s = gp s) ∧
      (t.toNat ≤ limit → push (s.eip.setWidth w.bits) s = .ok () s1 → exec (.callRelz rel) s = .next { s1 with eip := t })) ∧
    (∀ v, memReadBits w.bits .ss s.stackTop s = .ok v s1 →
      let u := s1.setStackTop (s.stackTop + BitVec.ofNat 32 w.bytes)
      ((v.setWidth 32).toNat ≤ limit → exec .ret s = .next { u with eip := v.setWidth 32 }) ∧
      (∀ imm : BitVec 16, (v.setWidth 32).toNat ≤ limit →
        exec (.retIw imm) s = .next { u.setStackTop (u.stackTop + imm.setWidth 32) with eip := v.setWidth 32 }) ∧
      (limit < (v.setWidth 32).toNat → exec .ret s = gp u ∧ ∀ imm, exec (.retIw imm) s = gp u))

/-- Far JMP, CALL, RETF and IRET complete in real mode when their pointers and the stack can be accessed and the new eip lies within the
limit of CS: CS takes the selector with base selector × 16 and keeps its limit and size; CALL pushes CS and then the next instruction's
offset; RETF pops eip, then CS, and drops the immediate's bytes; IRET pops eip, CS and the flags of its mask. A new eip beyond the limit raises
#GP(0) with the return offset at the instruction, for a CALL before any push, for RETF and IRET with the pops discarded (R550 to R552, R564 to
R569; spec/60_exceptions.md R700). -/
def Obligations.FarTransfersCompleteInRealMode : Prop :=
  ∀ (s s1 s2 s3 : State), let p := s.pfx; let w := p.osz.width
    let inLimit := fun v : Word => v.toNat ≤ s.segs.cs.limit.toNat
    let gp := fun t : State => Host.Outcome.next (deliver 13#8 (some 0#32) .fault s.eipStart (rollback s t))
    let cut := fun v : Word => if p.osz = .w16 then v &&& 0xFFFF#32 else v
    let goTo := fun (sel : Sel) (off : Word) (t : State) =>
      { t with
        segs := { t.segs with cs := { t.segs.cs with sel := sel, base := sel.setWidth 32 <<< 4, null := false } }
        eip := cut off }
    s.allows .g386 false → s.pe = false →
    (∀ i target off sel, farParts p i = some (.jmp, target) → target s = .ok (off, sel) s1 → inLimit (cut off) →
      exec i s = .next (goTo sel off s1)) ∧
    (∀ i target off sel, farParts p i = some (.call, target) → target s = .ok (off, sel) s1 → inLimit (cut off) →
      pushSel p.osz s.segs.cs.sel s1 = .ok () s2 → push (s.eip.setWidth w.bits) s2 = .ok () s3 → exec i s = .next (goTo sel off s3)) ∧
    (∀ off sel, popEach w.bits 2 s = .ok [off, sel] s1 → inLimit (off.setWidth 32) →
      exec .retf s = .next (goTo (sel.setWidth 16) (off.setWidth 32) s1) ∧
      ∀ imm : BitVec 16, exec (.retfIw imm) s =
        .next (let t := goTo (sel.setWidth 16) (off.setWidth 32) s1; t.setStackTop (t.stackTop + imm.setWidth 32))) ∧
    (∀ off sel fl, popEach w.bits 3 s = .ok [off, sel, fl] s1 → inLimit (off.setWidth 32) →
      exec .iret s = .next ((goTo (sel.setWidth 16) (off.setWidth 32) s1).setEflags (fl.setWidth 32)
        (if p.osz = .w16 then 0x7FD5#32 else 0x257FD5#32))) ∧
    (∀ i kind target off sel, farParts p i = some (kind, target) → target s = .ok (off, sel) s1 → ¬ inLimit (cut off) → exec i s = gp s1) ∧
    (∀ off sel, popEach w.bits 2 s = .ok [off, sel] s1 → ¬ inLimit (off.setWidth 32) →
      exec .retf s = gp s1 ∧ ∀ imm : BitVec 16, exec (.retfIw imm) s = gp s1) ∧
    (∀ off sel fl, popEach w.bits 3 s = .ok [off, sel, fl] s1 → ¬ inLimit (off.setWidth 32) → exec .iret s = gp s1)

/-- In protected mode a far JMP, CALL, RETF or IRET, and a load of a segment register, is what its parameter answers: its state or cache where it
answers one, a delivered fault where it answers a fault, and the sticky refusal where it refuses (R552, R568, R569, R640 to R643, R646, R647;
spec/00_scope.md R23, R24, R27). The model's own, where the rules are silent: RETF reads the stack top without moving the stack pointer
(notes/assumptions/17.md); POP Sreg asks with the stack pointer unmoved, and which answers count (7.md); a refusal leaves the registers of the
instruction's start (11.md) and holds the instruction's bytes (26.md). -/
def Obligations.ProtectedModeParametersDecide : Prop :=
  (∀ (s s1 : State), let p := s.pfx
    let outcome := fun (t : State) (why : Refusal) (a : PmAnswer) =>
      match a with
      | .ok u => u
      | .fault v err => deliver v err .fault s.eipStart (rollback s t)
      | .refuse => { rollback s t with refused := some why, outcome := .refused why }
    s.allows .g386 false → s.pe = true →
    (∀ i kind target off sel, farParts p i = some (kind, target) → target s = .ok (off, sel) s1 →
      exec i s = .next (outcome s1 (.pmFarTransfer sel off s.fetched) (pmFarTransfer kind p.osz sel off s1))) ∧
    (∀ s2 off sel, memReadBits p.osz.width.bits .ss s.stackTop s = .ok off s1 →
      memReadBits p.osz.width.bits .ss (stackWrap s.stackBig (s.stackTop + BitVec.ofNat 32 p.osz.bytes)) s1 = .ok sel s2 →
      let far := fun kind => pmFarTransfer kind p.osz (sel.setWidth 16) (off.setWidth 32) s2
      let why := Refusal.pmFarTransfer (sel.setWidth 16) (off.setWidth 32) s.fetched
      exec .retf s = .next (outcome s2 why (far .ret)) ∧ ∀ imm, exec (.retfIw imm) s = .next (outcome s2 why (far (.retfImm imm)))) ∧
    exec .iret s = .next (outcome s (.pmIret s.fetched) (pmIret p.osz s))) ∧
  ∀ (s s1 : State), let p := s.pfx; let w := p.osz.width
    let outcome := fun (t : State) (r : SegReg) (sel : Sel) (after : State → State) =>
      match pmLoadSeg r sel t with
      | .ok c => after (t.setSeg r c)
      | .fault v err => deliver v err .fault s.eipStart (rollback s t)
      | .refuse =>
        { rollback s t with refused := some (.pmLoadSeg r sel s.fetched), outcome := .refused (.pmLoadSeg r sel s.fetched) }
    let mark := fun (r : SegReg) (t : State) => if r = .ss then { t with shadow := .movss } else t
    s.allows .g386 false → s.pe = true →
    (∀ rm r v, readRM .b16 p rm s = .ok v s1 → exec (.movSregRm16 rm r) s = .next (outcome s1 r v (mark r))) ∧
    (∀ i r v, popSegParts i = some r → memReadBits w.bits .ss s.stackTop s = .ok v s1 →
      exec i s = .next (outcome s1 r (v.setWidth 16) fun t =>
        let moved := s1.setStackTop (s.stackTop + BitVec.ofNat 32 w.bytes)
        mark r { t with regs := moved.regs, written := moved.written })) ∧
    (∀ i m q r off sel, farLoadParts i = some (m, q, r) → readFarPointer p m s = .ok (off, sel) s1 →
      exec i s = .next (outcome s1 r sel fun t => t.setGpr w q (off.setWidth w.bits)))

/-- INT n, INT3 and, when OF is 1, INTO deliver their vector with the return offset of the next instruction; INTO with OF = 0 does nothing
(R570, R571; spec/60_exceptions.md R706, R712). That a delivery which fails or is refused leaves eip at the instruction's first byte is the
model's reading of R715 (notes/assumptions/13.md). -/
def Obligations.SoftwareInterruptsDeliver : Prop :=
  ∀ s : State, s.allows .g386 false →
    (∀ n, exec (.intIb n) s = .next (deliver n none .software s.eip { s with eip := s.eipStart })) ∧
    exec .int3 s = .next (deliver 3#8 none .software s.eip { s with eip := s.eipStart }) ∧
    (s.flag .of = true → exec .into s = .next (deliver 4#8 none .trap s.eip { s with eip := s.eipStart })) ∧
    (s.flag .of = false → exec .into s = .next s)

/-- The flag instructions complete: CLC, STC, CMC, CLD and STD write their flag; CLI and STI write IF where IOPL allows it, and STI from IF = 0
sets the one-instruction shadow; SAHF and LAHF move the low flags byte; SETcc stores 1 or 0; PUSHF stores the flags, VM and RF as 0 in the
32-bit form; POPF writes the flags its mode and privilege allow and clears RF in the 32-bit form (R615 to R623). -/
def Obligations.FlagInstructionsComplete : Prop :=
  ∀ (s s1 s2 : State), let p := s.pfx; let w := p.osz.width
    let allowed := s.pe = false ∨ s.cpl.toNat ≤ s.iopl.toNat
    let full : Word := if p.osz = .w16 then 0x7FD5#32 else 0x247FD5#32
    let mask := if s.pe = false ∨ s.cpl = 0#2 then full
      else if s.iopl.toNat < s.cpl.toNat then full &&& ~~~0x3200#32 else full &&& ~~~0x3000#32
    s.allows .g386 false →
    exec .clc s = .next { s with eflags := s.eflags &&& ~~~1#32 } ∧ exec .stc s = .next { s with eflags := s.eflags ||| 1#32 } ∧
    exec .cmc s = .next { s with eflags := s.eflags ^^^ 1#32 } ∧
    exec .cld s = .next { s with eflags := s.eflags &&& ~~~0x400#32 } ∧ exec .std s = .next { s with eflags := s.eflags ||| 0x400#32 } ∧
    (allowed → exec .cli s = .next { s with eflags := s.eflags &&& ~~~0x200#32 } ∧
      exec .sti s = .next { s with
        eflags := s.eflags ||| 0x200#32
        shadow := if s.flag .intr then s.shadow else .sti }) ∧
    (¬ allowed → ∀ i ∈ [Instr.cli, .sti], exec i s = .next (deliver 13#8 (some 0#32) .fault s.eipStart (rollback s s))) ∧
    exec .sahf s = .next (s.setEflags ((s.gpr .b8 .esp).setWidth 32) 0xD5#32) ∧
    exec .lahf s = .next (s.setGpr .b8 .esp (s.eflags.extractLsb' 0 8)) ∧
    (∀ cc rm, writeRM .b8 p rm (if condHolds cc s.eflags then 1#8 else 0#8) s = .ok () s1 → exec (.setccRm8 cc rm) s = .next s1) ∧
    (push ((s.eflags &&& 0x00FCFFFF#32).setWidth w.bits) s = .ok () s1 → exec .pushf s = .next s1) ∧
    (∀ v, pop w.bits s = .ok v s2 → exec .popf s = .next
      (let t := s2.setEflags (v.setWidth 32) mask
       if p.osz = .w16 then t else { t with eflags := t.eflags &&& ~~~0x10000#32 }))

/-- The segment instructions complete in real mode when their operands can be accessed: the register takes the selector with base selector × 16
and keeps its limit and size; MOV SS and POP SS set the shadow; POP moves the stack pointer; LDS to LGS load the register and the general
register (R640 to R643, R646, R647). -/
def Obligations.SegmentInstructionsCompleteInRealMode : Prop :=
  ∀ (s s1 : State), let p := s.pfx; let w := p.osz.width
    let load := fun (r : SegReg) (sel : Sel) (t : State) =>
      t.setSeg r { t.seg r with sel := sel, base := sel.setWidth 32 <<< 4, null := false }
    let mark := fun (r : SegReg) (t : State) => if r = .ss then { t with shadow := .movss } else t
    s.allows .g386 false → s.pe = false →
    (∀ rm r v, readRM .b16 p rm s = .ok v s1 → exec (.movSregRm16 rm r) s = .next (mark r (load r v s1))) ∧
    (∀ i r v, popSegParts i = some r → memReadBits w.bits .ss s.stackTop s = .ok v s1 →
      exec i s = .next (mark r (load r (v.setWidth 16) (s1.setStackTop (s.stackTop + BitVec.ofNat 32 w.bytes))))) ∧
    (∀ i m q r off sel, farLoadParts i = some (m, q, r) → readFarPointer p m s = .ok (off, sel) s1 →
      exec i s = .next ((load r sel s1).setGpr w q (off.setWidth w.bits)))

/-- The segment stores complete in every mode when their destination can be written: MOV r/m, Sreg stores the selector, in a 32-bit register
with a free upper half; PUSH Sreg stores it in a slot of opsize, whose upper half is 0 or unchanged (R551, R644, R645); SMSW stores the low half of CR0
as MOV Sreg does (spec/49_system.md R677). -/
def Obligations.SelectorStoresComplete : Prop :=
  ∀ (s s1 : State), let p := s.pfx
    s.allows .g386 false →
    (∀ i rm v, (∃ r, i = .movRm16Sreg rm r ∧ v = (s.seg r).sel) ∨ (i = .smswRm16 rm ∧ v = s.cr0.extractLsb' 0 16) →
      (∀ q, rm = .reg q → p.osz = .w16 → exec i s = .next (s.setGpr .b16 q v)) ∧
      (∀ q, rm = .reg q → p.osz = .w32 → ∃ hi : BitVec 16, exec i s = .next ((s.setGpr .b32 q (hi ++ v)).drawn 1)) ∧
      (∀ m, rm = .mem m → writeRM .b16 p rm v s = .ok () s1 → exec i s = .next s1)) ∧
    (∀ i r, pushSegParts i = some r →
      (p.osz = .w16 → push (s.seg r).sel s = .ok () s1 → exec i s = .next s1) ∧
      (p.osz = .w32 → ∀ off sp t u, off = stackWrap s.stackBig (s.stackTop - 4#32) → resolveMem .ss off 4 true s = .ok sp t →
        writeSpan sp (toBytes ((s.seg r).sel.setWidth 32)) (t.drawn 1) = .ok () s1 →
        writeSpan (lowTwo sp) (toBytes (s.seg r).sel) (t.drawn 1) = .ok () u →
        exec i s = .next (s1.setStackTop off) ∨ exec i s = .next (u.setStackTop off)))

/-- The system instructions complete in real mode and at CPL 0. MOV CR0 writes the bits that exist, empties the TLB where PG changes, and
raises #GP(0) for PG without PE and, from the 486 on, for NW without CD; MOV CR3, INVLPG empty the TLB; MOV CR2 and the reads move the register;
LMSW replaces MP, EM and TS and can only set PE; CLTS clears TS; HLT halts; INVD and WBINVD change nothing (R670 to R680). -/
def Obligations.SystemInstructionsComplete : Prop :=
  ∀ (s s1 : State), s.allows .g386 false → s.pe = false ∨ s.cpl = 0#2 →
    (∀ r, let v := s.gpr32 r
      let bad := (v.getLsbD 31 = true ∧ v.getLsbD 0 = false) ∨ (s.cfg.gen ≠ .g386 ∧ v.getLsbD 29 = true ∧ v.getLsbD 30 = false)
      let new := cr0Of s.cfg.gen v
      (bad → exec (.movCr0R32 r) s = .next (deliver 13#8 (some 0#32) .fault s.eipStart (rollback s s))) ∧
      (¬ bad → exec (.movCr0R32 r) s = .next (if v.getLsbD 31 = s.pg then { s with cr0 := new }
        else { s with cr0 := new, tlbR := [], tlbW := [] }))) ∧
    (∀ r, exec (.movCr3R32 r) s = .next { s with cr3 := s.gpr32 r, tlbR := [], tlbW := [] }) ∧
    (∀ r, exec (.movCr2R32 r) s = .next { s with cr2 := s.gpr32 r }) ∧
    (∀ r, exec (.movR32Cr0 r) s = .next (s.setGpr .b32 r s.cr0)) ∧
    (∀ r, exec (.movR32Cr2 r) s = .next (s.setGpr .b32 r s.cr2)) ∧
    (∀ r, exec (.movR32Cr3 r) s = .next (s.setGpr .b32 r s.cr3)) ∧
    (∀ rm v, readRM .b16 s.pfx rm s = .ok v s1 → exec (.lmswRm16 rm) s =
      .next { s1 with cr0 := (s.cr0 &&& 0xFFFFFFF1#32) ||| (v.setWidth 32 &&& 0xF#32) }) ∧
    exec .clts s = .next { s with cr0 := s.cr0 &&& ~~~0x8#32 } ∧ exec .hlt s = .next { s with halted := true } ∧
    (s.cfg.gen ≠ .g386 → (∀ m, exec (.invlpgM m) s = .next { s with tlbR := [], tlbW := [] }) ∧ exec .invd s = .next s ∧
      exec .wbinvd s = .next s)

/-! Traps. -/

/-- LOCK before an instruction that does not allow it, or before one whose destination is a register, raises #UD with the return offset at the
instruction and nothing changed; UD2 always does; so does an instruction of a later generation (R208, R221, R681; spec/60_exceptions.md R700,
R702). -/
def Obligations.UndefinedInstructionTraps : Prop :=
  ∀ (i : Instr) (s : State),
    (s.pfx.lock = true ∧ lockAllowed i = false) ∨ s.cfg.gen.num < (firstGen i).num ∨ i = .ud2 →
    exec i s = .next (deliver 6#8 none .fault s.eipStart (rollback s s))

/-- In protected mode with CPL other than 0 the privileged instructions raise #GP(0) with the return offset at the instruction, before any
operand is accessed (R682; R670 to R680). -/
def Obligations.PrivilegedInstructionTraps : Prop :=
  ∀ (s : State) (r : Reg) (rm : RM) (m : Mem), s.pe = true → s.cpl ≠ 0#2 →
    ∀ i ∈ [Instr.movCr0R32 r, .movCr2R32 r, .movCr3R32 r, .movR32Cr0 r, .movR32Cr2 r, .movR32Cr3 r, .lmswRm16 rm, .invlpgM m, .clts, .invd,
      .wbinvd, .hlt],
      s.allows (firstGen i) false → exec i s = .next (deliver 13#8 (some 0#32) .fault s.eipStart (rollback s s))

/-- A guest fault of an operand ends the instruction: it is delivered with its error code and the return offset at the instruction, from the
registers the instruction began with, whatever part of it had run. Stated of the destination and the source of the ALU instructions and TEST, of
the operand of INC, DEC, NOT, NEG, the shifts, MUL, one-operand IMUL, DIV and IDIV, of both operands of the moves, and of the source and the
store of the pushes (R700, R703, R704). -/
def Obligations.OperandFaultsAreDelivered : Prop :=
  ∀ (i : Instr) (s t : State) (v : Byte) (err : Option Word),
    (∀ x, aluParts s.pfx i = some x → s.allows .g386 (x.op.writes && isMem x.dst) →
      resolveRM x.w x.op.writes s.pfx x.dst s = .error (.fault v err) t →
      exec i s = .next (deliver v err .fault s.eipStart (rollback s t))) ∧
    (∀ x s1 s2 pl a, aluParts s.pfx i = some x → s.allows .g386 (x.op.writes && isMem x.dst) →
      resolveRM x.w x.op.writes s.pfx x.dst s = .ok pl s1 → readPlace x.w pl s1 = .ok a s2 → x.src.get x.w s.pfx s2 = .error (.fault v err) t →
      exec i s = .next (deliver v err .fault s.eipStart (rollback s t))) ∧
    (∀ w dst src, testParts s.pfx i = some (w, dst, src) → s.allows .g386 false →
      readRM w s.pfx dst s = .error (.fault v err) t ∨
        (∃ a s1, readRM w s.pfx dst s = .ok a s1 ∧ src.get w s.pfx s1 = .error (.fault v err) t) →
      exec i s = .next (deliver v err .fault s.eipStart (rollback s t))) ∧
    (∀ op w rm, unaryParts s.pfx i = some (op, w, rm) → s.allows .g386 (lockAllowed i) →
      resolveRM w true s.pfx rm s = .error (.fault v err) t → exec i s = .next (deliver v err .fault s.eipStart (rollback s t))) ∧
    (∀ op w rm count, shiftParts s.pfx i = some (op, w, rm, count) → s.allows .g386 false →
      resolveRM w true s.pfx rm s = .error (.fault v err) t → exec i s = .next (deliver v err .fault s.eipStart (rollback s t))) ∧
    (∀ signed w rm, mulParts s.pfx i = some (signed, w, rm) ∨ divParts s.pfx i = some (signed, w, rm) → s.allows .g386 false →
      readRM w s.pfx rm s = .error (.fault v err) t → exec i s = .next (deliver v err .fault s.eipStart (rollback s t))) ∧
    (∀ src, pushParts i = some src → s.allows .g386 false → src.get s.pfx.osz.width s.pfx s = .error (.fault v err) t →
      exec i s = .next (deliver v err .fault s.eipStart (rollback s t))) ∧
    (∀ w dst src a u, movParts s.pfx i = some (w, dst, src) → s.allows .g386 false → src.get w s.pfx s = .ok a u →
      writeRM w s.pfx dst a u = .error (.fault v err) t → exec i s = .next (deliver v err .fault s.eipStart (rollback s t))) ∧
    (∀ w dst src, movParts s.pfx i = some (w, dst, src) → s.allows .g386 false → src.get w s.pfx s = .error (.fault v err) t →
      exec i s = .next (deliver v err .fault s.eipStart (rollback s t))) ∧
    ∀ src a u, pushParts i = some src → s.allows .g386 false → src.get s.pfx.osz.width s.pfx s = .ok a u →
      push a u = .error (.fault v err) t → exec i s = .next (deliver v err .fault s.eipStart (rollback s t))

/-! Frames. They speak of an instruction that delivered no event; what a delivery writes is stated above. -/

/-- An instruction that delivers no event writes no flag outside its mask, under no supplied protected-mode parameter: every instruction of the
opcode table (R37; the Flags lines of spec/40 to spec/49). -/
def Obligations.FlagsFrame : Prop :=
  ∀ (i : Instr) (s t : State), s.wf = true → s.pmRefuses → exec i s = .next t → sameDeliveries s t →
    t.eflags &&& ~~~flagMask i = s.eflags &&& ~~~flagMask i

/-- An instruction that delivers no event writes no general register beside its destinations: every instruction of the opcode table, a string
instruction's count register under a repeat prefix alone (R30 to R32). -/
def Obligations.RegistersFrame : Prop :=
  ∀ (i : Instr) (s t : State), s.pmRefuses → exec i s = .next t → sameDeliveries s t →
    (∀ r : Reg, r ∉ regsWritten i → t.gpr32 r = s.gpr32 r) ∧
    ((stringParts s.pfx i).isSome = true → s.pfx.rep = .none → t.gpr32 .ecx = s.gpr32 .ecx) ∧
    s.written &&& ~~~t.written = 0#32

/-- An instruction that delivers no event loads no segment register beside the ones it names, changes CR0 only as MOV CR0, LMSW or CLTS, CR3
only as MOV CR3, and, with paging off, CR2 only as MOV CR2; only HLT halts; only STI, MOV SS and POP SS set a shadow; no instruction that is
not a control transfer or a repeated string instruction moves eip; and none touches eip_start, the prefix state, the bytes fetched, the outcome
recorded or the interrupt line (R36, R40, R44 to R46, R55). -/
def Obligations.ControlFrame : Prop :=
  ∀ (i : Instr) (s t : State), s.pmRefuses → exec i s = .next t → t.unmarked = true → sameDeliveries s t →
    (∀ r : SegReg, r ∉ segsWritten i → t.seg r = s.seg r) ∧
    ((∀ r rm, i ≠ .movCr0R32 r ∧ i ≠ .lmswRm16 rm ∧ i ≠ .clts) → t.cr0 = s.cr0) ∧
    ((∀ r, i ≠ .movCr3R32 r) → t.cr3 = s.cr3) ∧
    (s.pg = false → (∀ r, i ≠ .movCr2R32 r) → t.cr2 = s.cr2) ∧
    (i ≠ .hlt → t.halted = s.halted) ∧
    (i ≠ .sti → i ≠ .popSs → (∀ rm, i ≠ .movSregRm16 rm .ss) → t.shadow = s.shadow) ∧
    (isTransfer i = false → (stringParts s.pfx i = none ∨ s.pfx.rep = .none) → t.eip = s.eip) ∧
    t.eipStart = s.eipStart ∧ t.prefixes = s.prefixes ∧ t.fetched = s.fetched ∧ t.outcome = s.outcome ∧ t.intr = s.intr

/-- With paging off, an instruction or form that stores nothing leaves every byte of memory: every instruction of the opcode table but the
stores, and the register forms of those (R101). -/
def Obligations.NoStoreKeepsMemory : Prop :=
  ∀ (i : Instr) (s t : State), s.pmRefuses → s.pg = false → modrmStore s.pfx i = none → storesElsewhere i = false → exec i s = .next t →
    sameDeliveries s t → t.mem = s.mem

/-- An instruction that stores through its ModRM memory operand leaves every byte outside the bytes of that operand as the translation of the
operand left it, and with paging off as it was: the operand's bytes are those the effective offset of R212 to R216 resolves to. -/
def Obligations.ModrmStoreFrame : Prop :=
  ∀ (i : Instr) (s s1 t : State) (n : Nat) (m : Mem) (sp : Span), modrmStore s.pfx i = some (n, m) →
    resolveMem (effSeg s.pfx m) (effOffset s m) n true s = .ok sp s1 → exec i s = .next t → sameDeliveries s t →
    (∀ b : Nat, b ∉ spanBytes sp → memByte t.mem b = memByte s1.mem b) ∧ (s.pg = false → s1.mem = s.mem)

/-- With paging off, the instructions that store to a direct offset, a string element, the stack, POP's destination after the pop, or the unit of
a selected bit leave every byte outside the stored ones: each stored address is computed as its meaning computes it (R302, R308, R320, R461,
R495, R551). A far CALL stores two stack slots in real mode, and nothing in protected mode where PM_FAR_TRANSFER refuses (R552). -/
def Obligations.OtherStoresFrame : Prop :=
  ∀ (i : Instr) (s t : State), let p := s.pfx; let w := p.osz.width
    let keeps := fun (slots : List (SegReg × Word × Nat)) =>
      ∀ b : Nat, (∀ x ∈ slots, ∀ sp u, resolveMem x.1 x.2.1 x.2.2 true s = .ok sp u → b ∉ spanBytes sp) → memByte t.mem b = memByte s.mem b
    let slot := fun k : Nat => (SegReg.ss, stackWrap s.stackBig (s.stackTop - BitVec.ofNat 32 (k * w.bytes)), w.bytes)
    s.pg = false → exec i s = .next t → sameDeliveries s t →
    (∀ off, i = .movMoffsAl off → keeps [(p.seg.getD .ds, off, 1)]) ∧
    (∀ off, i = .movMoffsEax off → keeps [(p.seg.getD .ds, off, w.bytes)]) ∧
    (i ∈ [Instr.movsb, .stosb] → keeps [(.es, addrReg p.asz .edi s, 1)]) ∧
    (i ∈ [Instr.movsw, .stosw] → keeps [(.es, addrReg p.asz .edi s, w.bytes)]) ∧
    ((pushParts i).isSome = true ∨ (pushSegParts i).isSome = true ∨ i = .pushf ∨ (∃ rel, i = .callRelz rel) ∨ (∃ rm, i = .callRm rm) →
      keeps [slot 1]) ∧
    (i = .pusha → keeps [slot 1, slot 2, slot 3, slot 4, slot 5, slot 6, slot 7, slot 8]) ∧
    (s.pe = false → (∃ target, farParts p i = some (.call, target)) → keeps [slot 1, slot 2]) ∧
    (s.pe = true → s.cfg.pmFarTransfer = .refuse → (∃ target, farParts p i = some (.call, target)) → keeps []) ∧
    (∀ m, i = .popRm (.mem m) →
      let u := s.setStackTop (s.stackTop + BitVec.ofNat 32 w.bytes)
      keeps [(effSeg p m, effOffset u m, w.bytes)]) ∧
    ∀ op m r, bitParts i = some (op, .mem m, .inl r) →
      keeps [(effSeg p m, addrWrap p.asz (effOffset s m + BitVec.ofInt 32 (w.bytes * ((s.gpr w r).toInt / w.bits))), w.bytes)]

end
end

