-- ==== Sys2Proof/Laws/State.lean ====
section
/-! SUPPORT. What each update of the state leaves alone: one lemma per field per update, and what it writes. -/

namespace Sys2Proof.Machine

@[simp] theorem State.setGpr_cfg (s : State) (w : Width) (r : Reg) (v : BitVec w.bits) : (s.setGpr w r v).cfg = s.cfg := rfl
@[simp] theorem State.setGpr_eip (s : State) (w : Width) (r : Reg) (v : BitVec w.bits) : (s.setGpr w r v).eip = s.eip := rfl
@[simp] theorem State.setGpr_eipStart (s : State) (w : Width) (r : Reg) (v : BitVec w.bits) : (s.setGpr w r v).eipStart = s.eipStart := rfl
@[simp] theorem State.setGpr_eflags (s : State) (w : Width) (r : Reg) (v : BitVec w.bits) : (s.setGpr w r v).eflags = s.eflags := rfl
@[simp] theorem State.setGpr_segs (s : State) (w : Width) (r : Reg) (v : BitVec w.bits) : (s.setGpr w r v).segs = s.segs := rfl
@[simp] theorem State.setGpr_cr0 (s : State) (w : Width) (r : Reg) (v : BitVec w.bits) : (s.setGpr w r v).cr0 = s.cr0 := rfl
@[simp] theorem State.setGpr_cr2 (s : State) (w : Width) (r : Reg) (v : BitVec w.bits) : (s.setGpr w r v).cr2 = s.cr2 := rfl
@[simp] theorem State.setGpr_cr3 (s : State) (w : Width) (r : Reg) (v : BitVec w.bits) : (s.setGpr w r v).cr3 = s.cr3 := rfl
@[simp] theorem State.setGpr_cpl (s : State) (w : Width) (r : Reg) (v : BitVec w.bits) : (s.setGpr w r v).cpl = s.cpl := rfl
@[simp] theorem State.setGpr_tlbR (s : State) (w : Width) (r : Reg) (v : BitVec w.bits) : (s.setGpr w r v).tlbR = s.tlbR := rfl
@[simp] theorem State.setGpr_tlbW (s : State) (w : Width) (r : Reg) (v : BitVec w.bits) : (s.setGpr w r v).tlbW = s.tlbW := rfl
@[simp] theorem State.setGpr_fmap (s : State) (w : Width) (r : Reg) (v : BitVec w.bits) : (s.setGpr w r v).fmap = s.fmap := rfl
@[simp] theorem State.setGpr_handlers (s : State) (w : Width) (r : Reg) (v : BitVec w.bits) : (s.setGpr w r v).handlers = s.handlers := rfl
@[simp] theorem State.setGpr_caps (s : State) (w : Width) (r : Reg) (v : BitVec w.bits) : (s.setGpr w r v).caps = s.caps := rfl
@[simp] theorem State.setGpr_mem (s : State) (w : Width) (r : Reg) (v : BitVec w.bits) : (s.setGpr w r v).mem = s.mem := rfl
@[simp] theorem State.setGpr_halted (s : State) (w : Width) (r : Reg) (v : BitVec w.bits) : (s.setGpr w r v).halted = s.halted := rfl
@[simp] theorem State.setGpr_shadow (s : State) (w : Width) (r : Reg) (v : BitVec w.bits) : (s.setGpr w r v).shadow = s.shadow := rfl
@[simp] theorem State.setGpr_refused (s : State) (w : Width) (r : Reg) (v : BitVec w.bits) : (s.setGpr w r v).refused = s.refused := rfl
@[simp] theorem State.setGpr_faulted (s : State) (w : Width) (r : Reg) (v : BitVec w.bits) : (s.setGpr w r v).faulted = s.faulted := rfl
@[simp] theorem State.setGpr_prefixes (s : State) (w : Width) (r : Reg) (v : BitVec w.bits) : (s.setGpr w r v).prefixes = s.prefixes := rfl
@[simp] theorem State.setGpr_fetched (s : State) (w : Width) (r : Reg) (v : BitVec w.bits) : (s.setGpr w r v).fetched = s.fetched := rfl
@[simp] theorem State.setGpr_outcome (s : State) (w : Width) (r : Reg) (v : BitVec w.bits) : (s.setGpr w r v).outcome = s.outcome := rfl
@[simp] theorem State.setGpr_history (s : State) (w : Width) (r : Reg) (v : BitVec w.bits) : (s.setGpr w r v).history = s.history := rfl
@[simp] theorem State.setGpr_intr (s : State) (w : Width) (r : Reg) (v : BitVec w.bits) : (s.setGpr w r v).intr = s.intr := rfl
@[simp] theorem State.setGpr_draws (s : State) (w : Width) (r : Reg) (v : BitVec w.bits) : (s.setGpr w r v).draws = s.draws := rfl

@[simp] theorem State.setSeg_cfg (s : State) (r : SegReg) (c : SegCache) : (s.setSeg r c).cfg = s.cfg := rfl
@[simp] theorem State.setSeg_regs (s : State) (r : SegReg) (c : SegCache) : (s.setSeg r c).regs = s.regs := rfl
@[simp] theorem State.setSeg_written (s : State) (r : SegReg) (c : SegCache) : (s.setSeg r c).written = s.written := rfl
@[simp] theorem State.setSeg_eip (s : State) (r : SegReg) (c : SegCache) : (s.setSeg r c).eip = s.eip := rfl
@[simp] theorem State.setSeg_eipStart (s : State) (r : SegReg) (c : SegCache) : (s.setSeg r c).eipStart = s.eipStart := rfl
@[simp] theorem State.setSeg_eflags (s : State) (r : SegReg) (c : SegCache) : (s.setSeg r c).eflags = s.eflags := rfl
@[simp] theorem State.setSeg_cr0 (s : State) (r : SegReg) (c : SegCache) : (s.setSeg r c).cr0 = s.cr0 := rfl
@[simp] theorem State.setSeg_cr2 (s : State) (r : SegReg) (c : SegCache) : (s.setSeg r c).cr2 = s.cr2 := rfl
@[simp] theorem State.setSeg_cr3 (s : State) (r : SegReg) (c : SegCache) : (s.setSeg r c).cr3 = s.cr3 := rfl
@[simp] theorem State.setSeg_cpl (s : State) (r : SegReg) (c : SegCache) : (s.setSeg r c).cpl = s.cpl := rfl
@[simp] theorem State.setSeg_tlbR (s : State) (r : SegReg) (c : SegCache) : (s.setSeg r c).tlbR = s.tlbR := rfl
@[simp] theorem State.setSeg_tlbW (s : State) (r : SegReg) (c : SegCache) : (s.setSeg r c).tlbW = s.tlbW := rfl
@[simp] theorem State.setSeg_fmap (s : State) (r : SegReg) (c : SegCache) : (s.setSeg r c).fmap = s.fmap := rfl
@[simp] theorem State.setSeg_handlers (s : State) (r : SegReg) (c : SegCache) : (s.setSeg r c).handlers = s.handlers := rfl
@[simp] theorem State.setSeg_caps (s : State) (r : SegReg) (c : SegCache) : (s.setSeg r c).caps = s.caps := rfl
@[simp] theorem State.setSeg_mem (s : State) (r : SegReg) (c : SegCache) : (s.setSeg r c).mem = s.mem := rfl
@[simp] theorem State.setSeg_halted (s : State) (r : SegReg) (c : SegCache) : (s.setSeg r c).halted = s.halted := rfl
@[simp] theorem State.setSeg_shadow (s : State) (r : SegReg) (c : SegCache) : (s.setSeg r c).shadow = s.shadow := rfl
@[simp] theorem State.setSeg_refused (s : State) (r : SegReg) (c : SegCache) : (s.setSeg r c).refused = s.refused := rfl
@[simp] theorem State.setSeg_faulted (s : State) (r : SegReg) (c : SegCache) : (s.setSeg r c).faulted = s.faulted := rfl
@[simp] theorem State.setSeg_prefixes (s : State) (r : SegReg) (c : SegCache) : (s.setSeg r c).prefixes = s.prefixes := rfl
@[simp] theorem State.setSeg_fetched (s : State) (r : SegReg) (c : SegCache) : (s.setSeg r c).fetched = s.fetched := rfl
@[simp] theorem State.setSeg_outcome (s : State) (r : SegReg) (c : SegCache) : (s.setSeg r c).outcome = s.outcome := rfl
@[simp] theorem State.setSeg_history (s : State) (r : SegReg) (c : SegCache) : (s.setSeg r c).history = s.history := rfl
@[simp] theorem State.setSeg_intr (s : State) (r : SegReg) (c : SegCache) : (s.setSeg r c).intr = s.intr := rfl
@[simp] theorem State.setSeg_draws (s : State) (r : SegReg) (c : SegCache) : (s.setSeg r c).draws = s.draws := rfl

@[simp] theorem State.setFlag_cfg (s : State) (f : Flag) (b : Bool) : (s.setFlag f b).cfg = s.cfg := rfl
@[simp] theorem State.setFlag_regs (s : State) (f : Flag) (b : Bool) : (s.setFlag f b).regs = s.regs := rfl
@[simp] theorem State.setFlag_written (s : State) (f : Flag) (b : Bool) : (s.setFlag f b).written = s.written := rfl
@[simp] theorem State.setFlag_eip (s : State) (f : Flag) (b : Bool) : (s.setFlag f b).eip = s.eip := rfl
@[simp] theorem State.setFlag_eipStart (s : State) (f : Flag) (b : Bool) : (s.setFlag f b).eipStart = s.eipStart := rfl
@[simp] theorem State.setFlag_segs (s : State) (f : Flag) (b : Bool) : (s.setFlag f b).segs = s.segs := rfl
@[simp] theorem State.setFlag_cr0 (s : State) (f : Flag) (b : Bool) : (s.setFlag f b).cr0 = s.cr0 := rfl
@[simp] theorem State.setFlag_cr2 (s : State) (f : Flag) (b : Bool) : (s.setFlag f b).cr2 = s.cr2 := rfl
@[simp] theorem State.setFlag_cr3 (s : State) (f : Flag) (b : Bool) : (s.setFlag f b).cr3 = s.cr3 := rfl
@[simp] theorem State.setFlag_cpl (s : State) (f : Flag) (b : Bool) : (s.setFlag f b).cpl = s.cpl := rfl
@[simp] theorem State.setFlag_tlbR (s : State) (f : Flag) (b : Bool) : (s.setFlag f b).tlbR = s.tlbR := rfl
@[simp] theorem State.setFlag_tlbW (s : State) (f : Flag) (b : Bool) : (s.setFlag f b).tlbW = s.tlbW := rfl
@[simp] theorem State.setFlag_fmap (s : State) (f : Flag) (b : Bool) : (s.setFlag f b).fmap = s.fmap := rfl
@[simp] theorem State.setFlag_handlers (s : State) (f : Flag) (b : Bool) : (s.setFlag f b).handlers = s.handlers := rfl
@[simp] theorem State.setFlag_caps (s : State) (f : Flag) (b : Bool) : (s.setFlag f b).caps = s.caps := rfl
@[simp] theorem State.setFlag_mem (s : State) (f : Flag) (b : Bool) : (s.setFlag f b).mem = s.mem := rfl
@[simp] theorem State.setFlag_halted (s : State) (f : Flag) (b : Bool) : (s.setFlag f b).halted = s.halted := rfl
@[simp] theorem State.setFlag_shadow (s : State) (f : Flag) (b : Bool) : (s.setFlag f b).shadow = s.shadow := rfl
@[simp] theorem State.setFlag_refused (s : State) (f : Flag) (b : Bool) : (s.setFlag f b).refused = s.refused := rfl
@[simp] theorem State.setFlag_faulted (s : State) (f : Flag) (b : Bool) : (s.setFlag f b).faulted = s.faulted := rfl
@[simp] theorem State.setFlag_prefixes (s : State) (f : Flag) (b : Bool) : (s.setFlag f b).prefixes = s.prefixes := rfl
@[simp] theorem State.setFlag_fetched (s : State) (f : Flag) (b : Bool) : (s.setFlag f b).fetched = s.fetched := rfl
@[simp] theorem State.setFlag_outcome (s : State) (f : Flag) (b : Bool) : (s.setFlag f b).outcome = s.outcome := rfl
@[simp] theorem State.setFlag_history (s : State) (f : Flag) (b : Bool) : (s.setFlag f b).history = s.history := rfl
@[simp] theorem State.setFlag_intr (s : State) (f : Flag) (b : Bool) : (s.setFlag f b).intr = s.intr := rfl
@[simp] theorem State.setFlag_draws (s : State) (f : Flag) (b : Bool) : (s.setFlag f b).draws = s.draws := rfl

@[simp] theorem State.setStatus_cfg (s : State) (st : Status) : (s.setStatus st).cfg = s.cfg := rfl
@[simp] theorem State.setStatus_regs (s : State) (st : Status) : (s.setStatus st).regs = s.regs := rfl
@[simp] theorem State.setStatus_written (s : State) (st : Status) : (s.setStatus st).written = s.written := rfl
@[simp] theorem State.setStatus_eip (s : State) (st : Status) : (s.setStatus st).eip = s.eip := rfl
@[simp] theorem State.setStatus_eipStart (s : State) (st : Status) : (s.setStatus st).eipStart = s.eipStart := rfl
@[simp] theorem State.setStatus_segs (s : State) (st : Status) : (s.setStatus st).segs = s.segs := rfl
@[simp] theorem State.setStatus_cr0 (s : State) (st : Status) : (s.setStatus st).cr0 = s.cr0 := rfl
@[simp] theorem State.setStatus_cr2 (s : State) (st : Status) : (s.setStatus st).cr2 = s.cr2 := rfl
@[simp] theorem State.setStatus_cr3 (s : State) (st : Status) : (s.setStatus st).cr3 = s.cr3 := rfl
@[simp] theorem State.setStatus_cpl (s : State) (st : Status) : (s.setStatus st).cpl = s.cpl := rfl
@[simp] theorem State.setStatus_tlbR (s : State) (st : Status) : (s.setStatus st).tlbR = s.tlbR := rfl
@[simp] theorem State.setStatus_tlbW (s : State) (st : Status) : (s.setStatus st).tlbW = s.tlbW := rfl
@[simp] theorem State.setStatus_fmap (s : State) (st : Status) : (s.setStatus st).fmap = s.fmap := rfl
@[simp] theorem State.setStatus_handlers (s : State) (st : Status) : (s.setStatus st).handlers = s.handlers := rfl
@[simp] theorem State.setStatus_caps (s : State) (st : Status) : (s.setStatus st).caps = s.caps := rfl
@[simp] theorem State.setStatus_mem (s : State) (st : Status) : (s.setStatus st).mem = s.mem := rfl
@[simp] theorem State.setStatus_halted (s : State) (st : Status) : (s.setStatus st).halted = s.halted := rfl
@[simp] theorem State.setStatus_shadow (s : State) (st : Status) : (s.setStatus st).shadow = s.shadow := rfl
@[simp] theorem State.setStatus_refused (s : State) (st : Status) : (s.setStatus st).refused = s.refused := rfl
@[simp] theorem State.setStatus_faulted (s : State) (st : Status) : (s.setStatus st).faulted = s.faulted := rfl
@[simp] theorem State.setStatus_prefixes (s : State) (st : Status) : (s.setStatus st).prefixes = s.prefixes := rfl
@[simp] theorem State.setStatus_fetched (s : State) (st : Status) : (s.setStatus st).fetched = s.fetched := rfl
@[simp] theorem State.setStatus_outcome (s : State) (st : Status) : (s.setStatus st).outcome = s.outcome := rfl
@[simp] theorem State.setStatus_history (s : State) (st : Status) : (s.setStatus st).history = s.history := rfl
@[simp] theorem State.setStatus_intr (s : State) (st : Status) : (s.setStatus st).intr = s.intr := rfl
@[simp] theorem State.setStatus_draws (s : State) (st : Status) : (s.setStatus st).draws = s.draws := rfl

@[simp] theorem State.setEflags_cfg (s : State) (v m : Word) : (s.setEflags v m).cfg = s.cfg := rfl
@[simp] theorem State.setEflags_regs (s : State) (v m : Word) : (s.setEflags v m).regs = s.regs := rfl
@[simp] theorem State.setEflags_written (s : State) (v m : Word) : (s.setEflags v m).written = s.written := rfl
@[simp] theorem State.setEflags_eip (s : State) (v m : Word) : (s.setEflags v m).eip = s.eip := rfl
@[simp] theorem State.setEflags_eipStart (s : State) (v m : Word) : (s.setEflags v m).eipStart = s.eipStart := rfl
@[simp] theorem State.setEflags_segs (s : State) (v m : Word) : (s.setEflags v m).segs = s.segs := rfl
@[simp] theorem State.setEflags_cr0 (s : State) (v m : Word) : (s.setEflags v m).cr0 = s.cr0 := rfl
@[simp] theorem State.setEflags_cr2 (s : State) (v m : Word) : (s.setEflags v m).cr2 = s.cr2 := rfl
@[simp] theorem State.setEflags_cr3 (s : State) (v m : Word) : (s.setEflags v m).cr3 = s.cr3 := rfl
@[simp] theorem State.setEflags_cpl (s : State) (v m : Word) : (s.setEflags v m).cpl = s.cpl := rfl
@[simp] theorem State.setEflags_tlbR (s : State) (v m : Word) : (s.setEflags v m).tlbR = s.tlbR := rfl
@[simp] theorem State.setEflags_tlbW (s : State) (v m : Word) : (s.setEflags v m).tlbW = s.tlbW := rfl
@[simp] theorem State.setEflags_fmap (s : State) (v m : Word) : (s.setEflags v m).fmap = s.fmap := rfl
@[simp] theorem State.setEflags_handlers (s : State) (v m : Word) : (s.setEflags v m).handlers = s.handlers := rfl
@[simp] theorem State.setEflags_caps (s : State) (v m : Word) : (s.setEflags v m).caps = s.caps := rfl
@[simp] theorem State.setEflags_mem (s : State) (v m : Word) : (s.setEflags v m).mem = s.mem := rfl
@[simp] theorem State.setEflags_halted (s : State) (v m : Word) : (s.setEflags v m).halted = s.halted := rfl
@[simp] theorem State.setEflags_shadow (s : State) (v m : Word) : (s.setEflags v m).shadow = s.shadow := rfl
@[simp] theorem State.setEflags_refused (s : State) (v m : Word) : (s.setEflags v m).refused = s.refused := rfl
@[simp] theorem State.setEflags_faulted (s : State) (v m : Word) : (s.setEflags v m).faulted = s.faulted := rfl
@[simp] theorem State.setEflags_prefixes (s : State) (v m : Word) : (s.setEflags v m).prefixes = s.prefixes := rfl
@[simp] theorem State.setEflags_fetched (s : State) (v m : Word) : (s.setEflags v m).fetched = s.fetched := rfl
@[simp] theorem State.setEflags_outcome (s : State) (v m : Word) : (s.setEflags v m).outcome = s.outcome := rfl
@[simp] theorem State.setEflags_history (s : State) (v m : Word) : (s.setEflags v m).history = s.history := rfl
@[simp] theorem State.setEflags_intr (s : State) (v m : Word) : (s.setEflags v m).intr = s.intr := rfl
@[simp] theorem State.setEflags_draws (s : State) (v m : Word) : (s.setEflags v m).draws = s.draws := rfl

@[simp] theorem State.record_cfg (s : State) (e : Event) : (s.record e).cfg = s.cfg := rfl
@[simp] theorem State.record_regs (s : State) (e : Event) : (s.record e).regs = s.regs := rfl
@[simp] theorem State.record_written (s : State) (e : Event) : (s.record e).written = s.written := rfl
@[simp] theorem State.record_eip (s : State) (e : Event) : (s.record e).eip = s.eip := rfl
@[simp] theorem State.record_eipStart (s : State) (e : Event) : (s.record e).eipStart = s.eipStart := rfl
@[simp] theorem State.record_eflags (s : State) (e : Event) : (s.record e).eflags = s.eflags := rfl
@[simp] theorem State.record_segs (s : State) (e : Event) : (s.record e).segs = s.segs := rfl
@[simp] theorem State.record_cr0 (s : State) (e : Event) : (s.record e).cr0 = s.cr0 := rfl
@[simp] theorem State.record_cr2 (s : State) (e : Event) : (s.record e).cr2 = s.cr2 := rfl
@[simp] theorem State.record_cr3 (s : State) (e : Event) : (s.record e).cr3 = s.cr3 := rfl
@[simp] theorem State.record_cpl (s : State) (e : Event) : (s.record e).cpl = s.cpl := rfl
@[simp] theorem State.record_tlbR (s : State) (e : Event) : (s.record e).tlbR = s.tlbR := rfl
@[simp] theorem State.record_tlbW (s : State) (e : Event) : (s.record e).tlbW = s.tlbW := rfl
@[simp] theorem State.record_fmap (s : State) (e : Event) : (s.record e).fmap = s.fmap := rfl
@[simp] theorem State.record_handlers (s : State) (e : Event) : (s.record e).handlers = s.handlers := rfl
@[simp] theorem State.record_caps (s : State) (e : Event) : (s.record e).caps = s.caps := rfl
@[simp] theorem State.record_mem (s : State) (e : Event) : (s.record e).mem = s.mem := rfl
@[simp] theorem State.record_halted (s : State) (e : Event) : (s.record e).halted = s.halted := rfl
@[simp] theorem State.record_shadow (s : State) (e : Event) : (s.record e).shadow = s.shadow := rfl
@[simp] theorem State.record_refused (s : State) (e : Event) : (s.record e).refused = s.refused := rfl
@[simp] theorem State.record_faulted (s : State) (e : Event) : (s.record e).faulted = s.faulted := rfl
@[simp] theorem State.record_prefixes (s : State) (e : Event) : (s.record e).prefixes = s.prefixes := rfl
@[simp] theorem State.record_fetched (s : State) (e : Event) : (s.record e).fetched = s.fetched := rfl
@[simp] theorem State.record_outcome (s : State) (e : Event) : (s.record e).outcome = s.outcome := rfl
@[simp] theorem State.record_intr (s : State) (e : Event) : (s.record e).intr = s.intr := rfl
@[simp] theorem State.record_draws (s : State) (e : Event) : (s.record e).draws = s.draws := rfl

@[simp] theorem State.clearTlb_cfg (s : State) : (s.clearTlb).cfg = s.cfg := rfl
@[simp] theorem State.clearTlb_regs (s : State) : (s.clearTlb).regs = s.regs := rfl
@[simp] theorem State.clearTlb_written (s : State) : (s.clearTlb).written = s.written := rfl
@[simp] theorem State.clearTlb_eip (s : State) : (s.clearTlb).eip = s.eip := rfl
@[simp] theorem State.clearTlb_eipStart (s : State) : (s.clearTlb).eipStart = s.eipStart := rfl
@[simp] theorem State.clearTlb_eflags (s : State) : (s.clearTlb).eflags = s.eflags := rfl
@[simp] theorem State.clearTlb_segs (s : State) : (s.clearTlb).segs = s.segs := rfl
@[simp] theorem State.clearTlb_cr0 (s : State) : (s.clearTlb).cr0 = s.cr0 := rfl
@[simp] theorem State.clearTlb_cr2 (s : State) : (s.clearTlb).cr2 = s.cr2 := rfl
@[simp] theorem State.clearTlb_cr3 (s : State) : (s.clearTlb).cr3 = s.cr3 := rfl
@[simp] theorem State.clearTlb_cpl (s : State) : (s.clearTlb).cpl = s.cpl := rfl
@[simp] theorem State.clearTlb_fmap (s : State) : (s.clearTlb).fmap = s.fmap := rfl
@[simp] theorem State.clearTlb_handlers (s : State) : (s.clearTlb).handlers = s.handlers := rfl
@[simp] theorem State.clearTlb_caps (s : State) : (s.clearTlb).caps = s.caps := rfl
@[simp] theorem State.clearTlb_mem (s : State) : (s.clearTlb).mem = s.mem := rfl
@[simp] theorem State.clearTlb_halted (s : State) : (s.clearTlb).halted = s.halted := rfl
@[simp] theorem State.clearTlb_shadow (s : State) : (s.clearTlb).shadow = s.shadow := rfl
@[simp] theorem State.clearTlb_refused (s : State) : (s.clearTlb).refused = s.refused := rfl
@[simp] theorem State.clearTlb_faulted (s : State) : (s.clearTlb).faulted = s.faulted := rfl
@[simp] theorem State.clearTlb_prefixes (s : State) : (s.clearTlb).prefixes = s.prefixes := rfl
@[simp] theorem State.clearTlb_fetched (s : State) : (s.clearTlb).fetched = s.fetched := rfl
@[simp] theorem State.clearTlb_outcome (s : State) : (s.clearTlb).outcome = s.outcome := rfl
@[simp] theorem State.clearTlb_history (s : State) : (s.clearTlb).history = s.history := rfl
@[simp] theorem State.clearTlb_intr (s : State) : (s.clearTlb).intr = s.intr := rfl
@[simp] theorem State.clearTlb_draws (s : State) : (s.clearTlb).draws = s.draws := rfl

@[simp] theorem State.setStackTop_cfg (s : State) (v : Word) : (s.setStackTop v).cfg = s.cfg := by unfold State.setStackTop; split <;> rfl
@[simp] theorem State.setStackTop_eip (s : State) (v : Word) : (s.setStackTop v).eip = s.eip := by unfold State.setStackTop; split <;> rfl
@[simp] theorem State.setStackTop_eipStart (s : State) (v : Word) : (s.setStackTop v).eipStart = s.eipStart := by unfold State.setStackTop; split <;> rfl
@[simp] theorem State.setStackTop_eflags (s : State) (v : Word) : (s.setStackTop v).eflags = s.eflags := by unfold State.setStackTop; split <;> rfl
@[simp] theorem State.setStackTop_segs (s : State) (v : Word) : (s.setStackTop v).segs = s.segs := by unfold State.setStackTop; split <;> rfl
@[simp] theorem State.setStackTop_cr0 (s : State) (v : Word) : (s.setStackTop v).cr0 = s.cr0 := by unfold State.setStackTop; split <;> rfl
@[simp] theorem State.setStackTop_cr2 (s : State) (v : Word) : (s.setStackTop v).cr2 = s.cr2 := by unfold State.setStackTop; split <;> rfl
@[simp] theorem State.setStackTop_cr3 (s : State) (v : Word) : (s.setStackTop v).cr3 = s.cr3 := by unfold State.setStackTop; split <;> rfl
@[simp] theorem State.setStackTop_cpl (s : State) (v : Word) : (s.setStackTop v).cpl = s.cpl := by unfold State.setStackTop; split <;> rfl
@[simp] theorem State.setStackTop_tlbR (s : State) (v : Word) : (s.setStackTop v).tlbR = s.tlbR := by unfold State.setStackTop; split <;> rfl
@[simp] theorem State.setStackTop_tlbW (s : State) (v : Word) : (s.setStackTop v).tlbW = s.tlbW := by unfold State.setStackTop; split <;> rfl
@[simp] theorem State.setStackTop_fmap (s : State) (v : Word) : (s.setStackTop v).fmap = s.fmap := by unfold State.setStackTop; split <;> rfl
@[simp] theorem State.setStackTop_handlers (s : State) (v : Word) : (s.setStackTop v).handlers = s.handlers := by unfold State.setStackTop; split <;> rfl
@[simp] theorem State.setStackTop_caps (s : State) (v : Word) : (s.setStackTop v).caps = s.caps := by unfold State.setStackTop; split <;> rfl
@[simp] theorem State.setStackTop_mem (s : State) (v : Word) : (s.setStackTop v).mem = s.mem := by unfold State.setStackTop; split <;> rfl
@[simp] theorem State.setStackTop_halted (s : State) (v : Word) : (s.setStackTop v).halted = s.halted := by unfold State.setStackTop; split <;> rfl
@[simp] theorem State.setStackTop_shadow (s : State) (v : Word) : (s.setStackTop v).shadow = s.shadow := by unfold State.setStackTop; split <;> rfl
@[simp] theorem State.setStackTop_refused (s : State) (v : Word) : (s.setStackTop v).refused = s.refused := by unfold State.setStackTop; split <;> rfl
@[simp] theorem State.setStackTop_faulted (s : State) (v : Word) : (s.setStackTop v).faulted = s.faulted := by unfold State.setStackTop; split <;> rfl
@[simp] theorem State.setStackTop_prefixes (s : State) (v : Word) : (s.setStackTop v).prefixes = s.prefixes := by unfold State.setStackTop; split <;> rfl
@[simp] theorem State.setStackTop_fetched (s : State) (v : Word) : (s.setStackTop v).fetched = s.fetched := by unfold State.setStackTop; split <;> rfl
@[simp] theorem State.setStackTop_outcome (s : State) (v : Word) : (s.setStackTop v).outcome = s.outcome := by unfold State.setStackTop; split <;> rfl
@[simp] theorem State.setStackTop_history (s : State) (v : Word) : (s.setStackTop v).history = s.history := by unfold State.setStackTop; split <;> rfl
@[simp] theorem State.setStackTop_intr (s : State) (v : Word) : (s.setStackTop v).intr = s.intr := by unfold State.setStackTop; split <;> rfl
@[simp] theorem State.setStackTop_draws (s : State) (v : Word) : (s.setStackTop v).draws = s.draws := by unfold State.setStackTop; split <;> rfl

@[simp] theorem State.dropStack_cfg (s : State) (v : Word) : (s.dropStack v).cfg = s.cfg := by simp [State.dropStack]
@[simp] theorem State.dropStack_eip (s : State) (v : Word) : (s.dropStack v).eip = s.eip := by simp [State.dropStack]
@[simp] theorem State.dropStack_eipStart (s : State) (v : Word) : (s.dropStack v).eipStart = s.eipStart := by simp [State.dropStack]
@[simp] theorem State.dropStack_eflags (s : State) (v : Word) : (s.dropStack v).eflags = s.eflags := by simp [State.dropStack]
@[simp] theorem State.dropStack_segs (s : State) (v : Word) : (s.dropStack v).segs = s.segs := by simp [State.dropStack]
@[simp] theorem State.dropStack_cr0 (s : State) (v : Word) : (s.dropStack v).cr0 = s.cr0 := by simp [State.dropStack]
@[simp] theorem State.dropStack_cr2 (s : State) (v : Word) : (s.dropStack v).cr2 = s.cr2 := by simp [State.dropStack]
@[simp] theorem State.dropStack_cr3 (s : State) (v : Word) : (s.dropStack v).cr3 = s.cr3 := by simp [State.dropStack]
@[simp] theorem State.dropStack_cpl (s : State) (v : Word) : (s.dropStack v).cpl = s.cpl := by simp [State.dropStack]
@[simp] theorem State.dropStack_tlbR (s : State) (v : Word) : (s.dropStack v).tlbR = s.tlbR := by simp [State.dropStack]
@[simp] theorem State.dropStack_tlbW (s : State) (v : Word) : (s.dropStack v).tlbW = s.tlbW := by simp [State.dropStack]
@[simp] theorem State.dropStack_fmap (s : State) (v : Word) : (s.dropStack v).fmap = s.fmap := by simp [State.dropStack]
@[simp] theorem State.dropStack_handlers (s : State) (v : Word) : (s.dropStack v).handlers = s.handlers := by simp [State.dropStack]
@[simp] theorem State.dropStack_caps (s : State) (v : Word) : (s.dropStack v).caps = s.caps := by simp [State.dropStack]
@[simp] theorem State.dropStack_mem (s : State) (v : Word) : (s.dropStack v).mem = s.mem := by simp [State.dropStack]
@[simp] theorem State.dropStack_halted (s : State) (v : Word) : (s.dropStack v).halted = s.halted := by simp [State.dropStack]
@[simp] theorem State.dropStack_shadow (s : State) (v : Word) : (s.dropStack v).shadow = s.shadow := by simp [State.dropStack]
@[simp] theorem State.dropStack_refused (s : State) (v : Word) : (s.dropStack v).refused = s.refused := by simp [State.dropStack]
@[simp] theorem State.dropStack_faulted (s : State) (v : Word) : (s.dropStack v).faulted = s.faulted := by simp [State.dropStack]
@[simp] theorem State.dropStack_prefixes (s : State) (v : Word) : (s.dropStack v).prefixes = s.prefixes := by simp [State.dropStack]
@[simp] theorem State.dropStack_fetched (s : State) (v : Word) : (s.dropStack v).fetched = s.fetched := by simp [State.dropStack]
@[simp] theorem State.dropStack_outcome (s : State) (v : Word) : (s.dropStack v).outcome = s.outcome := by simp [State.dropStack]
@[simp] theorem State.dropStack_history (s : State) (v : Word) : (s.dropStack v).history = s.history := by simp [State.dropStack]
@[simp] theorem State.dropStack_intr (s : State) (v : Word) : (s.dropStack v).intr = s.intr := by simp [State.dropStack]
@[simp] theorem State.dropStack_draws (s : State) (v : Word) : (s.dropStack v).draws = s.draws := by simp [State.dropStack]

@[simp] theorem State.endFault_cfg (s : State) (f : Fault) : (s.endFault f).cfg = s.cfg := rfl
@[simp] theorem State.endFault_regs (s : State) (f : Fault) : (s.endFault f).regs = s.regs := rfl
@[simp] theorem State.endFault_written (s : State) (f : Fault) : (s.endFault f).written = s.written := rfl
@[simp] theorem State.endFault_eip (s : State) (f : Fault) : (s.endFault f).eip = s.eip := rfl
@[simp] theorem State.endFault_eipStart (s : State) (f : Fault) : (s.endFault f).eipStart = s.eipStart := rfl
@[simp] theorem State.endFault_eflags (s : State) (f : Fault) : (s.endFault f).eflags = s.eflags := rfl
@[simp] theorem State.endFault_segs (s : State) (f : Fault) : (s.endFault f).segs = s.segs := rfl
@[simp] theorem State.endFault_cr0 (s : State) (f : Fault) : (s.endFault f).cr0 = s.cr0 := rfl
@[simp] theorem State.endFault_cr2 (s : State) (f : Fault) : (s.endFault f).cr2 = s.cr2 := rfl
@[simp] theorem State.endFault_cr3 (s : State) (f : Fault) : (s.endFault f).cr3 = s.cr3 := rfl
@[simp] theorem State.endFault_cpl (s : State) (f : Fault) : (s.endFault f).cpl = s.cpl := rfl
@[simp] theorem State.endFault_tlbR (s : State) (f : Fault) : (s.endFault f).tlbR = s.tlbR := rfl
@[simp] theorem State.endFault_tlbW (s : State) (f : Fault) : (s.endFault f).tlbW = s.tlbW := rfl
@[simp] theorem State.endFault_fmap (s : State) (f : Fault) : (s.endFault f).fmap = s.fmap := rfl
@[simp] theorem State.endFault_handlers (s : State) (f : Fault) : (s.endFault f).handlers = s.handlers := rfl
@[simp] theorem State.endFault_caps (s : State) (f : Fault) : (s.endFault f).caps = s.caps := rfl
@[simp] theorem State.endFault_mem (s : State) (f : Fault) : (s.endFault f).mem = s.mem := rfl
@[simp] theorem State.endFault_halted (s : State) (f : Fault) : (s.endFault f).halted = s.halted := rfl
@[simp] theorem State.endFault_shadow (s : State) (f : Fault) : (s.endFault f).shadow = s.shadow := rfl
@[simp] theorem State.endFault_refused (s : State) (f : Fault) : (s.endFault f).refused = s.refused := rfl
@[simp] theorem State.endFault_prefixes (s : State) (f : Fault) : (s.endFault f).prefixes = s.prefixes := rfl
@[simp] theorem State.endFault_fetched (s : State) (f : Fault) : (s.endFault f).fetched = s.fetched := rfl
@[simp] theorem State.endFault_history (s : State) (f : Fault) : (s.endFault f).history = s.history := rfl
@[simp] theorem State.endFault_intr (s : State) (f : Fault) : (s.endFault f).intr = s.intr := rfl
@[simp] theorem State.endFault_draws (s : State) (f : Fault) : (s.endFault f).draws = s.draws := rfl

@[simp] theorem State.endRefused_cfg (s : State) (r : Refusal) : (s.endRefused r).cfg = s.cfg := rfl
@[simp] theorem State.endRefused_regs (s : State) (r : Refusal) : (s.endRefused r).regs = s.regs := rfl
@[simp] theorem State.endRefused_written (s : State) (r : Refusal) : (s.endRefused r).written = s.written := rfl
@[simp] theorem State.endRefused_eip (s : State) (r : Refusal) : (s.endRefused r).eip = s.eip := rfl
@[simp] theorem State.endRefused_eipStart (s : State) (r : Refusal) : (s.endRefused r).eipStart = s.eipStart := rfl
@[simp] theorem State.endRefused_eflags (s : State) (r : Refusal) : (s.endRefused r).eflags = s.eflags := rfl
@[simp] theorem State.endRefused_segs (s : State) (r : Refusal) : (s.endRefused r).segs = s.segs := rfl
@[simp] theorem State.endRefused_cr0 (s : State) (r : Refusal) : (s.endRefused r).cr0 = s.cr0 := rfl
@[simp] theorem State.endRefused_cr2 (s : State) (r : Refusal) : (s.endRefused r).cr2 = s.cr2 := rfl
@[simp] theorem State.endRefused_cr3 (s : State) (r : Refusal) : (s.endRefused r).cr3 = s.cr3 := rfl
@[simp] theorem State.endRefused_cpl (s : State) (r : Refusal) : (s.endRefused r).cpl = s.cpl := rfl
@[simp] theorem State.endRefused_tlbR (s : State) (r : Refusal) : (s.endRefused r).tlbR = s.tlbR := rfl
@[simp] theorem State.endRefused_tlbW (s : State) (r : Refusal) : (s.endRefused r).tlbW = s.tlbW := rfl
@[simp] theorem State.endRefused_fmap (s : State) (r : Refusal) : (s.endRefused r).fmap = s.fmap := rfl
@[simp] theorem State.endRefused_handlers (s : State) (r : Refusal) : (s.endRefused r).handlers = s.handlers := rfl
@[simp] theorem State.endRefused_caps (s : State) (r : Refusal) : (s.endRefused r).caps = s.caps := rfl
@[simp] theorem State.endRefused_mem (s : State) (r : Refusal) : (s.endRefused r).mem = s.mem := rfl
@[simp] theorem State.endRefused_halted (s : State) (r : Refusal) : (s.endRefused r).halted = s.halted := rfl
@[simp] theorem State.endRefused_shadow (s : State) (r : Refusal) : (s.endRefused r).shadow = s.shadow := rfl
@[simp] theorem State.endRefused_faulted (s : State) (r : Refusal) : (s.endRefused r).faulted = s.faulted := rfl
@[simp] theorem State.endRefused_prefixes (s : State) (r : Refusal) : (s.endRefused r).prefixes = s.prefixes := rfl
@[simp] theorem State.endRefused_fetched (s : State) (r : Refusal) : (s.endRefused r).fetched = s.fetched := rfl
@[simp] theorem State.endRefused_history (s : State) (r : Refusal) : (s.endRefused r).history = s.history := rfl
@[simp] theorem State.endRefused_intr (s : State) (r : Refusal) : (s.endRefused r).intr = s.intr := rfl
@[simp] theorem State.endRefused_draws (s : State) (r : Refusal) : (s.endRefused r).draws = s.draws := rfl

@[simp] theorem State.afterDelivery_cfg (s : State) (o : StepOutcome) : (s.afterDelivery o).cfg = s.cfg := rfl
@[simp] theorem State.afterDelivery_regs (s : State) (o : StepOutcome) : (s.afterDelivery o).regs = s.regs := rfl
@[simp] theorem State.afterDelivery_written (s : State) (o : StepOutcome) : (s.afterDelivery o).written = s.written := rfl
@[simp] theorem State.afterDelivery_eip (s : State) (o : StepOutcome) : (s.afterDelivery o).eip = s.eip := rfl
@[simp] theorem State.afterDelivery_eipStart (s : State) (o : StepOutcome) : (s.afterDelivery o).eipStart = s.eipStart := rfl
@[simp] theorem State.afterDelivery_eflags (s : State) (o : StepOutcome) : (s.afterDelivery o).eflags = s.eflags := rfl
@[simp] theorem State.afterDelivery_segs (s : State) (o : StepOutcome) : (s.afterDelivery o).segs = s.segs := rfl
@[simp] theorem State.afterDelivery_cr0 (s : State) (o : StepOutcome) : (s.afterDelivery o).cr0 = s.cr0 := rfl
@[simp] theorem State.afterDelivery_cr2 (s : State) (o : StepOutcome) : (s.afterDelivery o).cr2 = s.cr2 := rfl
@[simp] theorem State.afterDelivery_cr3 (s : State) (o : StepOutcome) : (s.afterDelivery o).cr3 = s.cr3 := rfl
@[simp] theorem State.afterDelivery_cpl (s : State) (o : StepOutcome) : (s.afterDelivery o).cpl = s.cpl := rfl
@[simp] theorem State.afterDelivery_tlbR (s : State) (o : StepOutcome) : (s.afterDelivery o).tlbR = s.tlbR := rfl
@[simp] theorem State.afterDelivery_tlbW (s : State) (o : StepOutcome) : (s.afterDelivery o).tlbW = s.tlbW := rfl
@[simp] theorem State.afterDelivery_fmap (s : State) (o : StepOutcome) : (s.afterDelivery o).fmap = s.fmap := rfl
@[simp] theorem State.afterDelivery_handlers (s : State) (o : StepOutcome) : (s.afterDelivery o).handlers = s.handlers := rfl
@[simp] theorem State.afterDelivery_caps (s : State) (o : StepOutcome) : (s.afterDelivery o).caps = s.caps := rfl
@[simp] theorem State.afterDelivery_mem (s : State) (o : StepOutcome) : (s.afterDelivery o).mem = s.mem := rfl
@[simp] theorem State.afterDelivery_refused (s : State) (o : StepOutcome) : (s.afterDelivery o).refused = s.refused := rfl
@[simp] theorem State.afterDelivery_faulted (s : State) (o : StepOutcome) : (s.afterDelivery o).faulted = s.faulted := rfl
@[simp] theorem State.afterDelivery_prefixes (s : State) (o : StepOutcome) : (s.afterDelivery o).prefixes = s.prefixes := rfl
@[simp] theorem State.afterDelivery_fetched (s : State) (o : StepOutcome) : (s.afterDelivery o).fetched = s.fetched := rfl
@[simp] theorem State.afterDelivery_history (s : State) (o : StepOutcome) : (s.afterDelivery o).history = s.history := rfl
@[simp] theorem State.afterDelivery_intr (s : State) (o : StepOutcome) : (s.afterDelivery o).intr = s.intr := rfl
@[simp] theorem State.afterDelivery_draws (s : State) (o : StepOutcome) : (s.afterDelivery o).draws = s.draws := rfl

@[simp] theorem State.evicted_cfg (s : State) : (s.evicted).cfg = s.cfg := by unfold State.evicted; split <;> rfl
@[simp] theorem State.evicted_regs (s : State) : (s.evicted).regs = s.regs := by unfold State.evicted; split <;> rfl
@[simp] theorem State.evicted_written (s : State) : (s.evicted).written = s.written := by unfold State.evicted; split <;> rfl
@[simp] theorem State.evicted_eip (s : State) : (s.evicted).eip = s.eip := by unfold State.evicted; split <;> rfl
@[simp] theorem State.evicted_eipStart (s : State) : (s.evicted).eipStart = s.eipStart := by unfold State.evicted; split <;> rfl
@[simp] theorem State.evicted_eflags (s : State) : (s.evicted).eflags = s.eflags := by unfold State.evicted; split <;> rfl
@[simp] theorem State.evicted_segs (s : State) : (s.evicted).segs = s.segs := by unfold State.evicted; split <;> rfl
@[simp] theorem State.evicted_cr0 (s : State) : (s.evicted).cr0 = s.cr0 := by unfold State.evicted; split <;> rfl
@[simp] theorem State.evicted_cr2 (s : State) : (s.evicted).cr2 = s.cr2 := by unfold State.evicted; split <;> rfl
@[simp] theorem State.evicted_cr3 (s : State) : (s.evicted).cr3 = s.cr3 := by unfold State.evicted; split <;> rfl
@[simp] theorem State.evicted_cpl (s : State) : (s.evicted).cpl = s.cpl := by unfold State.evicted; split <;> rfl
@[simp] theorem State.evicted_fmap (s : State) : (s.evicted).fmap = s.fmap := by unfold State.evicted; split <;> rfl
@[simp] theorem State.evicted_handlers (s : State) : (s.evicted).handlers = s.handlers := by unfold State.evicted; split <;> rfl
@[simp] theorem State.evicted_caps (s : State) : (s.evicted).caps = s.caps := by unfold State.evicted; split <;> rfl
@[simp] theorem State.evicted_mem (s : State) : (s.evicted).mem = s.mem := by unfold State.evicted; split <;> rfl
@[simp] theorem State.evicted_halted (s : State) : (s.evicted).halted = s.halted := by unfold State.evicted; split <;> rfl
@[simp] theorem State.evicted_shadow (s : State) : (s.evicted).shadow = s.shadow := by unfold State.evicted; split <;> rfl
@[simp] theorem State.evicted_refused (s : State) : (s.evicted).refused = s.refused := by unfold State.evicted; split <;> rfl
@[simp] theorem State.evicted_faulted (s : State) : (s.evicted).faulted = s.faulted := by unfold State.evicted; split <;> rfl
@[simp] theorem State.evicted_prefixes (s : State) : (s.evicted).prefixes = s.prefixes := by unfold State.evicted; split <;> rfl
@[simp] theorem State.evicted_fetched (s : State) : (s.evicted).fetched = s.fetched := by unfold State.evicted; split <;> rfl
@[simp] theorem State.evicted_outcome (s : State) : (s.evicted).outcome = s.outcome := by unfold State.evicted; split <;> rfl
@[simp] theorem State.evicted_history (s : State) : (s.evicted).history = s.history := by unfold State.evicted; split <;> rfl
@[simp] theorem State.evicted_intr (s : State) : (s.evicted).intr = s.intr := by unfold State.evicted; split <;> rfl

@[simp] theorem State.setGpr_regs (s : State) (w : Width) (r : Reg) (v : BitVec w.bits) : (s.setGpr w r v).regs = s.regs.setW w r v := rfl
@[simp] theorem State.setGpr_written (s : State) (w : Width) (r : Reg) (v : BitVec w.bits) :
    (s.setGpr w r v).written = s.written ||| writtenMask w r := rfl
@[simp] theorem State.setSeg_segs (s : State) (r : SegReg) (c : SegCache) : (s.setSeg r c).segs = s.segs.set r c := rfl
@[simp] theorem State.setFlag_eflags (s : State) (f : Flag) (b : Bool) : (s.setFlag f b).eflags = putFlag s.eflags f b := rfl
@[simp] theorem State.setStatus_eflags (s : State) (st : Status) : (s.setStatus st).eflags = st.put s.eflags := rfl
@[simp] theorem State.setEflags_eflags (s : State) (v m : Word) : (s.setEflags v m).eflags = mergeFlags s.cfg.gen s.eflags v m := rfl
@[simp] theorem State.record_history (s : State) (e : Event) : (s.record e).history = e :: s.history := rfl
@[simp] theorem State.clearTlb_tlbR (s : State) : s.clearTlb.tlbR = [] := rfl
@[simp] theorem State.clearTlb_tlbW (s : State) : s.clearTlb.tlbW = [] := rfl

@[simp] theorem State.endFault_faulted (s : State) (f : Fault) : (s.endFault f).faulted = some f := rfl
@[simp] theorem State.endFault_outcome (s : State) (f : Fault) : (s.endFault f).outcome = .fault f := rfl
@[simp] theorem State.endRefused_refused (s : State) (r : Refusal) : (s.endRefused r).refused = some r := rfl
@[simp] theorem State.endRefused_outcome (s : State) (r : Refusal) : (s.endRefused r).outcome = .refused r := rfl
@[simp] theorem State.afterDelivery_halted (s : State) (o : StepOutcome) : (s.afterDelivery o).halted = false := rfl
@[simp] theorem State.afterDelivery_shadow (s : State) (o : StepOutcome) : (s.afterDelivery o).shadow = .none := rfl
@[simp] theorem State.afterDelivery_outcome (s : State) (o : StepOutcome) : (s.afterDelivery o).outcome = o := rfl

/-- The pattern without evictions changes nothing (spec/20_memory.md R134). -/
theorem State.evicted_never {s : State} (h : s.cfg.eviction = .never) : s.evicted = s := by unfold State.evicted; rw [h]

/-- An empty TLB has nothing to evict. -/
theorem State.evicted_empty {s : State} (hr : s.tlbR = []) (hw : s.tlbW = []) : s.evicted.tlbR = [] ∧ s.evicted.tlbW = [] := by
  unfold State.evicted
  split
  · exact ⟨hr, hw⟩
  · exact ⟨by simp [hr], by simp [hw]⟩

/-- Reading back a 32-bit register (spec/10_state.md R31, R32). -/
@[simp] theorem RegFile.get_set (f : RegFile) (r q : Reg) (v : Word) : (f.set r v).get q = if q = r then v else f.get q := by
  cases r <;> cases q <;> rfl

/-- Reading back a segment register. -/
@[simp] theorem SegFile.get_set (f : SegFile) (r q : SegReg) (c : SegCache) : (f.set r c).get q = if q = r then c else f.get q := by
  cases r <;> cases q <;> rfl

/-- The low part of an append. -/
theorem extract_low {n m : Nat} (x : BitVec n) (y : BitVec m) : (x ++ y).extractLsb' 0 m = y := by
  apply BitVec.eq_of_getLsbD_eq
  intro i hi
  simp [BitVec.getLsbD_append, hi]

/-- The middle part of an append. -/
theorem extract_middle {n k m : Nat} (x : BitVec n) (v : BitVec k) (y : BitVec m) : (x ++ v ++ y).extractLsb' m k = v := by
  apply BitVec.eq_of_getLsbD_eq
  intro i hi
  simp [BitVec.getLsbD_append, hi]

/-- The high part of an append. -/
theorem extract_high {n m : Nat} (x : BitVec n) (y : BitVec m) : (x ++ y).extractLsb' m n = x := by
  apply BitVec.eq_of_getLsbD_eq
  intro i hi
  simp [BitVec.getLsbD_append, hi]

/-- A byte register read back (R31, R32). -/
@[simp] theorem RegFile.get8_set8 (f : RegFile) (r : Reg) (v : Byte) : (f.set8 r v).get8 r = v := by
  cases h : byteIsHigh r
  · simp only [RegFile.get8, RegFile.set8, h, RegFile.get_set, if_true, Bool.false_eq_true, if_false]
    exact extract_low (n := 24) (m := 8) _ v
  · simp only [RegFile.get8, RegFile.set8, h, RegFile.get_set, if_true]
    exact extract_middle (n := 16) (k := 8) (m := 8) _ v _

/-- A 16-bit register read back (R31, R32). -/
@[simp] theorem RegFile.get16_set16 (f : RegFile) (r : Reg) (v : BitVec 16) : (f.set16 r v).get16 r = v := by
  simp only [RegFile.get16, RegFile.set16, RegFile.get_set, if_true]
  exact extract_low (n := 16) (m := 16) _ v

/-- A register read at width w sees what was written there at width w (R32). -/
@[simp] theorem State.gpr_setGpr (s : State) (w : Width) (r : Reg) (v : BitVec w.bits) : (s.setGpr w r v).gpr w r = v := by
  cases w with
  | b8 => exact RegFile.get8_set8 s.regs r v
  | b16 => exact RegFile.get16_set16 s.regs r v
  | b32 => exact (RegFile.get_set s.regs r r v).trans (if_pos rfl)

end Sys2Proof.Machine
end

