-- ==== Sys2Proof/Laws/Act.lean ====
section
/-! SUPPORT. How actions compose, and what it means that an action keeps a relation between the state it starts from and the state it leaves. -/

namespace Sys2Proof.Machine

variable {α β : Type}

/-- An action followed by another. -/
theorem bind_apply (a : Act α) (f : α → Act β) (s : State) :
    (a >>= f) s = match a s with
      | .ok v t => f v t
      | .error e t => .error e t := by
  show EStateM.bind a f s = _
  unfold EStateM.bind
  cases a s <;> rfl

@[simp] theorem pure_apply (v : α) (s : State) : (pure v : Act α) s = .ok v s := rfl
@[simp] theorem look_apply (f : State → α) (s : State) : look f s = .ok (f s) s := rfl
@[simp] theorem update_apply (f : State → State) (s : State) : update f s = .ok () (f s) := rfl
@[simp] theorem stop_apply (e : Stop) (s : State) : (stop e : Act α) s = .error e s := rfl
@[simp] theorem raise_apply (v : Byte) (s : State) : (raise v : Act α) s = .error (.fault v none) s := rfl
@[simp] theorem raise0_apply (v : Byte) (s : State) : (raise0 v : Act α) s = .error (.fault v (some 0#32)) s := rfl
@[simp] theorem raiseGp_apply (s : State) : (raiseGp : Act α) s = .error (.fault 13#8 (some 0#32)) s := rfl
@[simp] theorem raiseUd_apply (s : State) : (raiseUd : Act α) s = .error (.fault 6#8 none) s := rfl
@[simp] theorem draw_apply (s : State) : draw s = .ok (Config.freeValue s.draws) { s with draws := s.draws + 1 } := rfl

/-- The first part of a sequence went on. -/
theorem bind_ok {a : Act α} {f : α → Act β} {s t : State} {v : α} (h : a s = .ok v t) : (a >>= f) s = f v t := by
  rw [bind_apply, h]

/-- The first part of a sequence stopped. -/
theorem bind_error {a : Act α} {f : α → Act β} {s t : State} {e : Stop} (h : a s = .error e t) : (a >>= f) s = .error e t := by
  rw [bind_apply, h]

/-- A sequence goes on exactly when both parts do. -/
theorem bind_eq_ok {a : Act α} {f : α → Act β} {s u : State} {w : β} :
    (a >>= f) s = .ok w u ↔ ∃ v t, a s = .ok v t ∧ f v t = .ok w u := by
  rw [bind_apply]
  cases a s with
  | ok v t => simp
  | error e t => simp

/-- Every outcome of the action leaves a state related to the one it started from. -/
def Keeps (R : State → State → Prop) (a : Act α) : Prop :=
  (∀ s v t, a s = .ok v t → R s t) ∧ ∀ s e t, a s = .error e t → R s t

/-- A relation that holds of no change and of successive changes. -/
structure Steady (R : State → State → Prop) : Prop where
  refl : ∀ s, R s s
  trans : ∀ s t u, R s t → R t u → R s u

variable {R : State → State → Prop}

theorem Keeps.bind (hR : Steady R) {a : Act α} {f : α → Act β} (ha : Keeps R a) (hf : ∀ v, Keeps R (f v)) : Keeps R (a >>= f) := by
  refine ⟨?_, ?_⟩
  · intro s w u h
    rw [bind_apply] at h
    cases hs : a s with
    | ok v t =>
      rw [hs] at h
      exact hR.trans _ _ _ (ha.1 _ _ _ hs) ((hf v).1 _ _ _ h)
    | error e t =>
      rw [hs] at h
      cases h
  · intro s w u h
    rw [bind_apply] at h
    cases hs : a s with
    | ok v t =>
      rw [hs] at h
      exact hR.trans _ _ _ (ha.1 _ _ _ hs) ((hf v).2 _ _ _ h)
    | error e t =>
      rw [hs] at h
      injection h with h1 h2
      subst h2
      exact ha.2 _ _ _ hs

theorem Keeps.pure (hR : Steady R) (v : α) : Keeps R (Pure.pure v : Act α) := by
  refine ⟨?_, ?_⟩ <;> intro s w u h <;> cases h
  exact hR.refl _

theorem Keeps.look (hR : Steady R) (f : State → α) : Keeps R (look f) := by
  refine ⟨?_, ?_⟩ <;> intro s w u h <;> cases h
  exact hR.refl _

theorem Keeps.stop (hR : Steady R) (e : Stop) : Keeps R (stop e : Act α) := by
  refine ⟨?_, ?_⟩ <;> intro s w u h <;> cases h
  exact hR.refl _

theorem Keeps.update {f : State → State} (h : ∀ s, R s (f s)) : Keeps R (update f) := by
  refine ⟨?_, ?_⟩ <;> intro s w u hs <;> cases hs
  exact h _

theorem Keeps.ite {c : Prop} [Decidable c] {a b : Act α} (ha : Keeps R a) (hb : Keeps R b) : Keeps R (if c then a else b) := by
  split
  · exact ha
  · exact hb

theorem Keeps.mono {Q : State → State → Prop} {a : Act α} (h : ∀ s t, R s t → Q s t) (ha : Keeps R a) : Keeps Q a :=
  ⟨fun s v t hs => h _ _ (ha.1 s v t hs), fun s e t hs => h _ _ (ha.2 s e t hs)⟩

end Sys2Proof.Machine
end

