-- ==== Sys2Proof/Laws/Store.lean ====
section
/-! SUPPORT. Tables and the store: reading after writing, and the canonical form (spec/20_memory.md R101, R102). -/

namespace Sys2Proof.Machine

variable {α : Type}

theorem tableGet_tableSet (l : List (Nat × α)) (a b : Nat) (x : α) :
    tableGet (tableSet l a x) b = if b = a then some x else tableGet l b := by
  have sym : (a = b) = (b = a) := propext eq_comm
  induction l with
  | nil => simp only [tableSet, tableGet, sym]
  | cons e l ih =>
    obtain ⟨k, v⟩ := e
    by_cases hlt : a < k
    · simp only [tableSet, tableGet, hlt, if_true, sym]
    · by_cases hk : a = k
      · subst hk
        by_cases h : b = a <;> simp [tableSet, tableGet, sym, h]
      · by_cases h : b = a
        · subst h
          simp [tableSet, tableGet, hlt, hk, ih, Ne.symm hk]
        · simp [tableSet, tableGet, hlt, hk, ih, h]

@[simp] theorem tableGet_tableSet_self (l : List (Nat × α)) (a : Nat) (x : α) : tableGet (tableSet l a x) a = some x := by
  simp [tableGet_tableSet]

theorem tableGet_tableSet_ne (l : List (Nat × α)) {a b : Nat} (x : α) (h : b ≠ a) : tableGet (tableSet l a x) b = tableGet l b := by
  simp [tableGet_tableSet, h]

/-- The canonical form, said of all entries at once. -/
theorem tableWf_cons (bound k : Nat) (v : α) (l : List (Nat × α)) :
    tableWf bound ((k, v) :: l) = true ↔ k < bound ∧ (∀ e ∈ l, k < e.1) ∧ tableWf bound l = true := by
  induction l generalizing k v with
  | nil => simp [tableWf]
  | cons e l ih =>
    obtain ⟨k', v'⟩ := e
    simp only [tableWf, Bool.and_eq_true, decide_eq_true_eq]
    constructor
    · rintro ⟨h1, h2⟩
      obtain ⟨h3, h4, h5⟩ := (ih k' v').1 h2
      refine ⟨by omega, ?_, h2⟩
      intro e he
      rcases List.mem_cons.1 he with rfl | he
      · exact h1
      · exact lt_trans h1 (h4 e he)
    · rintro ⟨_, h2, h3⟩
      exact ⟨h2 (k', v') (by simp), h3⟩

theorem mem_tableSet (l : List (Nat × α)) (a : Nat) (x : α) (e : Nat × α) (h : e ∈ tableSet l a x) : e = (a, x) ∨ e ∈ l := by
  induction l with
  | nil => exact .inl (by simpa [tableSet] using h)
  | cons f l ih =>
    obtain ⟨k, v⟩ := f
    simp only [tableSet] at h
    split at h
    · rcases List.mem_cons.1 h with h | h
      · exact .inl h
      · exact .inr h
    · split at h
      · rcases List.mem_cons.1 h with h | h
        · exact .inl h
        · exact .inr (List.mem_cons_of_mem _ h)
      · rcases List.mem_cons.1 h with h | h
        · exact .inr (by simp [h])
        · rcases ih h with h | h
          · exact .inl h
          · exact .inr (List.mem_cons_of_mem _ h)

/-- Giving a key below the bound a value keeps the canonical form. -/
theorem tableWf_tableSet {bound : Nat} {l : List (Nat × α)} {a : Nat} (x : α) (hl : tableWf bound l = true) (ha : a < bound) :
    tableWf bound (tableSet l a x) = true := by
  induction l with
  | nil => simpa [tableSet, tableWf] using ha
  | cons e l ih =>
    obtain ⟨k, v⟩ := e
    obtain ⟨h1, h2, h3⟩ := (tableWf_cons bound k v l).1 hl
    simp only [tableSet]
    split
    · rename_i hlt
      refine (tableWf_cons _ _ _ _).2 ⟨ha, ?_, hl⟩
      intro e he
      rcases List.mem_cons.1 he with rfl | he
      · exact hlt
      · exact lt_trans hlt (h2 e he)
    · rename_i hlt
      split
      · rename_i hk
        subst hk
        exact (tableWf_cons _ _ _ _).2 ⟨h1, h2, h3⟩
      · rename_i hk
        refine (tableWf_cons _ _ _ _).2 ⟨h1, ?_, ih h3⟩
        intro e he
        rcases mem_tableSet l a x e he with rfl | he
        · show k < a
          omega
        · exact h2 e he

/-- Dropping entries keeps the canonical form. -/
theorem tableWf_filter {bound : Nat} {l : List (Nat × α)} (p : Nat × α → Bool) (hl : tableWf bound l = true) :
    tableWf bound (l.filter p) = true := by
  induction l with
  | nil => simp [tableWf]
  | cons e l ih =>
    obtain ⟨k, v⟩ := e
    obtain ⟨h1, h2, h3⟩ := (tableWf_cons bound k v l).1 hl
    by_cases hp : p (k, v) = true
    · rw [List.filter_cons_of_pos hp]
      exact (tableWf_cons _ _ _ _).2 ⟨h1, fun e he => h2 e (List.mem_of_mem_filter he), ih h3⟩
    · rw [List.filter_cons_of_neg hp]
      exact ih h3

theorem tableWf_tableErase {bound : Nat} {l : List (Nat × α)} (a : Nat) (hl : tableWf bound l = true) :
    tableWf bound (tableErase l a) = true := tableWf_filter _ hl

theorem tableGet_tableErase (l : List (Nat × α)) (a b : Nat) : tableGet (tableErase l a) b = if b = a then none else tableGet l b := by
  induction l with
  | nil => by_cases h : b = a <;> simp [tableErase, tableGet, h]
  | cons e l ih =>
    obtain ⟨k, v⟩ := e
    unfold tableErase at ih ⊢
    by_cases hk : k = a
    · subst hk
      rw [List.filter_cons_of_neg (by simp), ih]
      by_cases h : b = k <;> simp [tableGet, h, eq_comm]
    · rw [List.filter_cons_of_pos (by simpa using hk)]
      by_cases h : b = a
      · subst h
        simp [tableGet, ih, hk]
      · simp [tableGet, ih, h]

/-- A write keeps the store in canonical form. -/
theorem memWf_memWrite {m : List Host.Cell} (a : Word) (bs : List Byte) (h : memWf m = true) : memWf (memWrite m a bs) = true := by
  induction bs generalizing m a with
  | nil => exact h
  | cons b bs ih => exact ih (a + 1#32) (tableWf_tableSet b h a.isLt)

theorem memByte_tableSet (m : List Host.Cell) (a b : Nat) (x : Byte) :
    memByte (tableSet m a x) b = if b = a then x else memByte m b := by
  unfold memByte
  rw [tableGet_tableSet]
  split <;> simp

/-- A write changes only the bytes it covers. -/
theorem memByte_memWrite_outside (m : List Host.Cell) (a : Word) (bs : List Byte) (b : Nat)
    (h : ∀ k < bs.length, b ≠ (a + BitVec.ofNat 32 k).toNat) : memByte (memWrite m a bs) b = memByte m b := by
  induction bs generalizing m a with
  | nil => rfl
  | cons x bs ih =>
    have h0 : b ≠ a.toNat := by simpa using h 0 (by simp)
    rw [memWrite, ih, memByte_tableSet, if_neg h0]
    intro k hk
    have := h (k + 1) (by simpa using hk)
    have e : a + 1#32 + BitVec.ofNat 32 k = a + BitVec.ofNat 32 (k + 1) := by
      rw [Nat.add_comm k 1, BitVec.ofNat_add, BitVec.add_assoc]
    rwa [e]

theorem memRead_length (m : List Host.Cell) (a : Word) (n : Nat) : (memRead m a n).length = n := by
  induction n generalizing a with
  | zero => rfl
  | succ n ih => simp [memRead, ih]

theorem leBytes_length (n v : Nat) : (leBytes n v).length = n := by
  induction n generalizing v with
  | zero => rfl
  | succ n ih => simp [leBytes, ih]

/-- Little-endian bytes give the value back (R102). -/
theorem leNat_leBytes (n v : Nat) : leNat (leBytes n v) = v % 256 ^ n := by
  induction n generalizing v with
  | zero => simp [leBytes, leNat, Nat.mod_one]
  | succ n ih =>
    have : (BitVec.ofNat 8 v).toNat = v % 256 := by simp
    rw [leBytes, leNat, ih, this, Nat.pow_succ, Nat.mul_comm (256 ^ n) 256, Nat.mod_mul]

end Sys2Proof.Machine
end

