-- ==== Sys2Proof/Laws/Access.lean ====
section
/-! SUPPORT. Everything an access to memory can do: one lemma per shared operation, each saying that the state it leaves differs from the one
it started from only in memory, CR2, the TLB, the event history and the count of draws, and keeps the tables in canonical form. -/

namespace Sys2Proof.Machine

variable {α : Type}

/-- What an access may change, and what it keeps of that. -/
structure Touches (s t : State) : Prop where
  /-- Registers, flags, control state, maps and marks are the same. -/
  same : t = keepMemory s t
  mem : memWf s.mem = true → memWf t.mem = true
  tlbR : tableWf (2 ^ 20) s.tlbR = true → tableWf (2 ^ 20) t.tlbR = true
  tlbW : tableWf (2 ^ 20) s.tlbW = true → tableWf (2 ^ 20) t.tlbW = true
  /-- With paging off the TLB and CR2 are not touched. -/
  off : s.pg = false → t.tlbR = s.tlbR ∧ t.tlbW = s.tlbW ∧ t.cr2 = s.cr2
  history : s.history <:+ t.history
  draws : s.draws ≤ t.draws

theorem touches_steady : Steady Touches where
  refl s := ⟨rfl, id, id, id, fun _ => ⟨rfl, rfl, rfl⟩, List.suffix_refl _, le_refl _⟩
  trans s t u h k := by
    have hs := h.same
    have pg : t.pg = s.pg := by rw [hs]; rfl
    refine ⟨?_, k.mem ∘ h.mem, k.tlbR ∘ h.tlbR, k.tlbW ∘ h.tlbW, ?_, h.history.trans k.history, h.draws.trans k.draws⟩
    · rw [k.same, hs]
      rfl
    · intro p
      obtain ⟨a, b, c⟩ := h.off p
      obtain ⟨d, e, f⟩ := k.off (pg.trans p)
      exact ⟨d.trans a, e.trans b, f.trans c⟩

theorem touches_record (s : State) (e : Event) : Touches s (s.record e) :=
  ⟨rfl, id, id, id, fun _ => ⟨rfl, rfl, rfl⟩, List.suffix_cons _ _, le_refl _⟩

theorem touches_draws (s : State) : Touches s { s with draws := s.draws + 1 } :=
  ⟨rfl, id, id, id, fun _ => ⟨rfl, rfl, rfl⟩, List.suffix_refl _, Nat.le_succ _⟩

theorem touches_store (s : State) (a : Word) (bs : List Byte) : Touches s { s with mem := memWrite s.mem a bs } :=
  ⟨rfl, memWf_memWrite a bs, id, id, fun _ => ⟨rfl, rfl, rfl⟩, List.suffix_refl _, le_refl _⟩

theorem draw_touches : Keeps Touches draw := by
  refine ⟨?_, ?_⟩ <;> intro s w u h <;> cases h
  exact touches_draws _

theorem drawBit_touches : Keeps Touches drawBit := .bind touches_steady draw_touches fun _ => .pure touches_steady _

theorem drawBits_touches (n : Nat) : Keeps Touches (drawBits n) := .bind touches_steady draw_touches fun _ => .pure touches_steady _

theorem handlerRead_touches (c : Chunk) : Keeps Touches (handlerRead c) := by
  refine ⟨?_, ?_⟩ <;> intro s w u h <;> unfold handlerRead at h <;> split at h <;> cases h
  · exact touches_steady.refl _
  · exact touches_steady.refl _
  · exact touches_steady.refl _
  · exact touches_steady.trans _ _ _ (touches_record _ _) (touches_draws _)

theorem romWrite_touches (c : Chunk) (bs : List Byte) : Keeps Touches (romWrite c bs) := by
  refine ⟨?_, ?_⟩ <;> intro s w u h <;> unfold romWrite at h <;> split at h <;> cases h
  · exact touches_record _ _
  · exact touches_steady.refl _

theorem smcCheck_touches (p : Nat) : Keeps Touches (smcCheck p) := by
  refine .update fun s => ?_
  split
  · exact touches_record _ _
  · exact touches_steady.refl _

theorem handlerStore_touches (c : Chunk) (bs : List Byte) : Keeps Touches (handlerStore c bs) := by
  refine ⟨?_, ?_⟩ <;> intro s w u h <;> unfold handlerStore at h <;> split at h
  · cases h
    exact touches_store _ _ _
  · exact (romWrite_touches c bs).1 _ _ _ h
  · cases h
    exact touches_steady.refl _
  · cases h
    exact touches_record _ _
  · cases h
  · exact (romWrite_touches c bs).2 _ _ _ h
  · cases h
  · cases h

theorem handlerWrite_touches (c : Chunk) (bs : List Byte) : Keeps Touches (handlerWrite c bs) :=
  .bind touches_steady (smcCheck_touches _) fun _ => .ite (romWrite_touches _ _) (handlerStore_touches _ _)

theorem readSpan_touches (sp : Span) : Keeps Touches (readSpan sp) := by
  induction sp with
  | nil => exact .pure touches_steady _
  | cons c cs ih =>
    exact .bind touches_steady (handlerRead_touches c) fun _ => .bind touches_steady ih fun _ => .pure touches_steady _

theorem writeSpan_touches (sp : Span) (bs : List Byte) : Keeps Touches (writeSpan sp bs) := by
  induction sp generalizing bs with
  | nil => exact .pure touches_steady _
  | cons c cs ih => exact .bind touches_steady (handlerWrite_touches c _) fun _ => ih _

theorem physRead32_touches (pa : Word) : Keeps Touches (physRead32 pa) :=
  .bind touches_steady (readSpan_touches _) fun _ => .pure touches_steady _

theorem physWrite32_touches (pa v : Word) : Keeps Touches (physWrite32 pa v) := writeSpan_touches _ _

theorem setPdeA_touches (a e : Word) : Keeps Touches (setPdeA a e) := .ite (.pure touches_steady _) (physWrite32_touches _ _)

theorem pdeAOnFault_touches (a e : Word) : Keeps Touches (pdeAOnFault a e) :=
  .ite (.pure touches_steady _) (.bind touches_steady drawBit_touches fun _ => .ite (physWrite32_touches _ _) (.pure touches_steady _))

theorem setPteAD_touches (a e : Word) (w : Bool) : Keeps Touches (setPteAD a e w) :=
  .ite (.pure touches_steady _) (physWrite32_touches _ _)

/-- The relation of an access made with paging on, where CR2 and the TLB may change too. -/
structure TouchesOn (s t : State) : Prop where
  same : t = keepMemory s t
  mem : memWf s.mem = true → memWf t.mem = true
  tlbR : tableWf (2 ^ 20) s.tlbR = true → tableWf (2 ^ 20) t.tlbR = true
  tlbW : tableWf (2 ^ 20) s.tlbW = true → tableWf (2 ^ 20) t.tlbW = true
  history : s.history <:+ t.history
  draws : s.draws ≤ t.draws

theorem touchesOn_steady : Steady TouchesOn where
  refl s := ⟨rfl, id, id, id, List.suffix_refl _, le_refl _⟩
  trans s t u h k := by
    have hs := h.same
    refine ⟨?_, k.mem ∘ h.mem, k.tlbR ∘ h.tlbR, k.tlbW ∘ h.tlbW, h.history.trans k.history, h.draws.trans k.draws⟩
    rw [k.same, hs]
    rfl

theorem Touches.on {s t : State} (h : Touches s t) : TouchesOn s t := ⟨h.same, h.mem, h.tlbR, h.tlbW, h.history, h.draws⟩

theorem pageFault_touches (la : Word) (p w u : Bool) : Keeps TouchesOn (pageFault la p w u : Act α) :=
  .bind touchesOn_steady (.update fun _ => ⟨rfl, id, id, id, List.suffix_refl _, le_refl _⟩) fun _ => .stop touchesOn_steady _

theorem walk_touches (la : Word) (write : Bool) : Keeps TouchesOn (walk la write) := by
  have st := touchesOn_steady
  refine .bind st (.look st _) fun _ => .bind st (.look st _) fun _ => .bind st (.look st _) fun _ =>
    .bind st ((physRead32_touches _).mono fun _ _ => Touches.on) fun _ => .ite (pageFault_touches _ _ _ _) ?_
  refine .bind st ((physRead32_touches _).mono fun _ _ => Touches.on) fun _ => .ite ?_ (.ite ?_ ?_)
  · exact .bind st ((pdeAOnFault_touches _ _).mono fun _ _ => Touches.on) fun _ => pageFault_touches _ _ _ _
  · exact .bind st ((pdeAOnFault_touches _ _).mono fun _ _ => Touches.on) fun _ => pageFault_touches _ _ _ _
  · exact .bind st ((setPdeA_touches _ _).mono fun _ _ => Touches.on) fun _ =>
      .bind st ((setPteAD_touches _ _ _).mono fun _ _ => Touches.on) fun _ => .pure st _

theorem pageOf_lt (a : Word) : pageOf a < 2 ^ 20 := by
  unfold pageOf
  have := a.isLt
  rw [BitVec.toNat_ushiftRight, Nat.shiftRight_eq_div_pow]
  omega

theorem refill_touches (la : Word) (r : WalkResult) : Keeps TouchesOn (refill (pageOf la) r) := by
  refine .update fun s => ⟨rfl, id, fun h => tableWf_tableSet _ h (pageOf_lt la), fun h => ?_, List.suffix_refl _, le_refl _⟩
  show tableWf _ (if r.dirty then tableSet s.tlbW (pageOf la) r.entry else s.tlbW) = true
  split
  · exact tableWf_tableSet _ h (pageOf_lt la)
  · exact h

theorem evict_touches : Keeps TouchesOn evict := by
  refine .update fun s => ?_
  unfold State.evicted
  split
  · exact touchesOn_steady.refl _
  · exact ⟨rfl, id, tableWf_filter _, tableWf_filter _, List.suffix_refl _, Nat.le_succ _⟩

theorem translateOn_touches (la : Word) (write : Bool) : Keeps TouchesOn (translateOn la write) := by
  have st := touchesOn_steady
  refine .bind st evict_touches fun _ => .bind st (.look st _) fun hit => ?_
  cases hit with
  | some e => exact .pure st _
  | none => exact .bind st (walk_touches _ _) fun _ => .bind st (refill_touches _ _) fun _ => .pure st _

theorem translate_touches (la : Word) (write : Bool) : Keeps Touches (translate la write) := by
  refine ⟨?_, ?_⟩ <;> intro s v t h <;> unfold translate at h <;> split at h
  · rename_i hp
    have k := (translateOn_touches la write).1 _ _ _ h
    exact ⟨k.same, k.mem, k.tlbR, k.tlbW, fun q => by simp [hp] at q, k.history, k.draws⟩
  · cases h
    exact touches_steady.refl _
  · rename_i hp
    have k := (translateOn_touches la write).2 _ _ _ h
    exact ⟨k.same, k.mem, k.tlbR, k.tlbW, fun q => by simp [hp] at q, k.history, k.draws⟩
  · cases h

theorem resolveLin_touches (la : Word) (n : Nat) (write : Bool) : Keeps Touches (resolveLin la n write) := by
  have st := touches_steady
  exact .ite (.bind st (translate_touches _ _) fun _ => .pure st _)
    (.bind st (translate_touches _ _) fun _ => .bind st (translate_touches _ _) fun _ => .pure st _)

theorem linRead_touches (la : Word) (n : Nat) : Keeps Touches (linRead la n) :=
  .bind touches_steady (resolveLin_touches _ _ _) fun _ => readSpan_touches _

theorem linWrite_touches (la : Word) (bs : List Byte) : Keeps Touches (linWrite la bs) :=
  .bind touches_steady (resolveLin_touches _ _ _) fun _ => writeSpan_touches _ _

theorem segCheck_touches (r : SegReg) (off : Word) (n : Nat) : Keeps Touches (segCheck r off n) := by
  have st := touches_steady
  exact .bind st (.look st _) fun _ => .ite (.stop st _) (.ite (.pure st _) (.ite (.stop st _) (.stop st _)))

theorem resolveMem_touches (r : SegReg) (off : Word) (n : Nat) (write : Bool) : Keeps Touches (resolveMem r off n write) := by
  have st := touches_steady
  exact .bind st (segCheck_touches _ _ _) fun _ => .bind st (.look st _) fun _ => resolveLin_touches _ _ _

theorem memReadBits_touches (n : Nat) (r : SegReg) (off : Word) : Keeps Touches (memReadBits n r off) := by
  have st := touches_steady
  exact .bind st (resolveMem_touches _ _ _ _) fun _ => .bind st (readSpan_touches _) fun _ => .pure st _

theorem memWriteBits_touches {n : Nat} (r : SegReg) (off : Word) (v : BitVec n) : Keeps Touches (memWriteBits r off v) :=
  .bind touches_steady (resolveMem_touches _ _ _ _) fun _ => writeSpan_touches _ _

theorem readTop_touches (n : Nat) : Keeps Touches (readTop n) :=
  .bind touches_steady (.look touches_steady _) fun _ => memReadBits_touches _ _ _

theorem resolveRM_touches (w : Width) (write : Bool) (p : Pfx) (rm : RM) : Keeps Touches (resolveRM w write p rm) := by
  have st := touches_steady
  cases rm with
  | reg r => exact .pure st _
  | mem m => exact .bind st (.look st _) fun _ => .bind st (resolveMem_touches _ _ _ _) fun _ => .pure st _

theorem readPlace_touches (w : Width) (pl : Place) : Keeps Touches (readPlace w pl) := by
  have st := touches_steady
  cases pl with
  | reg r => exact .look st _
  | mem sp => exact .bind st (readSpan_touches _) fun _ => .pure st _

theorem readRM_touches (w : Width) (p : Pfx) (rm : RM) : Keeps Touches (readRM w p rm) :=
  .bind touches_steady (resolveRM_touches _ _ _ _) fun _ => readPlace_touches _ _

end Sys2Proof.Machine
end

