-- ==== Sys2Proof/Laws/Wf.lean ====
section
/-! SUPPORT. The invariant under each shared operation: what a step may change of a well-formed state, for the updates of registers, flags and
segments, for every access, and for taking an event. -/

namespace Sys2Proof.Machine

variable {α : Type}

/-- A change that keeps the launch parameters, the paging mode, the maps, the marks and the invariant, and only adds to the event history. -/
structure Fine (s t : State) : Prop where
  cfg : t.cfg = s.cfg
  pg : t.pg = s.pg
  maps : t.fmap = s.fmap ∧ t.handlers = s.handlers ∧ t.caps = s.caps
  marks : t.refused = s.refused ∧ t.faulted = s.faulted
  history : s.history <:+ t.history
  draws : s.draws ≤ t.draws
  wf : s.wf = true → t.wf = true

theorem fine_steady : Steady Fine where
  refl _ := ⟨rfl, rfl, ⟨rfl, rfl, rfl⟩, ⟨rfl, rfl⟩, List.suffix_refl _, le_refl _, id⟩
  trans _ _ _ h k :=
    ⟨k.cfg.trans h.cfg, k.pg.trans h.pg,
      ⟨k.maps.1.trans h.maps.1, k.maps.2.1.trans h.maps.2.1, k.maps.2.2.trans h.maps.2.2⟩,
      ⟨k.marks.1.trans h.marks.1, k.marks.2.trans h.marks.2⟩, h.history.trans k.history, h.draws.trans k.draws, k.wf ∘ h.wf⟩

/-- The parts of the invariant. -/
theorem wf_iff (s : State) : s.wf = true ↔ (memWf s.mem = true ∧ tableWf (2 ^ 20) s.tlbR = true ∧ tableWf (2 ^ 20) s.tlbW = true ∧
    tableWf (2 ^ 20) s.fmap = true ∧ handlersWf s.cfg s.handlers = true ∧ capsWf s.cfg s.caps = true) ∧
    eflagsWf s.cfg.gen s.eflags = true ∧ cr0Of s.cfg.gen s.cr0 = s.cr0 ∧ (s.pg = true → s.pe = true) ∧ (s.pe = true ∨ s.cpl = 0#2) ∧
    (s.pg = true ∨ (s.tlbR = [] ∧ s.tlbW = [])) := by
  cases hp : s.pg <;> cases hq : s.pe <;>
    simp [State.wf, State.tablesWf, State.modeWf, Memory.wf, hp, hq, and_assoc]

/-- The bits of EFLAGS the invariant fixes. -/
theorem eflagsWf_iff (gen : CpuGen) (v : Word) : eflagsWf gen v = true ↔ v &&& (fixedZero gen ||| 0x20002#32) = 2#32 := by
  unfold eflagsWf forceFixed
  simp only [Bool.and_eq_true, beq_iff_eq, Bool.not_eq_true']
  constructor
  · rintro ⟨h, k⟩
    apply BitVec.eq_of_getLsbD_eq
    intro i hi
    have hb := congrArg (fun w => w.getLsbD i) h
    by_cases h17 : i = 17
    · subst h17
      simp only [BitVec.getLsbD_and, k, Bool.false_and]
      decide
    · cases gen <;> simp only [BitVec.getLsbD_and, BitVec.getLsbD_or, BitVec.getLsbD_not, fixedZero] at hb ⊢ <;>
        interval_cases i <;> simp_all
  · intro h
    refine ⟨?_, ?_⟩
    · apply BitVec.eq_of_getLsbD_eq
      intro i hi
      have hb := congrArg (fun w => w.getLsbD i) h
      cases gen <;> simp only [BitVec.getLsbD_and, BitVec.getLsbD_or, BitVec.getLsbD_not, fixedZero] at hb ⊢ <;>
        interval_cases i <;> simp_all
    · have hb := congrArg (fun w => w.getLsbD 17) h
      cases gen <;> simpa [fixedZero] using hb

/-- A flag outside the fixed bits may take any value; any flag may be cleared. -/
theorem eflagsWf_putFlag (gen : CpuGen) (v : Word) (f : Flag) (b : Bool) (h : eflagsWf gen v = true) (hf : f ≠ .ac ∨ b = false) :
    eflagsWf gen (putFlag v f b) = true := by
  rw [eflagsWf_iff] at h ⊢
  unfold putFlag
  cases b with
  | false =>
    simp only [Bool.false_eq_true, if_false]
    rw [BitVec.and_assoc, BitVec.and_comm (~~~_), ← BitVec.and_assoc, h]
    cases f <;> decide
  | true =>
    have hne : f ≠ .ac := by simpa using hf
    have e : (1#32 <<< f.bit) &&& (fixedZero gen ||| 0x20002#32) = 0#32 := by
      cases gen <;> cases f <;> first | (exfalso; exact hne rfl) | decide
    have d : (v ||| 1#32 <<< f.bit) &&& (fixedZero gen ||| 0x20002#32)
        = v &&& (fixedZero gen ||| 0x20002#32) ||| (1#32 <<< f.bit) &&& (fixedZero gen ||| 0x20002#32) := by
      apply BitVec.eq_of_getLsbD_eq
      intro i hi
      simp only [BitVec.getLsbD_and, BitVec.getLsbD_or]
      exact Bool.and_or_distrib_right _ _ _
    simp only [if_true]
    rw [d, h, e]
    decide

theorem eflagsWf_putStatus (gen : CpuGen) (v : Word) (st : Status) (h : eflagsWf gen v = true) : eflagsWf gen (st.put v) = true := by
  unfold Status.put
  iterate 6 refine eflagsWf_putFlag _ _ _ _ ?_ (.inl (by decide))
  exact h

/-- A whole-register write with a mask that leaves VM out. -/
theorem eflagsWf_mergeFlags (gen : CpuGen) (old v m : Word) (h : eflagsWf gen old = true) (hm : m.getLsbD 17 = false) :
    eflagsWf gen (mergeFlags gen old v m) = true := by
  have h17 : old.getLsbD 17 = false := by
    have := h
    unfold eflagsWf at this
    simp only [Bool.and_eq_true, Bool.not_eq_true'] at this
    exact this.2
  unfold eflagsWf mergeFlags forceFixed
  simp only [Bool.and_eq_true, beq_iff_eq, Bool.not_eq_true']
  refine ⟨?_, ?_⟩
  · apply BitVec.eq_of_getLsbD_eq
    intro i hi
    simp only [BitVec.getLsbD_and, BitVec.getLsbD_or, BitVec.getLsbD_not]
    cases (fixedZero gen).getLsbD i <;> cases (2#32 : Word).getLsbD i <;> simp
  · cases gen <;>
      simp only [BitVec.getLsbD_and, BitVec.getLsbD_or, BitVec.getLsbD_not, writableMask, fixedZero, h17, hm] <;> simp

/-- The fields an update of registers and flags leaves alone. -/
abbrev State.rest (s : State) := (s.cfg, s.cr0, s.cr3, s.cpl, s.tlbR, s.tlbW, s.fmap, s.handlers, s.caps, s.mem, s.refused, s.faulted,
  s.history, s.draws)

/-- An update that changes neither tables nor mode nor the fixed bits of EFLAGS. -/
theorem fine_of_same {s t : State} (h : t.rest = s.rest) (he : eflagsWf s.cfg.gen s.eflags = true → eflagsWf s.cfg.gen t.eflags = true) :
    Fine s t := by
  simp only [State.rest, Prod.mk.injEq] at h
  obtain ⟨h1, h2, h3, h4, h5, h6, h7, h8, h9, h10, h11, h12, h13, h14⟩ := h
  have hp : t.pg = s.pg := by rw [State.pg, State.pg, h2]
  have hq : t.pe = s.pe := by rw [State.pe, State.pe, h2]
  refine ⟨h1, hp, ⟨h7, h8, h9⟩, ⟨h11, h12⟩, by rw [h13], by rw [h14], ?_⟩
  intro w
  obtain ⟨w1, w2, w3⟩ := (wf_iff s).1 w
  refine (wf_iff t).2 ⟨?_, ?_, ?_⟩
  · rw [h1, h5, h6, h7, h8, h9, h10]
    exact w1
  · rw [h1]
    exact he w2
  · rw [h1, h2, hp, hq, h4, h5, h6]
    exact w3

theorem fine_setGpr (s : State) (w : Width) (r : Reg) (v : BitVec w.bits) : Fine s (s.setGpr w r v) := fine_of_same rfl id
theorem fine_setSeg (s : State) (r : SegReg) (c : SegCache) : Fine s (s.setSeg r c) := fine_of_same rfl id
theorem fine_setEip (s : State) (v : Word) : Fine s { s with eip := v } := fine_of_same rfl id
theorem fine_setCr2 (s : State) (v : Word) : Fine s { s with cr2 := v } := fine_of_same rfl id
theorem fine_setHalted (s : State) (b : Bool) : Fine s { s with halted := b } := fine_of_same rfl id
theorem fine_setShadow (s : State) (x : Shadow) : Fine s { s with shadow := x } := fine_of_same rfl id
theorem fine_setStatus (s : State) (st : Status) : Fine s (s.setStatus st) := fine_of_same rfl (eflagsWf_putStatus _ _ _)
theorem fine_setFlag (s : State) (f : Flag) (b : Bool) (hf : f ≠ .ac ∨ b = false) : Fine s (s.setFlag f b) :=
  fine_of_same rfl fun h => eflagsWf_putFlag _ _ _ _ h hf
theorem fine_setEflags (s : State) (v m : Word) (hm : m.getLsbD 17 = false) : Fine s (s.setEflags v m) :=
  fine_of_same rfl fun h => eflagsWf_mergeFlags _ _ _ _ h hm

theorem fine_setStackTop (s : State) (v : Word) : Fine s (s.setStackTop v) := by
  unfold State.setStackTop
  split
  · exact fine_setGpr _ _ _ _
  · exact fine_setGpr _ _ _ _

theorem fine_dropStack (s : State) (v : Word) : Fine s (s.dropStack v) := fine_setStackTop _ _

theorem fine_setAddrReg (s : State) (asz : Size) (r : Reg) (v : Word) : Fine s (setAddrReg asz r v s) := fine_setGpr _ _ _ _

theorem fine_record (s : State) (e : Event) : Fine s (s.record e) :=
  ⟨rfl, rfl, ⟨rfl, rfl, rfl⟩, ⟨rfl, rfl⟩, List.suffix_cons _ _, le_refl _, id⟩

theorem fine_draws (s : State) : Fine s { s with draws := s.draws + 1 } :=
  ⟨rfl, rfl, ⟨rfl, rfl, rfl⟩, ⟨rfl, rfl⟩, List.suffix_refl _, Nat.le_succ _, id⟩

/-- An access keeps the invariant. -/
theorem Touches.fine {s t : State} (h : Touches s t) : Fine s t := by
  have e := h.same
  refine ⟨by rw [e]; rfl, by rw [e]; rfl, ⟨by rw [e]; rfl, by rw [e]; rfl, by rw [e]; rfl⟩, ⟨by rw [e]; rfl, by rw [e]; rfl⟩, h.history,
    h.draws, ?_⟩
  intro w
  obtain ⟨⟨w1, w2, w3, w4, w5, w6⟩, w7, w8, w9, w10, w11⟩ := (wf_iff s).1 w
  refine (wf_iff t).2 ⟨⟨h.mem w1, h.tlbR w2, h.tlbW w3, by rw [e]; exact w4, by rw [e]; exact w5, by rw [e]; exact w6⟩, by rw [e]; exact w7,
    by rw [e]; exact w8, by rw [e]; exact w9, by rw [e]; exact w10, ?_⟩
  have epg : t.pg = s.pg := by rw [e]; rfl
  cases hp : s.pg with
  | true => exact .inl (epg.trans hp)
  | false =>
    obtain ⟨a, b, _⟩ := h.off hp
    rcases w11 with w11 | w11
    · rw [hp] at w11
      cases w11
    · exact .inr ⟨a.trans w11.1, b.trans w11.2⟩

/-- An access followed by what depends on it. -/
theorem Keeps.fine {a : Act α} (h : Keeps Touches a) : Keeps Fine a := h.mono fun _ _ => Touches.fine

theorem clearTlb_fine (s : State) : Fine s s.clearTlb := by
  refine ⟨rfl, rfl, ⟨rfl, rfl, rfl⟩, ⟨rfl, rfl⟩, List.suffix_refl _, le_refl _, ?_⟩
  intro w
  obtain ⟨⟨w1, _, _, w4, w5, w6⟩, w7, w8, w9, w10, _⟩ := (wf_iff s).1 w
  exact (wf_iff _).2 ⟨⟨w1, rfl, rfl, w4, w5, w6⟩, w7, w8, w9, w10, .inr ⟨rfl, rfl⟩⟩

theorem writePlace_fine (w : Width) (pl : Place) (v : BitVec w.bits) : Keeps Fine (writePlace w pl v) := by
  cases pl with
  | reg r => exact .update fun s => fine_setGpr _ _ _ _
  | mem sp => exact (writeSpan_touches _ _).fine

theorem writeRM_fine (w : Width) (p : Pfx) (rm : RM) (v : BitVec w.bits) : Keeps Fine (writeRM w p rm v) :=
  .bind fine_steady (resolveRM_touches _ _ _ _).fine fun _ => writePlace_fine _ _ _

theorem readReg_fine (w : Width) (r : Reg) : Keeps Fine (readReg w r) := .look fine_steady _

theorem writeReg_fine (w : Width) (r : Reg) (v : BitVec w.bits) : Keeps Fine (writeReg w r v) := .update fun _ => fine_setGpr _ _ _ _

theorem push_fine {n : Nat} (v : BitVec n) : Keeps Fine (push v) :=
  .bind fine_steady (.look fine_steady _) fun _ => .bind fine_steady (memWriteBits_touches _ _ _).fine fun _ =>
    .update fun _ => fine_setStackTop _ _

theorem pop_fine (n : Nat) : Keeps Fine (pop n) :=
  .bind fine_steady (readTop_touches n).fine fun _ => .bind fine_steady (.update fun _ => fine_dropStack _ _) fun _ => .pure fine_steady _

theorem pushSel_fine (sz : Size) (v : Sel) : Keeps Fine (pushSel sz v) := by
  have st := fine_steady
  cases sz with
  | w16 => exact push_fine _
  | w32 =>
    refine .bind st (.look st _) fun _ => .bind st (resolveMem_touches _ _ _ _).fine fun _ => .bind st drawBit_touches.fine fun _ => ?_
    exact .bind st (.ite (writeSpan_touches _ _).fine (writeSpan_touches _ _).fine) fun _ => .update fun _ => fine_setStackTop _ _

theorem loadSeg_fine (r : SegReg) (v : Sel) : Keeps Fine (loadSeg r v) := by
  refine ⟨?_, ?_⟩ <;> intro s w u h <;> unfold loadSeg at h <;> split at h <;> (try split at h) <;> cases h <;>
    first | exact fine_setSeg _ _ _ | exact fine_steady.refl _

theorem nearTarget_fine (osz : Size) (v : Word) : Keeps Fine (nearTarget osz v) :=
  .bind fine_steady (.look fine_steady _) fun _ => .ite (.stop fine_steady _) (.pure fine_steady _)

theorem jumpTo_fine (t : Word) : Keeps Fine (jumpTo t) := .update fun _ => fine_setEip _ _

theorem farLoadReal_fine (osz : Size) (sel : Sel) (off : Word) : Keeps Fine (farLoadReal osz sel off) :=
  .bind fine_steady (nearTarget_fine _ _) fun _ => .update fun _ => fine_steady.trans _ _ _ (fine_setSeg _ _ _) (fine_setEip _ _)

theorem privCheck_fine : Keeps Fine privCheck :=
  .bind fine_steady (.look fine_steady _) fun _ => .ite (.stop fine_steady _) (.pure fine_steady _)

theorem deliverReal_fine (v : Byte) (ret : Word) : Keeps Fine (deliverReal v ret) := by
  have st := fine_steady
  refine .bind st (.look st _) fun _ => .bind st (push_fine _) fun _ => .bind st ?_ fun _ => ?_
  · exact .update fun s => st.trans _ _ _ (st.trans _ _ _ (fine_setFlag s .intr false (.inr rfl)) (fine_setFlag _ .tf false (.inr rfl)))
      (fine_setFlag _ .ac false (.inr rfl))
  · refine .bind st (.look st _) fun _ => .bind st (push_fine _) fun _ => .bind st (push_fine _) fun _ =>
      .bind st (linRead_touches _ _).fine fun _ => .bind st (linRead_touches _ _).fine fun _ => .update fun _ => ?_
    exact st.trans _ _ _ (fine_setSeg _ _ _) (fine_setEip _ _)

/-- What a fault keeps is well-formed, whatever the instruction had done (R700). -/
theorem wf_rollback {s t : State} (h : Fine s t) (w : s.wf = true) : (rollback s t).wf = true := by
  obtain ⟨⟨_, _, _, w4, w5, w6⟩, w7, w8, w9, w10, _⟩ := (wf_iff s).1 w
  obtain ⟨⟨v1, v2, v3, _, _, _⟩, _, _, _, _, v11⟩ := (wf_iff t).1 (h.wf w)
  refine (wf_iff _).2 ⟨⟨v1, v2, v3, w4, w5, w6⟩, w7, w8, w9, w10, ?_⟩
  rw [h.pg] at v11
  exact v11

theorem wf_keepMemory {s t : State} (h : Fine s t) (w : s.wf = true) : (keepMemory s t).wf = true := by
  have := wf_rollback h w
  exact (fine_setEip (rollback s t) s.eip).wf this

/-- The answers of the protected-mode parameters that count are well-formed. -/
theorem checked_wf {s t : State} {a : PmAnswer} (h : a.checked s = .ok t) : answerAllowed s t = true := by
  unfold PmAnswer.checked at h
  split at h
  · split at h
    · cases h
      assumption
    · cases h
  · cases h
  · cases h

/-- A state marked as ended, or after a delivery, is as well-formed as before. -/
theorem wf_endFault (s : State) (f : Fault) : (s.endFault f).wf = s.wf := rfl
theorem wf_endRefused (s : State) (r : Refusal) : (s.endRefused r).wf = s.wf := rfl
theorem wf_afterDelivery (s : State) (o : StepOutcome) : (s.afterDelivery o).wf = s.wf := rfl

/-- Taking an event keeps the invariant (R712). -/
theorem wf_deliver (v : Byte) (err : Option Word) (kind : EventKind) (ret : Word) (s : State) (w : s.wf = true) :
    (deliver v err kind ret s).wf = true := by
  have w0 : (s.record (.delivered v kind)).wf = true := (fine_record s _).wf w
  unfold deliver
  simp only
  split
  · split
    · rename_i t ht
      have hwf : t.wf = true := by
        unfold pmDeliver at ht
        split at ht
        · cases ht
        · split at ht
          · rename_i u hu
            cases ht
            have ha := checked_wf hu
            simp only [answerAllowed, Bool.and_eq_true] at ha
            exact ha.2
          · cases ht
          · cases ht
      exact (wf_afterDelivery _ _).trans hwf
    · split <;> exact w0
    · split <;> exact w0
  · split
    · rename_i t ht
      exact (wf_afterDelivery _ _).trans (((deliverReal_fine v ret).1 _ _ _ ht).wf w0)
    · rename_i f t ht
      exact (wf_endFault _ _).trans (wf_keepMemory ((deliverReal_fine v ret).2 _ _ _ ht) w0)
    · rename_i t ht
      exact (wf_endFault _ _).trans (wf_keepMemory ((deliverReal_fine v ret).2 _ _ _ ht) w0)
    · rename_i t ht
      exact (wf_endFault _ _).trans (wf_keepMemory ((deliverReal_fine v ret).2 _ _ _ ht) w0)
    · rename_i t ht
      exact (wf_endFault _ _).trans (wf_keepMemory ((deliverReal_fine v ret).2 _ _ _ ht) w0)

/-- What `finish` needs of a body's result. -/
structure BodyFine (s : State) (r : EStateM.Result Stop State Unit) : Prop where
  ok : ∀ t, r = .ok () t → t.wf = true
  error : ∀ e t, r = .error e t → Fine s t

/-- An instruction whose body keeps the invariant keeps it, whatever outcome its body has (R700, R716). -/
theorem wf_finish {s t : State} {r : EStateM.Result Stop State Unit} (w : s.wf = true) (h : BodyFine s r) (ht : finish s r = .next t) :
    t.wf = true := by
  unfold finish at ht
  split at ht
  · cases ht
    exact h.ok _ rfl
  · cases ht
    exact wf_deliver _ _ _ _ _ (wf_rollback (h.error _ _ rfl) w)
  · cases ht
    exact wf_deliver _ _ _ _ _ (wf_rollback (h.error _ _ rfl) w)
  · cases ht
    exact (wf_endFault _ _).trans (wf_rollback (h.error _ _ rfl) w)
  · cases ht
    exact (wf_endRefused _ _).trans (wf_rollback (h.error _ _ rfl) w)

/-- An instruction always answers a next state (notes/assumptions/8.md). -/
theorem finish_next (s : State) (r : EStateM.Result Stop State Unit) : ∃ t, finish s r = .next t := by
  unfold finish
  split <;> exact ⟨_, rfl⟩

theorem requireGen_fine (gen : CpuGen) : Keeps Fine (requireGen gen) :=
  .bind fine_steady (.look fine_steady _) fun _ => .ite (.stop fine_steady _) (.pure fine_steady _)

theorem requireLock_fine (b : Bool) (p : Pfx) : Keeps Fine (requireLock b p) := .ite (.stop fine_steady _) (.pure fine_steady _)

/-- An instruction whose body is made of fine parts keeps the invariant. -/
theorem wf_perform {gen : CpuGen} {lockable : Bool} {body : Pfx → Act Unit} {s t : State} (hb : ∀ p, Keeps Fine (body p)) (w : s.wf = true)
    (h : perform gen lockable body s = .next t) : t.wf = true := by
  have k : Keeps Fine (do requireGen gen; requireLock lockable s.pfx; body s.pfx) :=
    .bind fine_steady (requireGen_fine gen) fun _ => .bind fine_steady (requireLock_fine _ _) fun _ => hb _
  exact wf_finish w ⟨fun t ht => (k.1 s () t ht).wf w, fun e t ht => k.2 s e t ht⟩ h

end Sys2Proof.Machine
end

