-- ==== Sys2Proof/Laws/Perform.lean ====
section
/-! SUPPORT. How an instruction's body becomes its outcome, said once, and what an access leaves equal, field by field. -/

namespace Sys2Proof.Machine

variable {α : Type}

/-- Past the generation gate and the LOCK rule an instruction is its body (spec/30_encoding.md R208, R221). -/
theorem perform_allowed {gen : CpuGen} {lockable : Bool} {body : Pfx → Act Unit} {s : State} (h : s.allows gen lockable) :
    perform gen lockable body s = finish s (body s.pfx s) := by
  obtain ⟨h1, h2⟩ := h
  have g : requireGen gen s = .ok () s := by
    unfold requireGen
    rw [bind_ok (look_apply _ _), if_neg (by omega)]
    rfl
  have l : requireLock lockable s.pfx s = .ok () s := by
    unfold requireLock
    cases hl : s.pfx.lock
    · rfl
    · rw [h2 hl]
      rfl
  unfold perform
  rw [bind_ok g, bind_ok l]

/-- At the gate, or where LOCK is misused, an instruction raises #UD with nothing changed (R208, R221). -/
theorem perform_undefined {gen : CpuGen} {lockable : Bool} {body : Pfx → Act Unit} {s : State}
    (h : s.cfg.gen.num < gen.num ∨ s.pfx.lock = true ∧ lockable = false) :
    perform gen lockable body s = .next (deliver 6#8 none .fault s.eipStart (rollback s s)) := by
  unfold perform
  by_cases hg : s.cfg.gen.num < gen.num
  · have g : requireGen gen s = .error (.fault 6#8 none) s := by
      unfold requireGen
      rw [bind_ok (look_apply _ _), if_pos hg]
      rfl
    rw [bind_error g]
    rfl
  · have g : requireGen gen s = .ok () s := by
      unfold requireGen
      rw [bind_ok (look_apply _ _), if_neg hg]
      rfl
    obtain ⟨h1, h2⟩ := h.resolve_left hg
    have l : requireLock lockable s.pfx s = .error (.fault 6#8 none) s := by
      unfold requireLock
      rw [h1, h2]
      rfl
    rw [bind_ok g, bind_error l]
    rfl

theorem finish_ok {s t : State} : finish s (.ok () t) = .next t := rfl
theorem finish_fault {s t : State} {v : Byte} {err : Option Word} :
    finish s (.error (.fault v err) t) = .next (deliver v err .fault s.eipStart (rollback s t)) := rfl
theorem finish_trap {s t : State} {v : Byte} {kind : EventKind} :
    finish s (.error (.trap v kind) t) = .next (deliver v none kind t.eip (rollback s t)) := rfl
theorem finish_refuse {s t : State} {r : Refusal} : finish s (.error (.refuse r) t) = .next ((rollback s t).endRefused r) := rfl
theorem finish_model {s t : State} {f : Fault} : finish s (.error (.model f) t) = .next ((rollback s t).endFault f) := rfl

/-- After an event a step has nothing to report as a halt: a delivery ends the halt, and one that fails has its own outcome (R712, R716). -/
theorem reportHalt_deliver (v : Byte) (err : Option Word) (kind : EventKind) (ret : Word) (s : State) :
    reportHalt (deliver v err kind ret s) = deliver v err kind ret s := by
  have h : (deliver v err kind ret s).halted = false ∨ (deliver v err kind ret s).outcome ≠ .cont := by
    unfold deliver
    simp only
    split
    · split
      · exact .inl rfl
      · split <;> exact .inr nofun
      · split <;> exact .inr nofun
    · split
      · exact .inl rfl
      all_goals exact .inr nofun
  unfold reportHalt
  rcases h with h | h <;> simp [h]

variable {s t : State}

/-! What an access leaves equal. -/

theorem Touches.cfg (h : Touches s t) : t.cfg = s.cfg := by rw [h.same]; rfl
theorem Touches.regs (h : Touches s t) : t.regs = s.regs := by rw [h.same]; rfl
theorem Touches.written (h : Touches s t) : t.written = s.written := by rw [h.same]; rfl
theorem Touches.eip (h : Touches s t) : t.eip = s.eip := by rw [h.same]; rfl
theorem Touches.eipStart (h : Touches s t) : t.eipStart = s.eipStart := by rw [h.same]; rfl
theorem Touches.eflags (h : Touches s t) : t.eflags = s.eflags := by rw [h.same]; rfl
theorem Touches.segs (h : Touches s t) : t.segs = s.segs := by rw [h.same]; rfl
theorem Touches.cr0 (h : Touches s t) : t.cr0 = s.cr0 := by rw [h.same]; rfl
theorem Touches.cr3 (h : Touches s t) : t.cr3 = s.cr3 := by rw [h.same]; rfl
theorem Touches.cpl (h : Touches s t) : t.cpl = s.cpl := by rw [h.same]; rfl
theorem Touches.fetched (h : Touches s t) : t.fetched = s.fetched := by rw [h.same]; rfl
theorem Touches.outcome (h : Touches s t) : t.outcome = s.outcome := by rw [h.same]; rfl
theorem Touches.prefixes (h : Touches s t) : t.prefixes = s.prefixes := by rw [h.same]; rfl
theorem Touches.halted (h : Touches s t) : t.halted = s.halted := by rw [h.same]; rfl
theorem Touches.shadow (h : Touches s t) : t.shadow = s.shadow := by rw [h.same]; rfl
theorem Touches.fmap (h : Touches s t) : t.fmap = s.fmap := by rw [h.same]; rfl
theorem Touches.handlers (h : Touches s t) : t.handlers = s.handlers := by rw [h.same]; rfl
theorem Touches.caps (h : Touches s t) : t.caps = s.caps := by rw [h.same]; rfl

theorem Touches.gpr (h : Touches s t) (w : Width) (r : Reg) : t.gpr w r = s.gpr w r := by unfold State.gpr; rw [h.regs]
theorem Touches.gpr32 (h : Touches s t) (r : Reg) : t.gpr32 r = s.gpr32 r := by unfold State.gpr32; rw [h.regs]
theorem Touches.gpr16 (h : Touches s t) (r : Reg) : t.gpr16 r = s.gpr16 r := by unfold State.gpr16; rw [h.regs]
theorem Touches.flag (h : Touches s t) (f : Flag) : t.flag f = s.flag f := by unfold State.flag; rw [h.eflags]
theorem Touches.status (h : Touches s t) : t.status = s.status := by unfold State.status; rw [h.eflags]
theorem Touches.seg (h : Touches s t) (r : SegReg) : t.seg r = s.seg r := by unfold State.seg; rw [h.segs]
theorem Touches.pe (h : Touches s t) : t.pe = s.pe := by unfold State.pe; rw [h.cr0]
theorem Touches.pg (h : Touches s t) : t.pg = s.pg := by unfold State.pg; rw [h.cr0]
theorem Touches.stackBig (h : Touches s t) : t.stackBig = s.stackBig := by unfold State.stackBig; rw [h.segs]
theorem Touches.codeBig (h : Touches s t) : t.codeBig = s.codeBig := by unfold State.codeBig; rw [h.segs]
theorem Touches.pfx (h : Touches s t) : t.pfx = s.pfx := by unfold State.pfx; rw [h.codeBig, h.prefixes]
theorem Touches.iopl (h : Touches s t) : t.iopl = s.iopl := by unfold State.iopl; rw [h.eflags]
theorem Touches.stackTop (h : Touches s t) : t.stackTop = s.stackTop := by
  unfold State.stackTop
  rw [h.stackBig, h.gpr32, h.gpr16]
theorem Touches.pushOffset (h : Touches s t) (n : Nat) : t.pushOffset n = s.pushOffset n := by
  unfold State.pushOffset
  rw [h.stackBig, h.stackTop]
theorem Touches.accPair (h : Touches s t) (w : Width) : accPair w t = accPair w s := by
  unfold Machine.accPair
  rw [h.gpr, h.gpr]
theorem Touches.addrReg (h : Touches s t) (asz : Size) (r : Reg) : addrReg asz r t = addrReg asz r s := by
  unfold Machine.addrReg
  rw [h.gpr]

/-- A source operand is read by accesses alone. -/
theorem Src.get_touches (w : Width) (p : Pfx) (x : Src) : Keeps Touches (x.get w p) := by
  cases x with
  | reg r => exact .look touches_steady _
  | rm x => exact readRM_touches _ _ _
  | imm v => exact .pure touches_steady _

theorem drawStatus_ok (s : State) : ∃ st : Status, drawStatus s = .ok st { s with draws := s.draws + 6 } := ⟨_, rfl⟩

theorem drawBit_ok (s : State) : ∃ b : Bool, drawBit s = .ok b { s with draws := s.draws + 1 } := ⟨_, rfl⟩

end Sys2Proof.Machine
end

