-- ==== Sys2Proof/Laws/Exec.lean ====
section
/-! SUPPORT. The meaning of each constructor as a body under `perform`: one equation per constructor. -/

namespace Sys2Proof.Machine

/-- A body sees the prefix state of the state it runs from (spec/30_encoding.md R222). -/
theorem perform_at {gen : CpuGen} {lockable : Bool} {body : Pfx → Act Unit} {s : State} :
    perform gen lockable body s = perform gen lockable (fun _ => body s.pfx) s := rfl

variable (s : State)

theorem exec_addRm8R8_eq (rm : RM) (reg : Reg) :
    exec (.addRm8R8 rm reg) s = perform .g386 (isMem rm) (fun p => alu .add .b8 p rm (readReg .b8 reg)) s := rfl
theorem exec_addRmR_eq (rm : RM) (reg : Reg) :
    exec (.addRmR rm reg) s = perform .g386 (isMem rm) (fun p => alu .add p.osz.width p rm (readReg p.osz.width reg)) s := rfl
theorem exec_addR8Rm8_eq (rm : RM) (reg : Reg) :
    exec (.addR8Rm8 rm reg) s = perform .g386 false (fun p => alu .add .b8 p (.reg reg) (readRM .b8 p rm)) s := rfl
theorem exec_addRRm_eq (rm : RM) (reg : Reg) :
    exec (.addRRm rm reg) s = perform .g386 false (fun p => alu .add p.osz.width p (.reg reg) (readRM p.osz.width p rm)) s := rfl
theorem exec_addAlIb_eq (imm : Byte) :
    exec (.addAlIb imm) s = perform .g386 false (fun p => alu .add .b8 p (.reg .eax) (pure imm)) s := rfl
theorem exec_addEaxIz_eq (imm : Word) :
    exec (.addEaxIz imm) s = perform .g386 false (fun p => alu .add p.osz.width p (.reg .eax) (pure (immSized p.osz.width imm))) s := rfl
theorem exec_addRm8Ib_eq (rm : RM) (imm : Byte) :
    exec (.addRm8Ib rm imm) s = perform .g386 (isMem rm) (fun p => alu .add .b8 p rm (pure imm)) s := rfl
theorem exec_addRmIz_eq (rm : RM) (imm : Word) :
    exec (.addRmIz rm imm) s = perform .g386 (isMem rm) (fun p => alu .add p.osz.width p rm (pure (immSized p.osz.width imm))) s := rfl
theorem exec_addRmIbs_eq (rm : RM) (imm : Byte) :
    exec (.addRmIbs rm imm) s = perform .g386 (isMem rm) (fun p => alu .add p.osz.width p rm (pure (immSigned p.osz.width imm))) s := rfl
theorem exec_orRm8R8_eq (rm : RM) (reg : Reg) :
    exec (.orRm8R8 rm reg) s = perform .g386 (isMem rm) (fun p => alu .or .b8 p rm (readReg .b8 reg)) s := rfl
theorem exec_orRmR_eq (rm : RM) (reg : Reg) :
    exec (.orRmR rm reg) s = perform .g386 (isMem rm) (fun p => alu .or p.osz.width p rm (readReg p.osz.width reg)) s := rfl
theorem exec_orR8Rm8_eq (rm : RM) (reg : Reg) :
    exec (.orR8Rm8 rm reg) s = perform .g386 false (fun p => alu .or .b8 p (.reg reg) (readRM .b8 p rm)) s := rfl
theorem exec_orRRm_eq (rm : RM) (reg : Reg) :
    exec (.orRRm rm reg) s = perform .g386 false (fun p => alu .or p.osz.width p (.reg reg) (readRM p.osz.width p rm)) s := rfl
theorem exec_orAlIb_eq (imm : Byte) :
    exec (.orAlIb imm) s = perform .g386 false (fun p => alu .or .b8 p (.reg .eax) (pure imm)) s := rfl
theorem exec_orEaxIz_eq (imm : Word) :
    exec (.orEaxIz imm) s = perform .g386 false (fun p => alu .or p.osz.width p (.reg .eax) (pure (immSized p.osz.width imm))) s := rfl
theorem exec_orRm8Ib_eq (rm : RM) (imm : Byte) :
    exec (.orRm8Ib rm imm) s = perform .g386 (isMem rm) (fun p => alu .or .b8 p rm (pure imm)) s := rfl
theorem exec_orRmIz_eq (rm : RM) (imm : Word) :
    exec (.orRmIz rm imm) s = perform .g386 (isMem rm) (fun p => alu .or p.osz.width p rm (pure (immSized p.osz.width imm))) s := rfl
theorem exec_orRmIbs_eq (rm : RM) (imm : Byte) :
    exec (.orRmIbs rm imm) s = perform .g386 (isMem rm) (fun p => alu .or p.osz.width p rm (pure (immSigned p.osz.width imm))) s := rfl
theorem exec_adcRm8R8_eq (rm : RM) (reg : Reg) :
    exec (.adcRm8R8 rm reg) s = perform .g386 (isMem rm) (fun p => alu .adc .b8 p rm (readReg .b8 reg)) s := rfl
theorem exec_adcRmR_eq (rm : RM) (reg : Reg) :
    exec (.adcRmR rm reg) s = perform .g386 (isMem rm) (fun p => alu .adc p.osz.width p rm (readReg p.osz.width reg)) s := rfl
theorem exec_adcR8Rm8_eq (rm : RM) (reg : Reg) :
    exec (.adcR8Rm8 rm reg) s = perform .g386 false (fun p => alu .adc .b8 p (.reg reg) (readRM .b8 p rm)) s := rfl
theorem exec_adcRRm_eq (rm : RM) (reg : Reg) :
    exec (.adcRRm rm reg) s = perform .g386 false (fun p => alu .adc p.osz.width p (.reg reg) (readRM p.osz.width p rm)) s := rfl
theorem exec_adcAlIb_eq (imm : Byte) :
    exec (.adcAlIb imm) s = perform .g386 false (fun p => alu .adc .b8 p (.reg .eax) (pure imm)) s := rfl
theorem exec_adcEaxIz_eq (imm : Word) :
    exec (.adcEaxIz imm) s = perform .g386 false (fun p => alu .adc p.osz.width p (.reg .eax) (pure (immSized p.osz.width imm))) s := rfl
theorem exec_adcRm8Ib_eq (rm : RM) (imm : Byte) :
    exec (.adcRm8Ib rm imm) s = perform .g386 (isMem rm) (fun p => alu .adc .b8 p rm (pure imm)) s := rfl
theorem exec_adcRmIz_eq (rm : RM) (imm : Word) :
    exec (.adcRmIz rm imm) s = perform .g386 (isMem rm) (fun p => alu .adc p.osz.width p rm (pure (immSized p.osz.width imm))) s := rfl
theorem exec_adcRmIbs_eq (rm : RM) (imm : Byte) :
    exec (.adcRmIbs rm imm) s = perform .g386 (isMem rm) (fun p => alu .adc p.osz.width p rm (pure (immSigned p.osz.width imm))) s := rfl
theorem exec_sbbRm8R8_eq (rm : RM) (reg : Reg) :
    exec (.sbbRm8R8 rm reg) s = perform .g386 (isMem rm) (fun p => alu .sbb .b8 p rm (readReg .b8 reg)) s := rfl
theorem exec_sbbRmR_eq (rm : RM) (reg : Reg) :
    exec (.sbbRmR rm reg) s = perform .g386 (isMem rm) (fun p => alu .sbb p.osz.width p rm (readReg p.osz.width reg)) s := rfl
theorem exec_sbbR8Rm8_eq (rm : RM) (reg : Reg) :
    exec (.sbbR8Rm8 rm reg) s = perform .g386 false (fun p => alu .sbb .b8 p (.reg reg) (readRM .b8 p rm)) s := rfl
theorem exec_sbbRRm_eq (rm : RM) (reg : Reg) :
    exec (.sbbRRm rm reg) s = perform .g386 false (fun p => alu .sbb p.osz.width p (.reg reg) (readRM p.osz.width p rm)) s := rfl
theorem exec_sbbAlIb_eq (imm : Byte) :
    exec (.sbbAlIb imm) s = perform .g386 false (fun p => alu .sbb .b8 p (.reg .eax) (pure imm)) s := rfl
theorem exec_sbbEaxIz_eq (imm : Word) :
    exec (.sbbEaxIz imm) s = perform .g386 false (fun p => alu .sbb p.osz.width p (.reg .eax) (pure (immSized p.osz.width imm))) s := rfl
theorem exec_sbbRm8Ib_eq (rm : RM) (imm : Byte) :
    exec (.sbbRm8Ib rm imm) s = perform .g386 (isMem rm) (fun p => alu .sbb .b8 p rm (pure imm)) s := rfl
theorem exec_sbbRmIz_eq (rm : RM) (imm : Word) :
    exec (.sbbRmIz rm imm) s = perform .g386 (isMem rm) (fun p => alu .sbb p.osz.width p rm (pure (immSized p.osz.width imm))) s := rfl
theorem exec_sbbRmIbs_eq (rm : RM) (imm : Byte) :
    exec (.sbbRmIbs rm imm) s = perform .g386 (isMem rm) (fun p => alu .sbb p.osz.width p rm (pure (immSigned p.osz.width imm))) s := rfl
theorem exec_andRm8R8_eq (rm : RM) (reg : Reg) :
    exec (.andRm8R8 rm reg) s = perform .g386 (isMem rm) (fun p => alu .and .b8 p rm (readReg .b8 reg)) s := rfl
theorem exec_andRmR_eq (rm : RM) (reg : Reg) :
    exec (.andRmR rm reg) s = perform .g386 (isMem rm) (fun p => alu .and p.osz.width p rm (readReg p.osz.width reg)) s := rfl
theorem exec_andR8Rm8_eq (rm : RM) (reg : Reg) :
    exec (.andR8Rm8 rm reg) s = perform .g386 false (fun p => alu .and .b8 p (.reg reg) (readRM .b8 p rm)) s := rfl
theorem exec_andRRm_eq (rm : RM) (reg : Reg) :
    exec (.andRRm rm reg) s = perform .g386 false (fun p => alu .and p.osz.width p (.reg reg) (readRM p.osz.width p rm)) s := rfl
theorem exec_andAlIb_eq (imm : Byte) :
    exec (.andAlIb imm) s = perform .g386 false (fun p => alu .and .b8 p (.reg .eax) (pure imm)) s := rfl
theorem exec_andEaxIz_eq (imm : Word) :
    exec (.andEaxIz imm) s = perform .g386 false (fun p => alu .and p.osz.width p (.reg .eax) (pure (immSized p.osz.width imm))) s := rfl
theorem exec_andRm8Ib_eq (rm : RM) (imm : Byte) :
    exec (.andRm8Ib rm imm) s = perform .g386 (isMem rm) (fun p => alu .and .b8 p rm (pure imm)) s := rfl
theorem exec_andRmIz_eq (rm : RM) (imm : Word) :
    exec (.andRmIz rm imm) s = perform .g386 (isMem rm) (fun p => alu .and p.osz.width p rm (pure (immSized p.osz.width imm))) s := rfl
theorem exec_andRmIbs_eq (rm : RM) (imm : Byte) :
    exec (.andRmIbs rm imm) s = perform .g386 (isMem rm) (fun p => alu .and p.osz.width p rm (pure (immSigned p.osz.width imm))) s := rfl
theorem exec_subRm8R8_eq (rm : RM) (reg : Reg) :
    exec (.subRm8R8 rm reg) s = perform .g386 (isMem rm) (fun p => alu .sub .b8 p rm (readReg .b8 reg)) s := rfl
theorem exec_subRmR_eq (rm : RM) (reg : Reg) :
    exec (.subRmR rm reg) s = perform .g386 (isMem rm) (fun p => alu .sub p.osz.width p rm (readReg p.osz.width reg)) s := rfl
theorem exec_subR8Rm8_eq (rm : RM) (reg : Reg) :
    exec (.subR8Rm8 rm reg) s = perform .g386 false (fun p => alu .sub .b8 p (.reg reg) (readRM .b8 p rm)) s := rfl
theorem exec_subRRm_eq (rm : RM) (reg : Reg) :
    exec (.subRRm rm reg) s = perform .g386 false (fun p => alu .sub p.osz.width p (.reg reg) (readRM p.osz.width p rm)) s := rfl
theorem exec_subAlIb_eq (imm : Byte) :
    exec (.subAlIb imm) s = perform .g386 false (fun p => alu .sub .b8 p (.reg .eax) (pure imm)) s := rfl
theorem exec_subEaxIz_eq (imm : Word) :
    exec (.subEaxIz imm) s = perform .g386 false (fun p => alu .sub p.osz.width p (.reg .eax) (pure (immSized p.osz.width imm))) s := rfl
theorem exec_subRm8Ib_eq (rm : RM) (imm : Byte) :
    exec (.subRm8Ib rm imm) s = perform .g386 (isMem rm) (fun p => alu .sub .b8 p rm (pure imm)) s := rfl
theorem exec_subRmIz_eq (rm : RM) (imm : Word) :
    exec (.subRmIz rm imm) s = perform .g386 (isMem rm) (fun p => alu .sub p.osz.width p rm (pure (immSized p.osz.width imm))) s := rfl
theorem exec_subRmIbs_eq (rm : RM) (imm : Byte) :
    exec (.subRmIbs rm imm) s = perform .g386 (isMem rm) (fun p => alu .sub p.osz.width p rm (pure (immSigned p.osz.width imm))) s := rfl
theorem exec_xorRm8R8_eq (rm : RM) (reg : Reg) :
    exec (.xorRm8R8 rm reg) s = perform .g386 (isMem rm) (fun p => alu .xor .b8 p rm (readReg .b8 reg)) s := rfl
theorem exec_xorRmR_eq (rm : RM) (reg : Reg) :
    exec (.xorRmR rm reg) s = perform .g386 (isMem rm) (fun p => alu .xor p.osz.width p rm (readReg p.osz.width reg)) s := rfl
theorem exec_xorR8Rm8_eq (rm : RM) (reg : Reg) :
    exec (.xorR8Rm8 rm reg) s = perform .g386 false (fun p => alu .xor .b8 p (.reg reg) (readRM .b8 p rm)) s := rfl
theorem exec_xorRRm_eq (rm : RM) (reg : Reg) :
    exec (.xorRRm rm reg) s = perform .g386 false (fun p => alu .xor p.osz.width p (.reg reg) (readRM p.osz.width p rm)) s := rfl
theorem exec_xorAlIb_eq (imm : Byte) :
    exec (.xorAlIb imm) s = perform .g386 false (fun p => alu .xor .b8 p (.reg .eax) (pure imm)) s := rfl
theorem exec_xorEaxIz_eq (imm : Word) :
    exec (.xorEaxIz imm) s = perform .g386 false (fun p => alu .xor p.osz.width p (.reg .eax) (pure (immSized p.osz.width imm))) s := rfl
theorem exec_xorRm8Ib_eq (rm : RM) (imm : Byte) :
    exec (.xorRm8Ib rm imm) s = perform .g386 (isMem rm) (fun p => alu .xor .b8 p rm (pure imm)) s := rfl
theorem exec_xorRmIz_eq (rm : RM) (imm : Word) :
    exec (.xorRmIz rm imm) s = perform .g386 (isMem rm) (fun p => alu .xor p.osz.width p rm (pure (immSized p.osz.width imm))) s := rfl
theorem exec_xorRmIbs_eq (rm : RM) (imm : Byte) :
    exec (.xorRmIbs rm imm) s = perform .g386 (isMem rm) (fun p => alu .xor p.osz.width p rm (pure (immSigned p.osz.width imm))) s := rfl
theorem exec_cmpRm8R8_eq (rm : RM) (reg : Reg) :
    exec (.cmpRm8R8 rm reg) s = perform .g386 false (fun p => alu .cmp .b8 p rm (readReg .b8 reg)) s := rfl
theorem exec_cmpRmR_eq (rm : RM) (reg : Reg) :
    exec (.cmpRmR rm reg) s = perform .g386 false (fun p => alu .cmp p.osz.width p rm (readReg p.osz.width reg)) s := rfl
theorem exec_cmpR8Rm8_eq (rm : RM) (reg : Reg) :
    exec (.cmpR8Rm8 rm reg) s = perform .g386 false (fun p => alu .cmp .b8 p (.reg reg) (readRM .b8 p rm)) s := rfl
theorem exec_cmpRRm_eq (rm : RM) (reg : Reg) :
    exec (.cmpRRm rm reg) s = perform .g386 false (fun p => alu .cmp p.osz.width p (.reg reg) (readRM p.osz.width p rm)) s := rfl
theorem exec_cmpAlIb_eq (imm : Byte) :
    exec (.cmpAlIb imm) s = perform .g386 false (fun p => alu .cmp .b8 p (.reg .eax) (pure imm)) s := rfl
theorem exec_cmpEaxIz_eq (imm : Word) :
    exec (.cmpEaxIz imm) s = perform .g386 false (fun p => alu .cmp p.osz.width p (.reg .eax) (pure (immSized p.osz.width imm))) s := rfl
theorem exec_cmpRm8Ib_eq (rm : RM) (imm : Byte) :
    exec (.cmpRm8Ib rm imm) s = perform .g386 false (fun p => alu .cmp .b8 p rm (pure imm)) s := rfl
theorem exec_cmpRmIz_eq (rm : RM) (imm : Word) :
    exec (.cmpRmIz rm imm) s = perform .g386 false (fun p => alu .cmp p.osz.width p rm (pure (immSized p.osz.width imm))) s := rfl
theorem exec_cmpRmIbs_eq (rm : RM) (imm : Byte) :
    exec (.cmpRmIbs rm imm) s = perform .g386 false (fun p => alu .cmp p.osz.width p rm (pure (immSigned p.osz.width imm))) s := rfl
theorem exec_testRm8R8_eq (rm : RM) (reg : Reg) :
    exec (.testRm8R8 rm reg) s = perform .g386 false (fun p => test .b8 p rm (readReg .b8 reg)) s := rfl
theorem exec_testRmR_eq (rm : RM) (reg : Reg) :
    exec (.testRmR rm reg) s = perform .g386 false (fun p => test p.osz.width p rm (readReg p.osz.width reg)) s := rfl
theorem exec_testAlIb_eq (imm : Byte) :
    exec (.testAlIb imm) s = perform .g386 false (fun p => test .b8 p (.reg .eax) (pure imm)) s := rfl
theorem exec_testEaxIz_eq (imm : Word) :
    exec (.testEaxIz imm) s = perform .g386 false (fun p => test p.osz.width p (.reg .eax) (pure (immSized p.osz.width imm))) s := rfl
theorem exec_testRm8Ib_eq (rm : RM) (imm : Byte) :
    exec (.testRm8Ib rm imm) s = perform .g386 false (fun p => test .b8 p rm (pure imm)) s := rfl
theorem exec_testRmIz_eq (rm : RM) (imm : Word) :
    exec (.testRmIz rm imm) s = perform .g386 false (fun p => test p.osz.width p rm (pure (immSized p.osz.width imm))) s := rfl
theorem exec_incR_eq (reg : Reg) :
    exec (.incR reg) s = perform .g386 false (fun p => inc p.osz.width p (.reg reg)) s := rfl
theorem exec_incRm8_eq (rm : RM) :
    exec (.incRm8 rm) s = perform .g386 (isMem rm) (fun p => inc .b8 p rm) s := rfl
theorem exec_incRm_eq (rm : RM) :
    exec (.incRm rm) s = perform .g386 (isMem rm) (fun p => inc p.osz.width p rm) s := rfl
theorem exec_decR_eq (reg : Reg) :
    exec (.decR reg) s = perform .g386 false (fun p => dec p.osz.width p (.reg reg)) s := rfl
theorem exec_decRm8_eq (rm : RM) :
    exec (.decRm8 rm) s = perform .g386 (isMem rm) (fun p => dec .b8 p rm) s := rfl
theorem exec_decRm_eq (rm : RM) :
    exec (.decRm rm) s = perform .g386 (isMem rm) (fun p => dec p.osz.width p rm) s := rfl
theorem exec_notRm8_eq (rm : RM) :
    exec (.notRm8 rm) s = perform .g386 (isMem rm) (fun p => complement .b8 p rm) s := rfl
theorem exec_notRm_eq (rm : RM) :
    exec (.notRm rm) s = perform .g386 (isMem rm) (fun p => complement p.osz.width p rm) s := rfl
theorem exec_negRm8_eq (rm : RM) :
    exec (.negRm8 rm) s = perform .g386 (isMem rm) (fun p => negate .b8 p rm) s := rfl
theorem exec_negRm_eq (rm : RM) :
    exec (.negRm rm) s = perform .g386 (isMem rm) (fun p => negate p.osz.width p rm) s := rfl
theorem exec_mulRm8_eq (rm : RM) :
    exec (.mulRm8 rm) s = perform .g386 false (fun p => mul .b8 p rm) s := rfl
theorem exec_mulRm_eq (rm : RM) :
    exec (.mulRm rm) s = perform .g386 false (fun p => mul p.osz.width p rm) s := rfl
theorem exec_imulRm8_eq (rm : RM) :
    exec (.imulRm8 rm) s = perform .g386 false (fun p => imul .b8 p rm) s := rfl
theorem exec_imulRm_eq (rm : RM) :
    exec (.imulRm rm) s = perform .g386 false (fun p => imul p.osz.width p rm) s := rfl
theorem exec_divRm8_eq (rm : RM) :
    exec (.divRm8 rm) s = perform .g386 false (fun p => div .b8 p rm) s := rfl
theorem exec_divRm_eq (rm : RM) :
    exec (.divRm rm) s = perform .g386 false (fun p => div p.osz.width p rm) s := rfl
theorem exec_idivRm8_eq (rm : RM) :
    exec (.idivRm8 rm) s = perform .g386 false (fun p => idiv .b8 p rm) s := rfl
theorem exec_idivRm_eq (rm : RM) :
    exec (.idivRm rm) s = perform .g386 false (fun p => idiv p.osz.width p rm) s := rfl
theorem exec_imulRRm_eq (rm : RM) (reg : Reg) :
    exec (.imulRRm rm reg) s = perform .g386 false (fun p => imulTo p.osz.width reg (readReg p.osz.width reg) (readRM p.osz.width p rm)) s := rfl
theorem exec_imulRRmIz_eq (rm : RM) (reg : Reg) (imm : Word) :
    exec (.imulRRmIz rm reg imm) s = perform .g386 false (fun p => imulTo p.osz.width reg (readRM p.osz.width p rm) (pure (immSized p.osz.width imm))) s := rfl
theorem exec_imulRRmIbs_eq (rm : RM) (reg : Reg) (imm : Byte) :
    exec (.imulRRmIbs rm reg imm) s = perform .g386 false (fun p => imulTo p.osz.width reg (readRM p.osz.width p rm) (pure (immSigned p.osz.width imm))) s := rfl
theorem exec_rolRm8Ib_eq (rm : RM) (imm : Byte) :
    exec (.rolRm8Ib rm imm) s = perform .g386 false (fun p => shift .rol .b8 p rm (pure imm)) s := rfl
theorem exec_rolRmIb_eq (rm : RM) (imm : Byte) :
    exec (.rolRmIb rm imm) s = perform .g386 false (fun p => shift .rol p.osz.width p rm (pure imm)) s := rfl
theorem exec_rolRm8By1_eq (rm : RM) :
    exec (.rolRm8By1 rm) s = perform .g386 false (fun p => shift .rol .b8 p rm (pure 1#8)) s := rfl
theorem exec_rolRmBy1_eq (rm : RM) :
    exec (.rolRmBy1 rm) s = perform .g386 false (fun p => shift .rol p.osz.width p rm (pure 1#8)) s := rfl
theorem exec_rolRm8Cl_eq (rm : RM) :
    exec (.rolRm8Cl rm) s = perform .g386 false (fun p => shift .rol .b8 p rm readCl) s := rfl
theorem exec_rolRmCl_eq (rm : RM) :
    exec (.rolRmCl rm) s = perform .g386 false (fun p => shift .rol p.osz.width p rm readCl) s := rfl
theorem exec_rorRm8Ib_eq (rm : RM) (imm : Byte) :
    exec (.rorRm8Ib rm imm) s = perform .g386 false (fun p => shift .ror .b8 p rm (pure imm)) s := rfl
theorem exec_rorRmIb_eq (rm : RM) (imm : Byte) :
    exec (.rorRmIb rm imm) s = perform .g386 false (fun p => shift .ror p.osz.width p rm (pure imm)) s := rfl
theorem exec_rorRm8By1_eq (rm : RM) :
    exec (.rorRm8By1 rm) s = perform .g386 false (fun p => shift .ror .b8 p rm (pure 1#8)) s := rfl
theorem exec_rorRmBy1_eq (rm : RM) :
    exec (.rorRmBy1 rm) s = perform .g386 false (fun p => shift .ror p.osz.width p rm (pure 1#8)) s := rfl
theorem exec_rorRm8Cl_eq (rm : RM) :
    exec (.rorRm8Cl rm) s = perform .g386 false (fun p => shift .ror .b8 p rm readCl) s := rfl
theorem exec_rorRmCl_eq (rm : RM) :
    exec (.rorRmCl rm) s = perform .g386 false (fun p => shift .ror p.osz.width p rm readCl) s := rfl
theorem exec_rclRm8Ib_eq (rm : RM) (imm : Byte) :
    exec (.rclRm8Ib rm imm) s = perform .g386 false (fun p => shift .rcl .b8 p rm (pure imm)) s := rfl
theorem exec_rclRmIb_eq (rm : RM) (imm : Byte) :
    exec (.rclRmIb rm imm) s = perform .g386 false (fun p => shift .rcl p.osz.width p rm (pure imm)) s := rfl
theorem exec_rclRm8By1_eq (rm : RM) :
    exec (.rclRm8By1 rm) s = perform .g386 false (fun p => shift .rcl .b8 p rm (pure 1#8)) s := rfl
theorem exec_rclRmBy1_eq (rm : RM) :
    exec (.rclRmBy1 rm) s = perform .g386 false (fun p => shift .rcl p.osz.width p rm (pure 1#8)) s := rfl
theorem exec_rclRm8Cl_eq (rm : RM) :
    exec (.rclRm8Cl rm) s = perform .g386 false (fun p => shift .rcl .b8 p rm readCl) s := rfl
theorem exec_rclRmCl_eq (rm : RM) :
    exec (.rclRmCl rm) s = perform .g386 false (fun p => shift .rcl p.osz.width p rm readCl) s := rfl
theorem exec_rcrRm8Ib_eq (rm : RM) (imm : Byte) :
    exec (.rcrRm8Ib rm imm) s = perform .g386 false (fun p => shift .rcr .b8 p rm (pure imm)) s := rfl
theorem exec_rcrRmIb_eq (rm : RM) (imm : Byte) :
    exec (.rcrRmIb rm imm) s = perform .g386 false (fun p => shift .rcr p.osz.width p rm (pure imm)) s := rfl
theorem exec_rcrRm8By1_eq (rm : RM) :
    exec (.rcrRm8By1 rm) s = perform .g386 false (fun p => shift .rcr .b8 p rm (pure 1#8)) s := rfl
theorem exec_rcrRmBy1_eq (rm : RM) :
    exec (.rcrRmBy1 rm) s = perform .g386 false (fun p => shift .rcr p.osz.width p rm (pure 1#8)) s := rfl
theorem exec_rcrRm8Cl_eq (rm : RM) :
    exec (.rcrRm8Cl rm) s = perform .g386 false (fun p => shift .rcr .b8 p rm readCl) s := rfl
theorem exec_rcrRmCl_eq (rm : RM) :
    exec (.rcrRmCl rm) s = perform .g386 false (fun p => shift .rcr p.osz.width p rm readCl) s := rfl
theorem exec_shlRm8Ib_eq (rm : RM) (imm : Byte) :
    exec (.shlRm8Ib rm imm) s = perform .g386 false (fun p => shift .shl .b8 p rm (pure imm)) s := rfl
theorem exec_shlRmIb_eq (rm : RM) (imm : Byte) :
    exec (.shlRmIb rm imm) s = perform .g386 false (fun p => shift .shl p.osz.width p rm (pure imm)) s := rfl
theorem exec_shlRm8By1_eq (rm : RM) :
    exec (.shlRm8By1 rm) s = perform .g386 false (fun p => shift .shl .b8 p rm (pure 1#8)) s := rfl
theorem exec_shlRmBy1_eq (rm : RM) :
    exec (.shlRmBy1 rm) s = perform .g386 false (fun p => shift .shl p.osz.width p rm (pure 1#8)) s := rfl
theorem exec_shlRm8Cl_eq (rm : RM) :
    exec (.shlRm8Cl rm) s = perform .g386 false (fun p => shift .shl .b8 p rm readCl) s := rfl
theorem exec_shlRmCl_eq (rm : RM) :
    exec (.shlRmCl rm) s = perform .g386 false (fun p => shift .shl p.osz.width p rm readCl) s := rfl
theorem exec_shrRm8Ib_eq (rm : RM) (imm : Byte) :
    exec (.shrRm8Ib rm imm) s = perform .g386 false (fun p => shift .shr .b8 p rm (pure imm)) s := rfl
theorem exec_shrRmIb_eq (rm : RM) (imm : Byte) :
    exec (.shrRmIb rm imm) s = perform .g386 false (fun p => shift .shr p.osz.width p rm (pure imm)) s := rfl
theorem exec_shrRm8By1_eq (rm : RM) :
    exec (.shrRm8By1 rm) s = perform .g386 false (fun p => shift .shr .b8 p rm (pure 1#8)) s := rfl
theorem exec_shrRmBy1_eq (rm : RM) :
    exec (.shrRmBy1 rm) s = perform .g386 false (fun p => shift .shr p.osz.width p rm (pure 1#8)) s := rfl
theorem exec_shrRm8Cl_eq (rm : RM) :
    exec (.shrRm8Cl rm) s = perform .g386 false (fun p => shift .shr .b8 p rm readCl) s := rfl
theorem exec_shrRmCl_eq (rm : RM) :
    exec (.shrRmCl rm) s = perform .g386 false (fun p => shift .shr p.osz.width p rm readCl) s := rfl
theorem exec_sarRm8Ib_eq (rm : RM) (imm : Byte) :
    exec (.sarRm8Ib rm imm) s = perform .g386 false (fun p => shift .sar .b8 p rm (pure imm)) s := rfl
theorem exec_sarRmIb_eq (rm : RM) (imm : Byte) :
    exec (.sarRmIb rm imm) s = perform .g386 false (fun p => shift .sar p.osz.width p rm (pure imm)) s := rfl
theorem exec_sarRm8By1_eq (rm : RM) :
    exec (.sarRm8By1 rm) s = perform .g386 false (fun p => shift .sar .b8 p rm (pure 1#8)) s := rfl
theorem exec_sarRmBy1_eq (rm : RM) :
    exec (.sarRmBy1 rm) s = perform .g386 false (fun p => shift .sar p.osz.width p rm (pure 1#8)) s := rfl
theorem exec_sarRm8Cl_eq (rm : RM) :
    exec (.sarRm8Cl rm) s = perform .g386 false (fun p => shift .sar .b8 p rm readCl) s := rfl
theorem exec_sarRmCl_eq (rm : RM) :
    exec (.sarRmCl rm) s = perform .g386 false (fun p => shift .sar p.osz.width p rm readCl) s := rfl
theorem exec_shldRmRIb_eq (rm : RM) (reg : Reg) (imm : Byte) :
    exec (.shldRmRIb rm reg imm) s = perform .g386 false (fun p => doubleShift true p.osz.width p rm reg (pure imm)) s := rfl
theorem exec_shldRmRCl_eq (rm : RM) (reg : Reg) :
    exec (.shldRmRCl rm reg) s = perform .g386 false (fun p => doubleShift true p.osz.width p rm reg readCl) s := rfl
theorem exec_shrdRmRIb_eq (rm : RM) (reg : Reg) (imm : Byte) :
    exec (.shrdRmRIb rm reg imm) s = perform .g386 false (fun p => doubleShift false p.osz.width p rm reg (pure imm)) s := rfl
theorem exec_shrdRmRCl_eq (rm : RM) (reg : Reg) :
    exec (.shrdRmRCl rm reg) s = perform .g386 false (fun p => doubleShift false p.osz.width p rm reg readCl) s := rfl
theorem exec_btRmR_eq (rm : RM) (reg : Reg) :
    exec (.btRmR rm reg) s = perform .g386 false (fun p => bitTest .bt p.osz.width (bitByReg p.osz.width (BitOp.writes .bt) p rm reg)) s := rfl
theorem exec_btRmIb_eq (rm : RM) (imm : Byte) :
    exec (.btRmIb rm imm) s = perform .g386 false (fun p => bitTest .bt p.osz.width (bitByImm p.osz.width (BitOp.writes .bt) p rm imm)) s := rfl
theorem exec_btsRmR_eq (rm : RM) (reg : Reg) :
    exec (.btsRmR rm reg) s = perform .g386 (isMem rm) (fun p => bitTest .bts p.osz.width (bitByReg p.osz.width (BitOp.writes .bts) p rm reg)) s := rfl
theorem exec_btsRmIb_eq (rm : RM) (imm : Byte) :
    exec (.btsRmIb rm imm) s = perform .g386 (isMem rm) (fun p => bitTest .bts p.osz.width (bitByImm p.osz.width (BitOp.writes .bts) p rm imm)) s := rfl
theorem exec_btrRmR_eq (rm : RM) (reg : Reg) :
    exec (.btrRmR rm reg) s = perform .g386 (isMem rm) (fun p => bitTest .btr p.osz.width (bitByReg p.osz.width (BitOp.writes .btr) p rm reg)) s := rfl
theorem exec_btrRmIb_eq (rm : RM) (imm : Byte) :
    exec (.btrRmIb rm imm) s = perform .g386 (isMem rm) (fun p => bitTest .btr p.osz.width (bitByImm p.osz.width (BitOp.writes .btr) p rm imm)) s := rfl
theorem exec_btcRmR_eq (rm : RM) (reg : Reg) :
    exec (.btcRmR rm reg) s = perform .g386 (isMem rm) (fun p => bitTest .btc p.osz.width (bitByReg p.osz.width (BitOp.writes .btc) p rm reg)) s := rfl
theorem exec_btcRmIb_eq (rm : RM) (imm : Byte) :
    exec (.btcRmIb rm imm) s = perform .g386 (isMem rm) (fun p => bitTest .btc p.osz.width (bitByImm p.osz.width (BitOp.writes .btc) p rm imm)) s := rfl
theorem exec_bsfRRm_eq (rm : RM) (reg : Reg) :
    exec (.bsfRRm rm reg) s = perform .g386 false (fun p => bitScan p.osz.width p rm reg lowestBit) s := rfl
theorem exec_bsrRRm_eq (rm : RM) (reg : Reg) :
    exec (.bsrRRm rm reg) s = perform .g386 false (fun p => bitScan p.osz.width p rm reg highestBit) s := rfl
theorem exec_bswapR32_eq (reg : Reg) :
    exec (.bswapR32 reg) s = perform .g486 false (fun p => byteSwap p.osz reg) s := rfl
theorem exec_movsb_eq :
    exec .movsb s = perform .g386 false (fun p => repeated p neverStop (movs .b8 p)) s := rfl
theorem exec_movsw_eq :
    exec .movsw s = perform .g386 false (fun p => repeated p neverStop (movs p.osz.width p)) s := rfl
theorem exec_cmpsb_eq :
    exec .cmpsb s = perform .g386 false (fun p => repeated p (compareStop p.rep) (cmps .b8 p)) s := rfl
theorem exec_cmpsw_eq :
    exec .cmpsw s = perform .g386 false (fun p => repeated p (compareStop p.rep) (cmps p.osz.width p)) s := rfl
theorem exec_stosb_eq :
    exec .stosb s = perform .g386 false (fun p => repeated p neverStop (stos .b8 p)) s := rfl
theorem exec_stosw_eq :
    exec .stosw s = perform .g386 false (fun p => repeated p neverStop (stos p.osz.width p)) s := rfl
theorem exec_lodsb_eq :
    exec .lodsb s = perform .g386 false (fun p => repeated p neverStop (lods .b8 p)) s := rfl
theorem exec_lodsw_eq :
    exec .lodsw s = perform .g386 false (fun p => repeated p neverStop (lods p.osz.width p)) s := rfl
theorem exec_scasb_eq :
    exec .scasb s = perform .g386 false (fun p => repeated p (compareStop p.rep) (scas .b8 p)) s := rfl
theorem exec_scasw_eq :
    exec .scasw s = perform .g386 false (fun p => repeated p (compareStop p.rep) (scas p.osz.width p)) s := rfl
theorem exec_cmpxchgRm8R8_eq (rm : RM) (reg : Reg) :
    exec (.cmpxchgRm8R8 rm reg) s = perform .g486 (isMem rm) (fun p => compareExchange .b8 p rm reg) s := rfl
theorem exec_cmpxchgRmR_eq (rm : RM) (reg : Reg) :
    exec (.cmpxchgRmR rm reg) s = perform .g486 (isMem rm) (fun p => compareExchange p.osz.width p rm reg) s := rfl
theorem exec_xaddRm8R8_eq (rm : RM) (reg : Reg) :
    exec (.xaddRm8R8 rm reg) s = perform .g486 (isMem rm) (fun p => exchangeAdd .b8 p rm reg) s := rfl
theorem exec_xaddRmR_eq (rm : RM) (reg : Reg) :
    exec (.xaddRmR rm reg) s = perform .g486 (isMem rm) (fun p => exchangeAdd p.osz.width p rm reg) s := rfl
theorem exec_cmpxchg8bM64_eq (m : Mem) :
    exec (.cmpxchg8bM64 m) s = perform .g586 true (fun p => compareExchange8 p m) s := rfl
theorem exec_movRm8R8_eq (rm : RM) (reg : Reg) :
    exec (.movRm8R8 rm reg) s = perform .g386 false (fun p => movRead (readReg .b8 reg) (writeRM .b8 p rm)) s := rfl
theorem exec_movRmR_eq (rm : RM) (reg : Reg) :
    exec (.movRmR rm reg) s = perform .g386 false (fun p => movRead (readReg p.osz.width reg) (writeRM p.osz.width p rm)) s := rfl
theorem exec_movR8Rm8_eq (rm : RM) (reg : Reg) :
    exec (.movR8Rm8 rm reg) s = perform .g386 false (fun p => movRead (readRM .b8 p rm) (writeReg .b8 reg)) s := rfl
theorem exec_movRRm_eq (rm : RM) (reg : Reg) :
    exec (.movRRm rm reg) s = perform .g386 false (fun p => movRead (readRM p.osz.width p rm) (writeReg p.osz.width reg)) s := rfl
theorem exec_movRm8Ib_eq (rm : RM) (imm : Byte) :
    exec (.movRm8Ib rm imm) s = perform .g386 false (fun p => writeRM .b8 p rm imm) s := rfl
theorem exec_movRmIz_eq (rm : RM) (imm : Word) :
    exec (.movRmIz rm imm) s = perform .g386 false (fun p => writeRM p.osz.width p rm (immSized p.osz.width imm)) s := rfl
theorem exec_movR8Ib_eq (reg : Reg) (imm : Byte) :
    exec (.movR8Ib reg imm) s = perform .g386 false (fun _ => writeReg .b8 reg imm) s := rfl
theorem exec_movRIz_eq (reg : Reg) (imm : Word) :
    exec (.movRIz reg imm) s = perform .g386 false (fun p => writeReg p.osz.width reg (immSized p.osz.width imm)) s := rfl
theorem exec_movAlMoffs_eq (off : Word) :
    exec (.movAlMoffs off) s = perform .g386 false (fun p => loadMoffs .b8 p off) s := rfl
theorem exec_movEaxMoffs_eq (off : Word) :
    exec (.movEaxMoffs off) s = perform .g386 false (fun p => loadMoffs p.osz.width p off) s := rfl
theorem exec_movMoffsAl_eq (off : Word) :
    exec (.movMoffsAl off) s = perform .g386 false (fun p => storeMoffs .b8 p off) s := rfl
theorem exec_movMoffsEax_eq (off : Word) :
    exec (.movMoffsEax off) s = perform .g386 false (fun p => storeMoffs p.osz.width p off) s := rfl
theorem exec_xchgRm8R8_eq (rm : RM) (reg : Reg) :
    exec (.xchgRm8R8 rm reg) s = perform .g386 (isMem rm) (fun p => exchange .b8 p rm reg) s := rfl
theorem exec_xchgRmR_eq (rm : RM) (reg : Reg) :
    exec (.xchgRmR rm reg) s = perform .g386 (isMem rm) (fun p => exchange p.osz.width p rm reg) s := rfl
theorem exec_xchgEaxR_eq (reg : Reg) :
    exec (.xchgEaxR reg) s = perform .g386 false (fun p => exchange p.osz.width p (.reg .eax) reg) s := rfl
theorem exec_nop_eq :
    exec .nop s = perform .g386 false (fun _ => pure ()) s := rfl
theorem exec_leaRM_eq (m : Mem) (reg : Reg) :
    exec (.leaRM m reg) s = perform .g386 false (fun p => loadAddress p.osz.width m reg) s := rfl
theorem exec_movzxRRm8_eq (rm : RM) (reg : Reg) :
    exec (.movzxRRm8 rm reg) s = perform .g386 false (fun p => extend false .b8 p rm reg) s := rfl
theorem exec_movzxRRm16_eq (rm : RM) (reg : Reg) :
    exec (.movzxRRm16 rm reg) s = perform .g386 false (fun p => extend false .b16 p rm reg) s := rfl
theorem exec_movsxRRm8_eq (rm : RM) (reg : Reg) :
    exec (.movsxRRm8 rm reg) s = perform .g386 false (fun p => extend true .b8 p rm reg) s := rfl
theorem exec_movsxRRm16_eq (rm : RM) (reg : Reg) :
    exec (.movsxRRm16 rm reg) s = perform .g386 false (fun p => extend true .b16 p rm reg) s := rfl
theorem exec_cbw_eq :
    exec .cbw s = perform .g386 false (fun p => convertAcc p.osz) s := rfl
theorem exec_cwd_eq :
    exec .cwd s = perform .g386 false (fun p => signFill p.osz.width) s := rfl
theorem exec_pushR_eq (reg : Reg) :
    exec (.pushR reg) s = perform .g386 false (fun p => movRead (readReg p.osz.width reg) push) s := rfl
theorem exec_popR_eq (reg : Reg) :
    exec (.popR reg) s = perform .g386 false (fun p => movRead (pop p.osz.width.bits) (writeReg p.osz.width reg)) s := rfl
theorem exec_pushIz_eq (imm : Word) :
    exec (.pushIz imm) s = perform .g386 false (fun p => push (immSized p.osz.width imm)) s := rfl
theorem exec_pushIbs_eq (imm : Byte) :
    exec (.pushIbs imm) s = perform .g386 false (fun p => push (immSigned p.osz.width imm)) s := rfl
theorem exec_pushRm_eq (rm : RM) :
    exec (.pushRm rm) s = perform .g386 false (fun p => movRead (readRM p.osz.width p rm) push) s := rfl
theorem exec_popRm_eq (rm : RM) :
    exec (.popRm rm) s = perform .g386 false (fun p => movRead (pop p.osz.width.bits) (writeRM p.osz.width p rm)) s := rfl
theorem exec_pusha_eq :
    exec .pusha s = perform .g386 false (fun p => pushAll p.osz.width) s := rfl
theorem exec_popa_eq :
    exec .popa s = perform .g386 false (fun p => popAll p.osz.width) s := rfl
theorem exec_xlat_eq :
    exec .xlat s = perform .g386 false (fun p => translateByte p) s := rfl
theorem exec_leave_eq :
    exec .leave s = perform .g386 false (fun p => leaveFrame p.osz.width) s := rfl
theorem exec_jccRel8_eq (cc : Cond) (rel : Byte) :
    exec (.jccRel8 cc rel) s = perform .g386 false (fun p => branchIf p.osz (fun s => condHolds cc s.eflags) (rel.signExtend 32)) s := rfl
theorem exec_jccRelz_eq (cc : Cond) (rel : Word) :
    exec (.jccRelz cc rel) s = perform .g386 false (fun p => branchIf p.osz (fun s => condHolds cc s.eflags) (relSized p.osz rel)) s := rfl
theorem exec_jmpRel8_eq (rel : Byte) :
    exec (.jmpRel8 rel) s = perform .g386 false (fun p => branchIf p.osz (fun _ => true) (rel.signExtend 32)) s := rfl
theorem exec_jmpRelz_eq (rel : Word) :
    exec (.jmpRelz rel) s = perform .g386 false (fun p => branchIf p.osz (fun _ => true) (relSized p.osz rel)) s := rfl
theorem exec_loopRel8_eq (rel : Byte) :
    exec (.loopRel8 rel) s = perform .g386 false (fun p => loopIf p (fun _ => true) (rel.signExtend 32)) s := rfl
theorem exec_loopeRel8_eq (rel : Byte) :
    exec (.loopeRel8 rel) s = perform .g386 false (fun p => loopIf p (fun s => s.flag .zf) (rel.signExtend 32)) s := rfl
theorem exec_loopneRel8_eq (rel : Byte) :
    exec (.loopneRel8 rel) s = perform .g386 false (fun p => loopIf p (fun s => !s.flag .zf) (rel.signExtend 32)) s := rfl
theorem exec_jcxzRel8_eq (rel : Byte) :
    exec (.jcxzRel8 rel) s = perform .g386 false (fun p => branchIf p.osz (fun s => addrReg p.asz .ecx s == 0#32) (rel.signExtend 32)) s := rfl
theorem exec_jmpRm_eq (rm : RM) :
    exec (.jmpRm rm) s = perform .g386 false (fun p => jumpIndirect p rm) s := rfl
theorem exec_callRelz_eq (rel : Word) :
    exec (.callRelz rel) s = perform .g386 false (fun p => callRelative p (relSized p.osz rel)) s := rfl
theorem exec_callRm_eq (rm : RM) :
    exec (.callRm rm) s = perform .g386 false (fun p => callIndirect p rm) s := rfl
theorem exec_ret_eq :
    exec .ret s = perform .g386 false (fun p => returnNear p 0#16) s := rfl
theorem exec_retIw_eq (imm : BitVec 16) :
    exec (.retIw imm) s = perform .g386 false (fun p => returnNear p imm) s := rfl
theorem exec_jmpPtr_eq (off : Word) (sel : Sel) :
    exec (.jmpPtr off sel) s = perform .g386 false (fun p => farJump p (pure (off, sel))) s := rfl
theorem exec_jmpMemFar_eq (m : Mem) :
    exec (.jmpMemFar m) s = perform .g386 false (fun p => farJump p (readFarPointer p m)) s := rfl
theorem exec_callPtr_eq (off : Word) (sel : Sel) :
    exec (.callPtr off sel) s = perform .g386 false (fun p => farCall p (pure (off, sel))) s := rfl
theorem exec_callMemFar_eq (m : Mem) :
    exec (.callMemFar m) s = perform .g386 false (fun p => farCall p (readFarPointer p m)) s := rfl
theorem exec_retf_eq :
    exec .retf s = perform .g386 false (fun p => returnFar p .ret 0#16) s := rfl
theorem exec_retfIw_eq (imm : BitVec 16) :
    exec (.retfIw imm) s = perform .g386 false (fun p => returnFar p (.retfImm imm) imm) s := rfl
theorem exec_iret_eq :
    exec .iret s = perform .g386 false (fun p => interruptReturn p) s := rfl
theorem exec_intIb_eq (imm : Byte) :
    exec (.intIb imm) s = perform .g386 false (fun _ => stop (.trap imm .software)) s := rfl
theorem exec_int3_eq :
    exec .int3 s = perform .g386 false (fun _ => stop (.trap 3#8 .software)) s := rfl
theorem exec_into_eq :
    exec .into s = perform .g386 false (fun _ => trapOnOverflow) s := rfl
theorem exec_pushf_eq :
    exec .pushf s = perform .g386 false (fun p => pushFlags p.osz) s := rfl
theorem exec_popf_eq :
    exec .popf s = perform .g386 false (fun p => popFlags p.osz) s := rfl
theorem exec_sahf_eq :
    exec .sahf s = perform .g386 false (fun _ => storeAh) s := rfl
theorem exec_lahf_eq :
    exec .lahf s = perform .g386 false (fun _ => loadAh) s := rfl
theorem exec_clc_eq :
    exec .clc s = perform .g386 false (fun _ => update fun s => s.setFlag .cf false) s := rfl
theorem exec_stc_eq :
    exec .stc s = perform .g386 false (fun _ => update fun s => s.setFlag .cf true) s := rfl
theorem exec_cmc_eq :
    exec .cmc s = perform .g386 false (fun _ => update fun s => s.setFlag .cf (!s.flag .cf)) s := rfl
theorem exec_cld_eq :
    exec .cld s = perform .g386 false (fun _ => update fun s => s.setFlag .df false) s := rfl
theorem exec_std_eq :
    exec .std s = perform .g386 false (fun _ => update fun s => s.setFlag .df true) s := rfl
theorem exec_cli_eq :
    exec .cli s = perform .g386 false (fun _ => clearInterrupt) s := rfl
theorem exec_sti_eq :
    exec .sti s = perform .g386 false (fun _ => setInterrupt) s := rfl
theorem exec_setccRm8_eq (cc : Cond) (rm : RM) :
    exec (.setccRm8 cc rm) s = perform .g386 false (fun p => setByte cc p rm) s := rfl
theorem exec_movSregRm16_eq (rm : RM) (sreg : SegReg) :
    exec (.movSregRm16 rm sreg) s = perform .g386 false (fun p => moveToSeg p rm sreg) s := rfl
theorem exec_movRm16Sreg_eq (rm : RM) (sreg : SegReg) :
    exec (.movRm16Sreg rm sreg) s = perform .g386 false (fun p => movRead (look fun s => (s.seg sreg).sel) (storeWord p rm)) s := rfl
theorem exec_pushEs_eq :
    exec .pushEs s = perform .g386 false (fun p => pushSegReg p.osz .es) s := rfl
theorem exec_pushCs_eq :
    exec .pushCs s = perform .g386 false (fun p => pushSegReg p.osz .cs) s := rfl
theorem exec_pushSs_eq :
    exec .pushSs s = perform .g386 false (fun p => pushSegReg p.osz .ss) s := rfl
theorem exec_pushDs_eq :
    exec .pushDs s = perform .g386 false (fun p => pushSegReg p.osz .ds) s := rfl
theorem exec_pushFs_eq :
    exec .pushFs s = perform .g386 false (fun p => pushSegReg p.osz .fs) s := rfl
theorem exec_pushGs_eq :
    exec .pushGs s = perform .g386 false (fun p => pushSegReg p.osz .gs) s := rfl
theorem exec_popEs_eq :
    exec .popEs s = perform .g386 false (fun p => popSegReg p.osz .es) s := rfl
theorem exec_popSs_eq :
    exec .popSs s = perform .g386 false (fun p => popSegReg p.osz .ss) s := rfl
theorem exec_popDs_eq :
    exec .popDs s = perform .g386 false (fun p => popSegReg p.osz .ds) s := rfl
theorem exec_popFs_eq :
    exec .popFs s = perform .g386 false (fun p => popSegReg p.osz .fs) s := rfl
theorem exec_popGs_eq :
    exec .popGs s = perform .g386 false (fun p => popSegReg p.osz .gs) s := rfl
theorem exec_ldsRMemFar_eq (m : Mem) (reg : Reg) :
    exec (.ldsRMemFar m reg) s = perform .g386 false (fun p => loadFarPointer p m reg .ds) s := rfl
theorem exec_lesRMemFar_eq (m : Mem) (reg : Reg) :
    exec (.lesRMemFar m reg) s = perform .g386 false (fun p => loadFarPointer p m reg .es) s := rfl
theorem exec_lssRMemFar_eq (m : Mem) (reg : Reg) :
    exec (.lssRMemFar m reg) s = perform .g386 false (fun p => loadFarPointer p m reg .ss) s := rfl
theorem exec_lfsRMemFar_eq (m : Mem) (reg : Reg) :
    exec (.lfsRMemFar m reg) s = perform .g386 false (fun p => loadFarPointer p m reg .fs) s := rfl
theorem exec_lgsRMemFar_eq (m : Mem) (reg : Reg) :
    exec (.lgsRMemFar m reg) s = perform .g386 false (fun p => loadFarPointer p m reg .gs) s := rfl
theorem exec_movCr0R32_eq (reg : Reg) :
    exec (.movCr0R32 reg) s = perform .g386 false (fun _ => writeCr0 reg) s := rfl
theorem exec_movCr2R32_eq (reg : Reg) :
    exec (.movCr2R32 reg) s = perform .g386 false (fun _ => writeCr2 reg) s := rfl
theorem exec_movCr3R32_eq (reg : Reg) :
    exec (.movCr3R32 reg) s = perform .g386 false (fun _ => writeCr3 reg) s := rfl
theorem exec_movR32Cr0_eq (reg : Reg) :
    exec (.movR32Cr0 reg) s = perform .g386 false (fun _ => readCr State.cr0 reg) s := rfl
theorem exec_movR32Cr2_eq (reg : Reg) :
    exec (.movR32Cr2 reg) s = perform .g386 false (fun _ => readCr State.cr2 reg) s := rfl
theorem exec_movR32Cr3_eq (reg : Reg) :
    exec (.movR32Cr3 reg) s = perform .g386 false (fun _ => readCr State.cr3 reg) s := rfl
theorem exec_smswRm16_eq (rm : RM) :
    exec (.smswRm16 rm) s = perform .g386 false (fun p => movRead (look fun s => s.cr0.setWidth 16) (storeWord p rm)) s := rfl
theorem exec_lmswRm16_eq (rm : RM) :
    exec (.lmswRm16 rm) s = perform .g386 false (fun p => loadStatusWord p rm) s := rfl
theorem exec_invlpgM_eq (m : Mem) :
    exec (.invlpgM m) s = perform .g486 false (fun _ => invalidatePage m) s := rfl
theorem exec_clts_eq :
    exec .clts s = perform .g386 false (fun _ => clearTaskSwitched) s := rfl
theorem exec_invd_eq :
    exec .invd s = perform .g486 false (fun _ => privCheck) s := rfl
theorem exec_wbinvd_eq :
    exec .wbinvd s = perform .g486 false (fun _ => privCheck) s := rfl
theorem exec_hlt_eq :
    exec .hlt s = perform .g386 false (fun _ => halt) s := rfl
theorem exec_ud2_eq :
    exec .ud2 s = perform .g386 false (fun _ => raiseUd) s := rfl

end Sys2Proof.Machine
end

