-- ==== Sys2Proof/Laws/Shapes.lean ====
section
/-! SUPPORT. What an instruction of each shape does, in terms of the shared operation its meaning calls: one lemma per shape of Claims.lean,
so that a proof about the shape never takes its constructors apart again. -/

namespace Sys2Proof.Machine

variable {i : Instr} {s : State}

/-- A byte extended with its sign and cut again. -/
theorem signExtend_cut (v : Byte) (n : Nat) (h : n ≤ 32) : (v.signExtend 32).setWidth n = v.signExtend n := by
  apply BitVec.eq_of_getLsbD_eq
  intro k hk
  simp only [BitVec.getLsbD_setWidth, BitVec.getLsbD_signExtend]
  have : k < 32 := by omega
  simp [hk, this]

/-- An immediate byte extended to opsize. -/
theorem imm_signed (w : Width) (v : Byte) : (v.signExtend 32).setWidth w.bits = immSigned w v :=
  signExtend_cut v w.bits (by cases w <;> decide)

/-- An immediate byte. -/
theorem imm_byte (v : Byte) : (v.setWidth 32).setWidth 8 = v := by simp

theorem get_imm_byte (p : Pfx) (v : Byte) : Src.get .b8 p (.imm (v.setWidth 32)) = pure v := congrArg pure (imm_byte v)

theorem get_imm_signed (w : Width) (p : Pfx) (v : Byte) : Src.get w p (.imm (v.signExtend 32)) = pure (immSigned w v) :=
  congrArg pure (imm_signed w v)

/-- The body of an instruction under the prefixes of its state. -/
theorem exec_body {gen : CpuGen} {lockable : Bool} {body : Pfx → Act Unit} {a : Act Unit} (h : exec i s = perform gen lockable body s)
    (hb : body s.pfx = a) : exec i s = perform gen lockable (fun _ => a) s := by
  rw [h, ← hb]
  rfl

/-- INC, DEC, NOT or NEG. -/
def unaryBody (op : UnaryOp) (w : Width) (p : Pfx) (rm : RM) : Act Unit :=
  match op with
  | .inc => inc w p rm
  | .dec => dec w p rm
  | .not => complement w p rm
  | .neg => negate w p rm

/-- The operand and bit of a bit test, by a register or an immediate (spec/43_bit_manipulation.md R461, R462). -/
def bitTarget (op : BitOp) (w : Width) (p : Pfx) (rm : RM) (k : Reg ⊕ Byte) : Act (Place × Nat) :=
  match k with
  | .inl r => bitByReg w op.writes p rm r
  | .inr imm => bitByImm w op.writes p rm imm

/-- The ALU instructions (spec/41_arithmetic.md R354). -/
theorem exec_alu {x : AluParts} (h : aluParts s.pfx i = some x) :
    exec i s = perform .g386 (x.op.writes && isMem x.dst) (fun _ => alu x.op x.w s.pfx x.dst (x.src.get x.w s.pfx)) s := by
  cases i with
  | addRm8R8 rm reg => cases h; exact exec_body (exec_addRm8R8_eq s _ _) rfl
  | addRmR rm reg => cases h; exact exec_body (exec_addRmR_eq s _ _) rfl
  | addR8Rm8 rm reg => cases h; exact exec_body (exec_addR8Rm8_eq s _ _) rfl
  | addRRm rm reg => cases h; exact exec_body (exec_addRRm_eq s _ _) rfl
  | addAlIb imm => cases h; exact exec_body (exec_addAlIb_eq s _) (congrArg (alu _ _ _ _) (get_imm_byte _ _).symm)
  | addEaxIz imm => cases h; exact exec_body (exec_addEaxIz_eq s _) rfl
  | addRm8Ib rm imm => cases h; exact exec_body (exec_addRm8Ib_eq s _ _) (congrArg (alu _ _ _ _) (get_imm_byte _ _).symm)
  | addRmIz rm imm => cases h; exact exec_body (exec_addRmIz_eq s _ _) rfl
  | addRmIbs rm imm => cases h; exact exec_body (exec_addRmIbs_eq s _ _) (congrArg (alu _ _ _ _) (get_imm_signed _ _ _).symm)
  | orRm8R8 rm reg => cases h; exact exec_body (exec_orRm8R8_eq s _ _) rfl
  | orRmR rm reg => cases h; exact exec_body (exec_orRmR_eq s _ _) rfl
  | orR8Rm8 rm reg => cases h; exact exec_body (exec_orR8Rm8_eq s _ _) rfl
  | orRRm rm reg => cases h; exact exec_body (exec_orRRm_eq s _ _) rfl
  | orAlIb imm => cases h; exact exec_body (exec_orAlIb_eq s _) (congrArg (alu _ _ _ _) (get_imm_byte _ _).symm)
  | orEaxIz imm => cases h; exact exec_body (exec_orEaxIz_eq s _) rfl
  | orRm8Ib rm imm => cases h; exact exec_body (exec_orRm8Ib_eq s _ _) (congrArg (alu _ _ _ _) (get_imm_byte _ _).symm)
  | orRmIz rm imm => cases h; exact exec_body (exec_orRmIz_eq s _ _) rfl
  | orRmIbs rm imm => cases h; exact exec_body (exec_orRmIbs_eq s _ _) (congrArg (alu _ _ _ _) (get_imm_signed _ _ _).symm)
  | adcRm8R8 rm reg => cases h; exact exec_body (exec_adcRm8R8_eq s _ _) rfl
  | adcRmR rm reg => cases h; exact exec_body (exec_adcRmR_eq s _ _) rfl
  | adcR8Rm8 rm reg => cases h; exact exec_body (exec_adcR8Rm8_eq s _ _) rfl
  | adcRRm rm reg => cases h; exact exec_body (exec_adcRRm_eq s _ _) rfl
  | adcAlIb imm => cases h; exact exec_body (exec_adcAlIb_eq s _) (congrArg (alu _ _ _ _) (get_imm_byte _ _).symm)
  | adcEaxIz imm => cases h; exact exec_body (exec_adcEaxIz_eq s _) rfl
  | adcRm8Ib rm imm => cases h; exact exec_body (exec_adcRm8Ib_eq s _ _) (congrArg (alu _ _ _ _) (get_imm_byte _ _).symm)
  | adcRmIz rm imm => cases h; exact exec_body (exec_adcRmIz_eq s _ _) rfl
  | adcRmIbs rm imm => cases h; exact exec_body (exec_adcRmIbs_eq s _ _) (congrArg (alu _ _ _ _) (get_imm_signed _ _ _).symm)
  | sbbRm8R8 rm reg => cases h; exact exec_body (exec_sbbRm8R8_eq s _ _) rfl
  | sbbRmR rm reg => cases h; exact exec_body (exec_sbbRmR_eq s _ _) rfl
  | sbbR8Rm8 rm reg => cases h; exact exec_body (exec_sbbR8Rm8_eq s _ _) rfl
  | sbbRRm rm reg => cases h; exact exec_body (exec_sbbRRm_eq s _ _) rfl
  | sbbAlIb imm => cases h; exact exec_body (exec_sbbAlIb_eq s _) (congrArg (alu _ _ _ _) (get_imm_byte _ _).symm)
  | sbbEaxIz imm => cases h; exact exec_body (exec_sbbEaxIz_eq s _) rfl
  | sbbRm8Ib rm imm => cases h; exact exec_body (exec_sbbRm8Ib_eq s _ _) (congrArg (alu _ _ _ _) (get_imm_byte _ _).symm)
  | sbbRmIz rm imm => cases h; exact exec_body (exec_sbbRmIz_eq s _ _) rfl
  | sbbRmIbs rm imm => cases h; exact exec_body (exec_sbbRmIbs_eq s _ _) (congrArg (alu _ _ _ _) (get_imm_signed _ _ _).symm)
  | andRm8R8 rm reg => cases h; exact exec_body (exec_andRm8R8_eq s _ _) rfl
  | andRmR rm reg => cases h; exact exec_body (exec_andRmR_eq s _ _) rfl
  | andR8Rm8 rm reg => cases h; exact exec_body (exec_andR8Rm8_eq s _ _) rfl
  | andRRm rm reg => cases h; exact exec_body (exec_andRRm_eq s _ _) rfl
  | andAlIb imm => cases h; exact exec_body (exec_andAlIb_eq s _) (congrArg (alu _ _ _ _) (get_imm_byte _ _).symm)
  | andEaxIz imm => cases h; exact exec_body (exec_andEaxIz_eq s _) rfl
  | andRm8Ib rm imm => cases h; exact exec_body (exec_andRm8Ib_eq s _ _) (congrArg (alu _ _ _ _) (get_imm_byte _ _).symm)
  | andRmIz rm imm => cases h; exact exec_body (exec_andRmIz_eq s _ _) rfl
  | andRmIbs rm imm => cases h; exact exec_body (exec_andRmIbs_eq s _ _) (congrArg (alu _ _ _ _) (get_imm_signed _ _ _).symm)
  | subRm8R8 rm reg => cases h; exact exec_body (exec_subRm8R8_eq s _ _) rfl
  | subRmR rm reg => cases h; exact exec_body (exec_subRmR_eq s _ _) rfl
  | subR8Rm8 rm reg => cases h; exact exec_body (exec_subR8Rm8_eq s _ _) rfl
  | subRRm rm reg => cases h; exact exec_body (exec_subRRm_eq s _ _) rfl
  | subAlIb imm => cases h; exact exec_body (exec_subAlIb_eq s _) (congrArg (alu _ _ _ _) (get_imm_byte _ _).symm)
  | subEaxIz imm => cases h; exact exec_body (exec_subEaxIz_eq s _) rfl
  | subRm8Ib rm imm => cases h; exact exec_body (exec_subRm8Ib_eq s _ _) (congrArg (alu _ _ _ _) (get_imm_byte _ _).symm)
  | subRmIz rm imm => cases h; exact exec_body (exec_subRmIz_eq s _ _) rfl
  | subRmIbs rm imm => cases h; exact exec_body (exec_subRmIbs_eq s _ _) (congrArg (alu _ _ _ _) (get_imm_signed _ _ _).symm)
  | xorRm8R8 rm reg => cases h; exact exec_body (exec_xorRm8R8_eq s _ _) rfl
  | xorRmR rm reg => cases h; exact exec_body (exec_xorRmR_eq s _ _) rfl
  | xorR8Rm8 rm reg => cases h; exact exec_body (exec_xorR8Rm8_eq s _ _) rfl
  | xorRRm rm reg => cases h; exact exec_body (exec_xorRRm_eq s _ _) rfl
  | xorAlIb imm => cases h; exact exec_body (exec_xorAlIb_eq s _) (congrArg (alu _ _ _ _) (get_imm_byte _ _).symm)
  | xorEaxIz imm => cases h; exact exec_body (exec_xorEaxIz_eq s _) rfl
  | xorRm8Ib rm imm => cases h; exact exec_body (exec_xorRm8Ib_eq s _ _) (congrArg (alu _ _ _ _) (get_imm_byte _ _).symm)
  | xorRmIz rm imm => cases h; exact exec_body (exec_xorRmIz_eq s _ _) rfl
  | xorRmIbs rm imm => cases h; exact exec_body (exec_xorRmIbs_eq s _ _) (congrArg (alu _ _ _ _) (get_imm_signed _ _ _).symm)
  | cmpRm8R8 rm reg => cases h; exact exec_body (exec_cmpRm8R8_eq s _ _) rfl
  | cmpRmR rm reg => cases h; exact exec_body (exec_cmpRmR_eq s _ _) rfl
  | cmpR8Rm8 rm reg => cases h; exact exec_body (exec_cmpR8Rm8_eq s _ _) rfl
  | cmpRRm rm reg => cases h; exact exec_body (exec_cmpRRm_eq s _ _) rfl
  | cmpAlIb imm => cases h; exact exec_body (exec_cmpAlIb_eq s _) (congrArg (alu _ _ _ _) (get_imm_byte _ _).symm)
  | cmpEaxIz imm => cases h; exact exec_body (exec_cmpEaxIz_eq s _) rfl
  | cmpRm8Ib rm imm => cases h; exact exec_body (exec_cmpRm8Ib_eq s _ _) (congrArg (alu _ _ _ _) (get_imm_byte _ _).symm)
  | cmpRmIz rm imm => cases h; exact exec_body (exec_cmpRmIz_eq s _ _) rfl
  | cmpRmIbs rm imm => cases h; exact exec_body (exec_cmpRmIbs_eq s _ _) (congrArg (alu _ _ _ _) (get_imm_signed _ _ _).symm)
  | _ => cases h

/-- TEST (R363). -/
theorem exec_test {w : Width} {dst : RM} {src : Src} (h : testParts s.pfx i = some (w, dst, src)) :
    exec i s = perform .g386 false (fun _ => test w s.pfx dst (src.get w s.pfx)) s := by
  cases i with
  | testRm8R8 rm reg => cases h; exact exec_body (exec_testRm8R8_eq s _ _) rfl
  | testRmR rm reg => cases h; exact exec_body (exec_testRmR_eq s _ _) rfl
  | testAlIb imm => cases h; exact exec_body (exec_testAlIb_eq s _) (congrArg (test _ _ _) (get_imm_byte _ _).symm)
  | testEaxIz imm => cases h; exact exec_body (exec_testEaxIz_eq s _) rfl
  | testRm8Ib rm imm => cases h; exact exec_body (exec_testRm8Ib_eq s _ _) (congrArg (test _ _ _) (get_imm_byte _ _).symm)
  | testRmIz rm imm => cases h; exact exec_body (exec_testRmIz_eq s _ _) rfl
  | _ => cases h

/-- INC, DEC, NOT and NEG (R364 to R367). -/
theorem exec_unary {op : UnaryOp} {w : Width} {rm : RM} (h : unaryParts s.pfx i = some (op, w, rm)) :
    exec i s = perform .g386 (lockAllowed i) (fun _ => unaryBody op w s.pfx rm) s := by
  cases i with
  | incR reg => cases h; exact exec_body (exec_incR_eq s _) rfl
  | decR reg => cases h; exact exec_body (exec_decR_eq s _) rfl
  | incRm8 rm => cases h; exact exec_body (exec_incRm8_eq s _) rfl
  | incRm rm => cases h; exact exec_body (exec_incRm_eq s _) rfl
  | decRm8 rm => cases h; exact exec_body (exec_decRm8_eq s _) rfl
  | decRm rm => cases h; exact exec_body (exec_decRm_eq s _) rfl
  | notRm8 rm => cases h; exact exec_body (exec_notRm8_eq s _) rfl
  | notRm rm => cases h; exact exec_body (exec_notRm_eq s _) rfl
  | negRm8 rm => cases h; exact exec_body (exec_negRm8_eq s _) rfl
  | negRm rm => cases h; exact exec_body (exec_negRm_eq s _) rfl
  | _ => cases h

/-- MUL and one-operand IMUL (R368, R369). -/
theorem exec_mul {signed : Bool} {w : Width} {rm : RM} (h : mulParts s.pfx i = some (signed, w, rm)) :
    exec i s = perform .g386 false (fun _ => (if signed then imul w s.pfx rm else mul w s.pfx rm)) s := by
  cases i with
  | mulRm8 rm => cases h; exact exec_body (exec_mulRm8_eq s _) rfl
  | mulRm rm => cases h; exact exec_body (exec_mulRm_eq s _) rfl
  | imulRm8 rm => cases h; exact exec_body (exec_imulRm8_eq s _) rfl
  | imulRm rm => cases h; exact exec_body (exec_imulRm_eq s _) rfl
  | _ => cases h

/-- IMUL with two or three operands (R370, R371). -/
theorem exec_imul {w : Width} {r : Reg} {x y : Src} (h : imulParts s.pfx i = some (w, r, x, y)) :
    exec i s = perform .g386 false (fun _ => imulTo w r (x.get w s.pfx) (y.get w s.pfx)) s := by
  cases i with
  | imulRRm rm reg => cases h; exact exec_body (exec_imulRRm_eq s _ _) rfl
  | imulRRmIz rm reg imm => cases h; exact exec_body (exec_imulRRmIz_eq s _ _ _) rfl
  | imulRRmIbs rm reg imm => cases h; exact exec_body (exec_imulRRmIbs_eq s _ _ _) (congrArg (imulTo _ _ _) (get_imm_signed _ _ _).symm)
  | _ => cases h

/-- DIV and IDIV (R372, R373). -/
theorem exec_div {signed : Bool} {w : Width} {rm : RM} (h : divParts s.pfx i = some (signed, w, rm)) :
    exec i s = perform .g386 false (fun _ => (if signed then idiv w s.pfx rm else div w s.pfx rm)) s := by
  cases i with
  | divRm8 rm => cases h; exact exec_body (exec_divRm8_eq s _) rfl
  | divRm rm => cases h; exact exec_body (exec_divRm_eq s _) rfl
  | idivRm8 rm => cases h; exact exec_body (exec_idivRm8_eq s _) rfl
  | idivRm rm => cases h; exact exec_body (exec_idivRm_eq s _) rfl
  | _ => cases h

/-- The shifts and rotates (spec/42_shift_rotate.md R420). -/
theorem exec_shift {op : ShiftOp} {w : Width} {rm : RM} {count : State → Byte} (h : shiftParts s.pfx i = some (op, w, rm, count)) :
    exec i s = perform .g386 false (fun _ => shift op w s.pfx rm (look count)) s := by
  cases i with
  | rolRm8Ib rm imm => cases h; exact exec_body (exec_rolRm8Ib_eq s _ _) rfl
  | rolRm8By1 rm => cases h; exact exec_body (exec_rolRm8By1_eq s _) rfl
  | rolRm8Cl rm => cases h; exact exec_body (exec_rolRm8Cl_eq s _) rfl
  | rolRmIb rm imm => cases h; exact exec_body (exec_rolRmIb_eq s _ _) rfl
  | rolRmBy1 rm => cases h; exact exec_body (exec_rolRmBy1_eq s _) rfl
  | rolRmCl rm => cases h; exact exec_body (exec_rolRmCl_eq s _) rfl
  | rorRm8Ib rm imm => cases h; exact exec_body (exec_rorRm8Ib_eq s _ _) rfl
  | rorRm8By1 rm => cases h; exact exec_body (exec_rorRm8By1_eq s _) rfl
  | rorRm8Cl rm => cases h; exact exec_body (exec_rorRm8Cl_eq s _) rfl
  | rorRmIb rm imm => cases h; exact exec_body (exec_rorRmIb_eq s _ _) rfl
  | rorRmBy1 rm => cases h; exact exec_body (exec_rorRmBy1_eq s _) rfl
  | rorRmCl rm => cases h; exact exec_body (exec_rorRmCl_eq s _) rfl
  | rclRm8Ib rm imm => cases h; exact exec_body (exec_rclRm8Ib_eq s _ _) rfl
  | rclRm8By1 rm => cases h; exact exec_body (exec_rclRm8By1_eq s _) rfl
  | rclRm8Cl rm => cases h; exact exec_body (exec_rclRm8Cl_eq s _) rfl
  | rclRmIb rm imm => cases h; exact exec_body (exec_rclRmIb_eq s _ _) rfl
  | rclRmBy1 rm => cases h; exact exec_body (exec_rclRmBy1_eq s _) rfl
  | rclRmCl rm => cases h; exact exec_body (exec_rclRmCl_eq s _) rfl
  | rcrRm8Ib rm imm => cases h; exact exec_body (exec_rcrRm8Ib_eq s _ _) rfl
  | rcrRm8By1 rm => cases h; exact exec_body (exec_rcrRm8By1_eq s _) rfl
  | rcrRm8Cl rm => cases h; exact exec_body (exec_rcrRm8Cl_eq s _) rfl
  | rcrRmIb rm imm => cases h; exact exec_body (exec_rcrRmIb_eq s _ _) rfl
  | rcrRmBy1 rm => cases h; exact exec_body (exec_rcrRmBy1_eq s _) rfl
  | rcrRmCl rm => cases h; exact exec_body (exec_rcrRmCl_eq s _) rfl
  | shlRm8Ib rm imm => cases h; exact exec_body (exec_shlRm8Ib_eq s _ _) rfl
  | shlRm8By1 rm => cases h; exact exec_body (exec_shlRm8By1_eq s _) rfl
  | shlRm8Cl rm => cases h; exact exec_body (exec_shlRm8Cl_eq s _) rfl
  | shlRmIb rm imm => cases h; exact exec_body (exec_shlRmIb_eq s _ _) rfl
  | shlRmBy1 rm => cases h; exact exec_body (exec_shlRmBy1_eq s _) rfl
  | shlRmCl rm => cases h; exact exec_body (exec_shlRmCl_eq s _) rfl
  | shrRm8Ib rm imm => cases h; exact exec_body (exec_shrRm8Ib_eq s _ _) rfl
  | shrRm8By1 rm => cases h; exact exec_body (exec_shrRm8By1_eq s _) rfl
  | shrRm8Cl rm => cases h; exact exec_body (exec_shrRm8Cl_eq s _) rfl
  | shrRmIb rm imm => cases h; exact exec_body (exec_shrRmIb_eq s _ _) rfl
  | shrRmBy1 rm => cases h; exact exec_body (exec_shrRmBy1_eq s _) rfl
  | shrRmCl rm => cases h; exact exec_body (exec_shrRmCl_eq s _) rfl
  | sarRm8Ib rm imm => cases h; exact exec_body (exec_sarRm8Ib_eq s _ _) rfl
  | sarRm8By1 rm => cases h; exact exec_body (exec_sarRm8By1_eq s _) rfl
  | sarRm8Cl rm => cases h; exact exec_body (exec_sarRm8Cl_eq s _) rfl
  | sarRmIb rm imm => cases h; exact exec_body (exec_sarRmIb_eq s _ _) rfl
  | sarRmBy1 rm => cases h; exact exec_body (exec_sarRmBy1_eq s _) rfl
  | sarRmCl rm => cases h; exact exec_body (exec_sarRmCl_eq s _) rfl
  | _ => cases h

/-- SHLD and SHRD (R431, R432). -/
theorem exec_double {left : Bool} {rm : RM} {r : Reg} {count : State → Byte} (h : doubleParts i = some (left, rm, r, count)) :
    exec i s = perform .g386 false (fun _ => doubleShift left s.pfx.osz.width s.pfx rm r (look count)) s := by
  cases i with
  | shldRmRIb rm reg imm => cases h; exact exec_body (exec_shldRmRIb_eq s _ _ _) rfl
  | shldRmRCl rm reg => cases h; exact exec_body (exec_shldRmRCl_eq s _ _) rfl
  | shrdRmRIb rm reg imm => cases h; exact exec_body (exec_shrdRmRIb_eq s _ _ _) rfl
  | shrdRmRCl rm reg => cases h; exact exec_body (exec_shrdRmRCl_eq s _ _) rfl
  | _ => cases h

/-- The bit tests (spec/43_bit_manipulation.md R460). -/
theorem exec_bit {op : BitOp} {rm : RM} {k : Reg ⊕ Byte} (h : bitParts i = some (op, rm, k)) :
    exec i s = perform .g386 (op.writes && isMem rm) (fun _ => bitTest op s.pfx.osz.width (bitTarget op s.pfx.osz.width s.pfx rm k)) s := by
  cases i with
  | btRmR rm reg => cases h; exact exec_body (exec_btRmR_eq s _ _) rfl
  | btRmIb rm imm => cases h; exact exec_body (exec_btRmIb_eq s _ _) rfl
  | btsRmR rm reg => cases h; exact exec_body (exec_btsRmR_eq s _ _) rfl
  | btsRmIb rm imm => cases h; exact exec_body (exec_btsRmIb_eq s _ _) rfl
  | btrRmR rm reg => cases h; exact exec_body (exec_btrRmR_eq s _ _) rfl
  | btrRmIb rm imm => cases h; exact exec_body (exec_btrRmIb_eq s _ _) rfl
  | btcRmR rm reg => cases h; exact exec_body (exec_btcRmR_eq s _ _) rfl
  | btcRmIb rm imm => cases h; exact exec_body (exec_btcRmIb_eq s _ _) rfl
  | _ => cases h

/-- The string instructions (spec/44_string.md R490). -/
theorem exec_string {op : StringOp} {w : Width} (h : stringParts s.pfx i = some (op, w)) :
    exec i s = perform .g386 false (fun _ => repeated s.pfx (if op.compares then compareStop s.pfx.rep else neverStop) (op.element w s.pfx)) s := by
  cases i with
  | movsb => cases h; exact exec_body (exec_movsb_eq s) rfl
  | movsw => cases h; exact exec_body (exec_movsw_eq s) rfl
  | cmpsb => cases h; exact exec_body (exec_cmpsb_eq s) rfl
  | cmpsw => cases h; exact exec_body (exec_cmpsw_eq s) rfl
  | stosb => cases h; exact exec_body (exec_stosb_eq s) rfl
  | stosw => cases h; exact exec_body (exec_stosw_eq s) rfl
  | lodsb => cases h; exact exec_body (exec_lodsb_eq s) rfl
  | lodsw => cases h; exact exec_body (exec_lodsw_eq s) rfl
  | scasb => cases h; exact exec_body (exec_scasb_eq s) rfl
  | scasw => cases h; exact exec_body (exec_scasw_eq s) rfl
  | _ => cases h

/-- MOV (spec/40_data_movement.md R305). -/
theorem exec_mov {w : Width} {dst : RM} {src : Src} (h : movParts s.pfx i = some (w, dst, src)) :
    exec i s = perform .g386 false (fun _ => movRead (src.get w s.pfx) (writeRM w s.pfx dst)) s := by
  cases i with
  | movRm8R8 rm reg => cases h; exact exec_body (exec_movRm8R8_eq s _ _) rfl
  | movRmR rm reg => cases h; exact exec_body (exec_movRmR_eq s _ _) rfl
  | movR8Rm8 rm reg => cases h; exact exec_body (exec_movR8Rm8_eq s _ _) rfl
  | movRRm rm reg => cases h; exact exec_body (exec_movRRm_eq s _ _) rfl
  | movRm8Ib rm imm => cases h; exact exec_body (exec_movRm8Ib_eq s _ _) (Eq.trans (b := movRead (pure _) _) rfl (congrArg (movRead · _) (get_imm_byte _ _).symm))
  | movRmIz rm imm => cases h; exact exec_body (exec_movRmIz_eq s _ _) rfl
  | movR8Ib reg imm => cases h; exact exec_body (exec_movR8Ib_eq s _ _) (Eq.trans (b := movRead (pure _) _) rfl (congrArg (movRead · _) (get_imm_byte _ _).symm))
  | movRIz reg imm => cases h; exact exec_body (exec_movRIz_eq s _ _) rfl
  | _ => cases h

/-- XCHG (R309). -/
theorem exec_xchg {w : Width} {rm : RM} {r : Reg} (h : xchgParts s.pfx i = some (w, rm, r)) :
    exec i s = perform .g386 (lockAllowed i) (fun _ => exchange w s.pfx rm r) s := by
  cases i with
  | xchgRm8R8 rm reg => cases h; exact exec_body (exec_xchgRm8R8_eq s _ _) rfl
  | xchgRmR rm reg => cases h; exact exec_body (exec_xchgRmR_eq s _ _) rfl
  | xchgEaxR reg => cases h; exact exec_body (exec_xchgEaxR_eq s _) rfl
  | _ => cases h

/-- MOVZX and MOVSX (R312, R313). -/
theorem exec_extend {signed : Bool} {w : Width} {rm : RM} {r : Reg} (h : extendParts i = some (signed, w, rm, r)) :
    exec i s = perform .g386 false (fun _ => extend signed w s.pfx rm r) s := by
  cases i with
  | movzxRRm8 rm reg => cases h; exact exec_body (exec_movzxRRm8_eq s _ _) rfl
  | movzxRRm16 rm reg => cases h; exact exec_body (exec_movzxRRm16_eq s _ _) rfl
  | movsxRRm8 rm reg => cases h; exact exec_body (exec_movsxRRm8_eq s _ _) rfl
  | movsxRRm16 rm reg => cases h; exact exec_body (exec_movsxRRm16_eq s _ _) rfl
  | _ => cases h

/-- PUSH of opsize (R316). -/
theorem exec_push {src : Src} (h : pushParts i = some src) :
    exec i s = perform .g386 false (fun _ => movRead (src.get s.pfx.osz.width s.pfx) push) s := by
  cases i with
  | pushR reg => cases h; exact exec_body (exec_pushR_eq s _) rfl
  | pushIz imm => cases h; exact exec_body (exec_pushIz_eq s _) rfl
  | pushIbs imm => cases h; exact exec_body (exec_pushIbs_eq s _) (Eq.trans (b := movRead (pure _) _) rfl (congrArg (movRead · _) (get_imm_signed _ _ _).symm))
  | pushRm rm => cases h; exact exec_body (exec_pushRm_eq s _) rfl
  | _ => cases h

/-- Far JMP and CALL (spec/46_control_transfer.md R564 to R567). -/
theorem exec_far {kind : FarKind} {target : Act (Word × Sel)} (h : farParts s.pfx i = some (kind, target)) :
    exec i s = perform .g386 false (fun _ => (if kind = .call then farCall s.pfx target else farJump s.pfx target)) s := by
  cases i with
  | jmpPtr off sel => cases h; exact exec_body (exec_jmpPtr_eq s _ _) rfl
  | jmpMemFar m => cases h; exact exec_body (exec_jmpMemFar_eq s _) rfl
  | callPtr off sel => cases h; exact exec_body (exec_callPtr_eq s _ _) rfl
  | callMemFar m => cases h; exact exec_body (exec_callMemFar_eq s _) rfl
  | _ => cases h

/-- PUSH Sreg (spec/48_segment_loads.md R645). -/
theorem exec_pushSeg {r : SegReg} (h : pushSegParts i = some r) :
    exec i s = perform .g386 false (fun _ => pushSegReg s.pfx.osz r) s := by
  cases i with
  | pushEs => cases h; exact exec_body (exec_pushEs_eq s) rfl
  | pushCs => cases h; exact exec_body (exec_pushCs_eq s) rfl
  | pushSs => cases h; exact exec_body (exec_pushSs_eq s) rfl
  | pushDs => cases h; exact exec_body (exec_pushDs_eq s) rfl
  | pushFs => cases h; exact exec_body (exec_pushFs_eq s) rfl
  | pushGs => cases h; exact exec_body (exec_pushGs_eq s) rfl
  | _ => cases h

/-- POP Sreg (R646). -/
theorem exec_popSeg {r : SegReg} (h : popSegParts i = some r) :
    exec i s = perform .g386 false (fun _ => popSegReg s.pfx.osz r) s := by
  cases i with
  | popEs => cases h; exact exec_body (exec_popEs_eq s) rfl
  | popSs => cases h; exact exec_body (exec_popSs_eq s) rfl
  | popDs => cases h; exact exec_body (exec_popDs_eq s) rfl
  | popFs => cases h; exact exec_body (exec_popFs_eq s) rfl
  | popGs => cases h; exact exec_body (exec_popGs_eq s) rfl
  | _ => cases h

/-- LDS to LGS (R647). -/
theorem exec_farLoad {m : Mem} {q : Reg} {r : SegReg} (h : farLoadParts i = some (m, q, r)) :
    exec i s = perform .g386 false (fun _ => loadFarPointer s.pfx m q r) s := by
  cases i with
  | ldsRMemFar m reg => cases h; exact exec_body (exec_ldsRMemFar_eq s _ _) rfl
  | lesRMemFar m reg => cases h; exact exec_body (exec_lesRMemFar_eq s _ _) rfl
  | lssRMemFar m reg => cases h; exact exec_body (exec_lssRMemFar_eq s _ _) rfl
  | lfsRMemFar m reg => cases h; exact exec_body (exec_lfsRMemFar_eq s _ _) rfl
  | lgsRMemFar m reg => cases h; exact exec_body (exec_lgsRMemFar_eq s _ _) rfl
  | _ => cases h

end Sys2Proof.Machine
end

