-- ==== Sys2Proof/Laws/Moves.lean ====
section
/-! SUPPORT. What the operations that write an operand or move the stack leave equal: everything but the general registers, memory, CR2, the
TLB, the event history and the count of draws. -/

namespace Sys2Proof.Machine

variable {α : Type}

/-- Flags, segments, control state, eip, prefixes, maps and marks are the same. -/
def Moves (s t : State) : Prop := t = { keepMemory s t with regs := t.regs, written := t.written }

theorem moves_steady : Steady Moves where
  refl _ := rfl
  trans s t u h k := by
    unfold Moves at *
    rw [k, h]
    rfl

theorem Touches.moves {s t : State} (h : Touches s t) : Moves s t := by
  unfold Moves
  rw [h.same]
  rfl

theorem moves_setGpr (s : State) (w : Width) (r : Reg) (v : BitVec w.bits) : Moves s (s.setGpr w r v) := rfl

theorem moves_setStackTop (s : State) (v : Word) : Moves s (s.setStackTop v) := by
  unfold State.setStackTop
  split
  · rfl
  · rfl

variable {s t : State}

theorem Moves.cfg (h : Moves s t) : t.cfg = s.cfg := by rw [h]; rfl
theorem Moves.eip (h : Moves s t) : t.eip = s.eip := by rw [h]; rfl
theorem Moves.eipStart (h : Moves s t) : t.eipStart = s.eipStart := by rw [h]; rfl
theorem Moves.eflags (h : Moves s t) : t.eflags = s.eflags := by rw [h]; rfl
theorem Moves.segs (h : Moves s t) : t.segs = s.segs := by rw [h]; rfl
theorem Moves.cr0 (h : Moves s t) : t.cr0 = s.cr0 := by rw [h]; rfl
theorem Moves.cr3 (h : Moves s t) : t.cr3 = s.cr3 := by rw [h]; rfl
theorem Moves.cpl (h : Moves s t) : t.cpl = s.cpl := by rw [h]; rfl
theorem Moves.fetched (h : Moves s t) : t.fetched = s.fetched := by rw [h]; rfl
theorem Moves.outcome (h : Moves s t) : t.outcome = s.outcome := by rw [h]; rfl
theorem Moves.prefixes (h : Moves s t) : t.prefixes = s.prefixes := by rw [h]; rfl
theorem Moves.halted (h : Moves s t) : t.halted = s.halted := by rw [h]; rfl
theorem Moves.shadow (h : Moves s t) : t.shadow = s.shadow := by rw [h]; rfl
theorem Moves.fmap (h : Moves s t) : t.fmap = s.fmap := by rw [h]; rfl
theorem Moves.handlers (h : Moves s t) : t.handlers = s.handlers := by rw [h]; rfl
theorem Moves.caps (h : Moves s t) : t.caps = s.caps := by rw [h]; rfl
theorem Moves.refused (h : Moves s t) : t.refused = s.refused := by rw [h]; rfl
theorem Moves.faulted (h : Moves s t) : t.faulted = s.faulted := by rw [h]; rfl

theorem Moves.flag (h : Moves s t) (f : Flag) : t.flag f = s.flag f := by unfold State.flag; rw [h.eflags]
theorem Moves.status (h : Moves s t) : t.status = s.status := by unfold State.status; rw [h.eflags]
theorem Moves.iopl (h : Moves s t) : t.iopl = s.iopl := by unfold State.iopl; rw [h.eflags]
theorem Moves.seg (h : Moves s t) (r : SegReg) : t.seg r = s.seg r := by unfold State.seg; rw [h.segs]
theorem Moves.pe (h : Moves s t) : t.pe = s.pe := by unfold State.pe; rw [h.cr0]
theorem Moves.pg (h : Moves s t) : t.pg = s.pg := by unfold State.pg; rw [h.cr0]
theorem Moves.stackBig (h : Moves s t) : t.stackBig = s.stackBig := by unfold State.stackBig; rw [h.segs]
theorem Moves.codeBig (h : Moves s t) : t.codeBig = s.codeBig := by unfold State.codeBig; rw [h.segs]
theorem Moves.pfx (h : Moves s t) : t.pfx = s.pfx := by unfold State.pfx; rw [h.codeBig, h.prefixes]

theorem writePlace_moves (w : Width) (pl : Place) (v : BitVec w.bits) : Keeps Moves (writePlace w pl v) := by
  cases pl with
  | reg r => exact .update fun _ => rfl
  | mem sp => exact (writeSpan_touches _ _).mono fun _ _ => Touches.moves

theorem writeRM_moves (w : Width) (p : Pfx) (rm : RM) (v : BitVec w.bits) : Keeps Moves (writeRM w p rm v) :=
  .bind moves_steady ((resolveRM_touches _ _ _ _).mono fun _ _ => Touches.moves) fun _ => writePlace_moves _ _ _

theorem push_moves {n : Nat} (v : BitVec n) : Keeps Moves (push v) :=
  .bind moves_steady (.look moves_steady _) fun _ =>
    .bind moves_steady ((memWriteBits_touches _ _ _).mono fun _ _ => Touches.moves) fun _ => .update fun _ => moves_setStackTop _ _

theorem pop_moves (n : Nat) : Keeps Moves (pop n) :=
  .bind moves_steady ((readTop_touches n).mono fun _ _ => Touches.moves) fun _ =>
    .bind moves_steady (.update fun _ => moves_setStackTop _ _) fun _ => .pure moves_steady _

theorem pushSel_moves (sz : Size) (v : Sel) : Keeps Moves (pushSel sz v) := by
  have st := moves_steady
  have touch {β : Type} {a : Act β} (h : Keeps Touches a) : Keeps Moves a := h.mono fun _ _ => Touches.moves
  cases sz with
  | w16 => exact push_moves _
  | w32 =>
    refine .bind st (.look st _) fun _ => .bind st (touch (resolveMem_touches _ _ _ _)) fun _ => .bind st (touch drawBit_touches) fun _ => ?_
    exact .bind st (.ite (touch (writeSpan_touches _ _)) (touch (writeSpan_touches _ _))) fun _ => .update fun _ => moves_setStackTop _ _

end Sys2Proof.Machine
end

