-- ==== Sys2Proof/Laws/PerInstr.lean ====
section
/-! SUPPORT. A fact about every instruction, one lemma per constructor: what its encoding after the prefixes spans. With the prefixes it is what
the length rule of spec/30_encoding.md R204 bounds. -/

namespace Sys2Proof.Laws.BodySpan

/-- After its prefixes the encoding has at least one byte and at most eleven (spec/30_encoding.md R201, R204). -/
def Statement (i : Instr) : Prop := ∀ osz asz : Size, 1 ≤ (encodeBody osz asz i).length ∧ (encodeBody osz asz i).length ≤ 11

theorem encSized_length (sz : Size) (v : Word) : 2 ≤ (encSized sz v).length ∧ (encSized sz v).length ≤ 4 := by
  cases sz <;> exact ⟨by simp [encSized, enc16, enc32], by simp [encSized, enc16, enc32]⟩

theorem encDisp16_length (d : Disp 16) : (encDisp16 d).length ≤ 2 := by
  cases d <;> simp [encDisp16, enc16]

theorem encDisp32_length (d : Disp 32) : (encDisp32 d).length ≤ 4 := by
  cases d <;> simp [encDisp32, enc32]

theorem encMem_length (reg : BitVec 3) (m : Mem) : 1 ≤ (encMem reg m).length ∧ (encMem reg m).length ≤ 6 := by
  cases m with
  | based16 b d =>
    have := encDisp16_length d
    simp only [encMem, List.length_cons]
    omega
  | abs16 d => simp [encMem, enc16]
  | based32 b d =>
    have := encDisp32_length d
    simp only [encMem, List.length_cons]
    omega
  | abs32 d => simp [encMem, enc32]
  | sib sc ix b d =>
    have := encDisp32_length d
    simp only [encMem, List.length_cons]
    omega
  | sibAbs sc ix d => simp [encMem, enc32]

theorem encRM_length (reg : BitVec 3) (rm : RM) : 1 ≤ (encRM reg rm).length ∧ (encRM reg rm).length ≤ 6 := by
  cases rm with
  | reg r => simp [encRM]
  | mem m => exact encMem_length reg m

/-- An encoding with no operand bytes beyond immediates of fixed length. -/
theorem fixed {n : Nat} {i : Instr} (h : ∀ osz asz, (encodeBody osz asz i).length = n) (h1 : 1 ≤ n) (h2 : n ≤ 11) :
    Statement i := fun osz asz => by
  rw [h osz asz]
  exact ⟨h1, h2⟩

/-- Opcode bytes, then an r/m operand, then what follows it. -/
theorem withRM {op tail : Size → List Byte} {i : Instr} (reg : BitVec 3) (rm : RM) (h : ∀ osz asz, encodeBody osz asz i = op osz ++ encRM reg rm ++ tail osz)
    (h1 : ∀ osz, (op osz).length + (tail osz).length ≤ 5) : Statement i := fun osz asz => by
  have := encRM_length reg rm
  have := h1 osz
  rw [h osz asz]
  simp only [List.length_append]
  omega

/-- Opcode bytes, then a memory operand. -/
theorem withMem {op : List Byte} {i : Instr} (reg : BitVec 3) (m : Mem) (h : ∀ osz asz, encodeBody osz asz i = op ++ encMem reg m)
    (h1 : op.length ≤ 5) : Statement i := fun osz asz => by
  have := encMem_length reg m
  rw [h osz asz]
  simp only [List.length_append]
  omega

/-- Opcode bytes, then a field of 2 or 4 bytes, then what follows it. -/
theorem withSized {op tail : List Byte} {i : Instr} (v : Word) (sz : Size → Size → Size)
    (h : ∀ osz asz, encodeBody osz asz i = op ++ encSized (sz osz asz) v ++ tail) (h1 : op.length + tail.length ≤ 7) :
    Statement i := fun osz asz => by
  have := encSized_length (sz osz asz) v
  rw [h osz asz]
  simp only [List.length_append]
  omega

theorem addRm8R8 (rm : RM) (reg : Reg) : Statement (.addRm8R8 rm reg) :=
  withRM (op := fun _ => [0x00#8]) (tail := fun _ => []) reg.num rm (fun _ _ => (List.append_nil _).symm) fun _ => (Nat.le_of_ble_eq_true rfl)
theorem addRmR (rm : RM) (reg : Reg) : Statement (.addRmR rm reg) :=
  withRM (op := fun _ => [0x01#8]) (tail := fun _ => []) reg.num rm (fun _ _ => (List.append_nil _).symm) fun _ => (Nat.le_of_ble_eq_true rfl)
theorem addR8Rm8 (rm : RM) (reg : Reg) : Statement (.addR8Rm8 rm reg) :=
  withRM (op := fun _ => [0x02#8]) (tail := fun _ => []) reg.num rm (fun _ _ => (List.append_nil _).symm) fun _ => (Nat.le_of_ble_eq_true rfl)
theorem addRRm (rm : RM) (reg : Reg) : Statement (.addRRm rm reg) :=
  withRM (op := fun _ => [0x03#8]) (tail := fun _ => []) reg.num rm (fun _ _ => (List.append_nil _).symm) fun _ => (Nat.le_of_ble_eq_true rfl)
theorem addAlIb (imm : Byte) : Statement (.addAlIb imm) :=
  fixed (n := 2) (fun _ _ => rfl) (Nat.le_of_ble_eq_true rfl) (Nat.le_of_ble_eq_true rfl)
theorem addEaxIz (imm : Word) : Statement (.addEaxIz imm) :=
  withSized (op := [0x05#8]) (tail := []) imm (fun osz _ => osz) (fun _ _ => (List.append_nil _).symm) (Nat.le_of_ble_eq_true rfl)
theorem addRm8Ib (rm : RM) (imm : Byte) : Statement (.addRm8Ib rm imm) :=
  withRM (op := fun _ => [0x80#8]) (tail := fun _ => [imm]) 0#3 rm (fun _ _ => rfl) fun _ => (Nat.le_of_ble_eq_true rfl)
theorem addRmIz (rm : RM) (imm : Word) : Statement (.addRmIz rm imm) :=
  withRM (op := fun _ => [0x81#8]) (tail := fun osz => encSized osz imm) 0#3 rm (fun _ _ => rfl)
  fun osz => Nat.add_le_add_left (encSized_length osz imm).2 1
theorem addRmIbs (rm : RM) (imm : Byte) : Statement (.addRmIbs rm imm) :=
  withRM (op := fun _ => [0x83#8]) (tail := fun _ => [imm]) 0#3 rm (fun _ _ => rfl) fun _ => (Nat.le_of_ble_eq_true rfl)
theorem orRm8R8 (rm : RM) (reg : Reg) : Statement (.orRm8R8 rm reg) :=
  withRM (op := fun _ => [0x08#8]) (tail := fun _ => []) reg.num rm (fun _ _ => (List.append_nil _).symm) fun _ => (Nat.le_of_ble_eq_true rfl)
theorem orRmR (rm : RM) (reg : Reg) : Statement (.orRmR rm reg) :=
  withRM (op := fun _ => [0x09#8]) (tail := fun _ => []) reg.num rm (fun _ _ => (List.append_nil _).symm) fun _ => (Nat.le_of_ble_eq_true rfl)
theorem orR8Rm8 (rm : RM) (reg : Reg) : Statement (.orR8Rm8 rm reg) :=
  withRM (op := fun _ => [0x0A#8]) (tail := fun _ => []) reg.num rm (fun _ _ => (List.append_nil _).symm) fun _ => (Nat.le_of_ble_eq_true rfl)
theorem orRRm (rm : RM) (reg : Reg) : Statement (.orRRm rm reg) :=
  withRM (op := fun _ => [0x0B#8]) (tail := fun _ => []) reg.num rm (fun _ _ => (List.append_nil _).symm) fun _ => (Nat.le_of_ble_eq_true rfl)
theorem orAlIb (imm : Byte) : Statement (.orAlIb imm) :=
  fixed (n := 2) (fun _ _ => rfl) (Nat.le_of_ble_eq_true rfl) (Nat.le_of_ble_eq_true rfl)
theorem orEaxIz (imm : Word) : Statement (.orEaxIz imm) :=
  withSized (op := [0x0D#8]) (tail := []) imm (fun osz _ => osz) (fun _ _ => (List.append_nil _).symm) (Nat.le_of_ble_eq_true rfl)
theorem orRm8Ib (rm : RM) (imm : Byte) : Statement (.orRm8Ib rm imm) :=
  withRM (op := fun _ => [0x80#8]) (tail := fun _ => [imm]) 1#3 rm (fun _ _ => rfl) fun _ => (Nat.le_of_ble_eq_true rfl)
theorem orRmIz (rm : RM) (imm : Word) : Statement (.orRmIz rm imm) :=
  withRM (op := fun _ => [0x81#8]) (tail := fun osz => encSized osz imm) 1#3 rm (fun _ _ => rfl)
  fun osz => Nat.add_le_add_left (encSized_length osz imm).2 1
theorem orRmIbs (rm : RM) (imm : Byte) : Statement (.orRmIbs rm imm) :=
  withRM (op := fun _ => [0x83#8]) (tail := fun _ => [imm]) 1#3 rm (fun _ _ => rfl) fun _ => (Nat.le_of_ble_eq_true rfl)
theorem adcRm8R8 (rm : RM) (reg : Reg) : Statement (.adcRm8R8 rm reg) :=
  withRM (op := fun _ => [0x10#8]) (tail := fun _ => []) reg.num rm (fun _ _ => (List.append_nil _).symm) fun _ => (Nat.le_of_ble_eq_true rfl)
theorem adcRmR (rm : RM) (reg : Reg) : Statement (.adcRmR rm reg) :=
  withRM (op := fun _ => [0x11#8]) (tail := fun _ => []) reg.num rm (fun _ _ => (List.append_nil _).symm) fun _ => (Nat.le_of_ble_eq_true rfl)
theorem adcR8Rm8 (rm : RM) (reg : Reg) : Statement (.adcR8Rm8 rm reg) :=
  withRM (op := fun _ => [0x12#8]) (tail := fun _ => []) reg.num rm (fun _ _ => (List.append_nil _).symm) fun _ => (Nat.le_of_ble_eq_true rfl)
theorem adcRRm (rm : RM) (reg : Reg) : Statement (.adcRRm rm reg) :=
  withRM (op := fun _ => [0x13#8]) (tail := fun _ => []) reg.num rm (fun _ _ => (List.append_nil _).symm) fun _ => (Nat.le_of_ble_eq_true rfl)
theorem adcAlIb (imm : Byte) : Statement (.adcAlIb imm) :=
  fixed (n := 2) (fun _ _ => rfl) (Nat.le_of_ble_eq_true rfl) (Nat.le_of_ble_eq_true rfl)
theorem adcEaxIz (imm : Word) : Statement (.adcEaxIz imm) :=
  withSized (op := [0x15#8]) (tail := []) imm (fun osz _ => osz) (fun _ _ => (List.append_nil _).symm) (Nat.le_of_ble_eq_true rfl)
theorem adcRm8Ib (rm : RM) (imm : Byte) : Statement (.adcRm8Ib rm imm) :=
  withRM (op := fun _ => [0x80#8]) (tail := fun _ => [imm]) 2#3 rm (fun _ _ => rfl) fun _ => (Nat.le_of_ble_eq_true rfl)
theorem adcRmIz (rm : RM) (imm : Word) : Statement (.adcRmIz rm imm) :=
  withRM (op := fun _ => [0x81#8]) (tail := fun osz => encSized osz imm) 2#3 rm (fun _ _ => rfl)
  fun osz => Nat.add_le_add_left (encSized_length osz imm).2 1
theorem adcRmIbs (rm : RM) (imm : Byte) : Statement (.adcRmIbs rm imm) :=
  withRM (op := fun _ => [0x83#8]) (tail := fun _ => [imm]) 2#3 rm (fun _ _ => rfl) fun _ => (Nat.le_of_ble_eq_true rfl)
theorem sbbRm8R8 (rm : RM) (reg : Reg) : Statement (.sbbRm8R8 rm reg) :=
  withRM (op := fun _ => [0x18#8]) (tail := fun _ => []) reg.num rm (fun _ _ => (List.append_nil _).symm) fun _ => (Nat.le_of_ble_eq_true rfl)
theorem sbbRmR (rm : RM) (reg : Reg) : Statement (.sbbRmR rm reg) :=
  withRM (op := fun _ => [0x19#8]) (tail := fun _ => []) reg.num rm (fun _ _ => (List.append_nil _).symm) fun _ => (Nat.le_of_ble_eq_true rfl)
theorem sbbR8Rm8 (rm : RM) (reg : Reg) : Statement (.sbbR8Rm8 rm reg) :=
  withRM (op := fun _ => [0x1A#8]) (tail := fun _ => []) reg.num rm (fun _ _ => (List.append_nil _).symm) fun _ => (Nat.le_of_ble_eq_true rfl)
theorem sbbRRm (rm : RM) (reg : Reg) : Statement (.sbbRRm rm reg) :=
  withRM (op := fun _ => [0x1B#8]) (tail := fun _ => []) reg.num rm (fun _ _ => (List.append_nil _).symm) fun _ => (Nat.le_of_ble_eq_true rfl)
theorem sbbAlIb (imm : Byte) : Statement (.sbbAlIb imm) :=
  fixed (n := 2) (fun _ _ => rfl) (Nat.le_of_ble_eq_true rfl) (Nat.le_of_ble_eq_true rfl)
theorem sbbEaxIz (imm : Word) : Statement (.sbbEaxIz imm) :=
  withSized (op := [0x1D#8]) (tail := []) imm (fun osz _ => osz) (fun _ _ => (List.append_nil _).symm) (Nat.le_of_ble_eq_true rfl)
theorem sbbRm8Ib (rm : RM) (imm : Byte) : Statement (.sbbRm8Ib rm imm) :=
  withRM (op := fun _ => [0x80#8]) (tail := fun _ => [imm]) 3#3 rm (fun _ _ => rfl) fun _ => (Nat.le_of_ble_eq_true rfl)
theorem sbbRmIz (rm : RM) (imm : Word) : Statement (.sbbRmIz rm imm) :=
  withRM (op := fun _ => [0x81#8]) (tail := fun osz => encSized osz imm) 3#3 rm (fun _ _ => rfl)
  fun osz => Nat.add_le_add_left (encSized_length osz imm).2 1
theorem sbbRmIbs (rm : RM) (imm : Byte) : Statement (.sbbRmIbs rm imm) :=
  withRM (op := fun _ => [0x83#8]) (tail := fun _ => [imm]) 3#3 rm (fun _ _ => rfl) fun _ => (Nat.le_of_ble_eq_true rfl)
theorem andRm8R8 (rm : RM) (reg : Reg) : Statement (.andRm8R8 rm reg) :=
  withRM (op := fun _ => [0x20#8]) (tail := fun _ => []) reg.num rm (fun _ _ => (List.append_nil _).symm) fun _ => (Nat.le_of_ble_eq_true rfl)
theorem andRmR (rm : RM) (reg : Reg) : Statement (.andRmR rm reg) :=
  withRM (op := fun _ => [0x21#8]) (tail := fun _ => []) reg.num rm (fun _ _ => (List.append_nil _).symm) fun _ => (Nat.le_of_ble_eq_true rfl)
theorem andR8Rm8 (rm : RM) (reg : Reg) : Statement (.andR8Rm8 rm reg) :=
  withRM (op := fun _ => [0x22#8]) (tail := fun _ => []) reg.num rm (fun _ _ => (List.append_nil _).symm) fun _ => (Nat.le_of_ble_eq_true rfl)
theorem andRRm (rm : RM) (reg : Reg) : Statement (.andRRm rm reg) :=
  withRM (op := fun _ => [0x23#8]) (tail := fun _ => []) reg.num rm (fun _ _ => (List.append_nil _).symm) fun _ => (Nat.le_of_ble_eq_true rfl)
theorem andAlIb (imm : Byte) : Statement (.andAlIb imm) :=
  fixed (n := 2) (fun _ _ => rfl) (Nat.le_of_ble_eq_true rfl) (Nat.le_of_ble_eq_true rfl)
theorem andEaxIz (imm : Word) : Statement (.andEaxIz imm) :=
  withSized (op := [0x25#8]) (tail := []) imm (fun osz _ => osz) (fun _ _ => (List.append_nil _).symm) (Nat.le_of_ble_eq_true rfl)
theorem andRm8Ib (rm : RM) (imm : Byte) : Statement (.andRm8Ib rm imm) :=
  withRM (op := fun _ => [0x80#8]) (tail := fun _ => [imm]) 4#3 rm (fun _ _ => rfl) fun _ => (Nat.le_of_ble_eq_true rfl)
theorem andRmIz (rm : RM) (imm : Word) : Statement (.andRmIz rm imm) :=
  withRM (op := fun _ => [0x81#8]) (tail := fun osz => encSized osz imm) 4#3 rm (fun _ _ => rfl)
  fun osz => Nat.add_le_add_left (encSized_length osz imm).2 1
theorem andRmIbs (rm : RM) (imm : Byte) : Statement (.andRmIbs rm imm) :=
  withRM (op := fun _ => [0x83#8]) (tail := fun _ => [imm]) 4#3 rm (fun _ _ => rfl) fun _ => (Nat.le_of_ble_eq_true rfl)
theorem subRm8R8 (rm : RM) (reg : Reg) : Statement (.subRm8R8 rm reg) :=
  withRM (op := fun _ => [0x28#8]) (tail := fun _ => []) reg.num rm (fun _ _ => (List.append_nil _).symm) fun _ => (Nat.le_of_ble_eq_true rfl)
theorem subRmR (rm : RM) (reg : Reg) : Statement (.subRmR rm reg) :=
  withRM (op := fun _ => [0x29#8]) (tail := fun _ => []) reg.num rm (fun _ _ => (List.append_nil _).symm) fun _ => (Nat.le_of_ble_eq_true rfl)
theorem subR8Rm8 (rm : RM) (reg : Reg) : Statement (.subR8Rm8 rm reg) :=
  withRM (op := fun _ => [0x2A#8]) (tail := fun _ => []) reg.num rm (fun _ _ => (List.append_nil _).symm) fun _ => (Nat.le_of_ble_eq_true rfl)
theorem subRRm (rm : RM) (reg : Reg) : Statement (.subRRm rm reg) :=
  withRM (op := fun _ => [0x2B#8]) (tail := fun _ => []) reg.num rm (fun _ _ => (List.append_nil _).symm) fun _ => (Nat.le_of_ble_eq_true rfl)
theorem subAlIb (imm : Byte) : Statement (.subAlIb imm) :=
  fixed (n := 2) (fun _ _ => rfl) (Nat.le_of_ble_eq_true rfl) (Nat.le_of_ble_eq_true rfl)
theorem subEaxIz (imm : Word) : Statement (.subEaxIz imm) :=
  withSized (op := [0x2D#8]) (tail := []) imm (fun osz _ => osz) (fun _ _ => (List.append_nil _).symm) (Nat.le_of_ble_eq_true rfl)
theorem subRm8Ib (rm : RM) (imm : Byte) : Statement (.subRm8Ib rm imm) :=
  withRM (op := fun _ => [0x80#8]) (tail := fun _ => [imm]) 5#3 rm (fun _ _ => rfl) fun _ => (Nat.le_of_ble_eq_true rfl)
theorem subRmIz (rm : RM) (imm : Word) : Statement (.subRmIz rm imm) :=
  withRM (op := fun _ => [0x81#8]) (tail := fun osz => encSized osz imm) 5#3 rm (fun _ _ => rfl)
  fun osz => Nat.add_le_add_left (encSized_length osz imm).2 1
theorem subRmIbs (rm : RM) (imm : Byte) : Statement (.subRmIbs rm imm) :=
  withRM (op := fun _ => [0x83#8]) (tail := fun _ => [imm]) 5#3 rm (fun _ _ => rfl) fun _ => (Nat.le_of_ble_eq_true rfl)
theorem xorRm8R8 (rm : RM) (reg : Reg) : Statement (.xorRm8R8 rm reg) :=
  withRM (op := fun _ => [0x30#8]) (tail := fun _ => []) reg.num rm (fun _ _ => (List.append_nil _).symm) fun _ => (Nat.le_of_ble_eq_true rfl)
theorem xorRmR (rm : RM) (reg : Reg) : Statement (.xorRmR rm reg) :=
  withRM (op := fun _ => [0x31#8]) (tail := fun _ => []) reg.num rm (fun _ _ => (List.append_nil _).symm) fun _ => (Nat.le_of_ble_eq_true rfl)
theorem xorR8Rm8 (rm : RM) (reg : Reg) : Statement (.xorR8Rm8 rm reg) :=
  withRM (op := fun _ => [0x32#8]) (tail := fun _ => []) reg.num rm (fun _ _ => (List.append_nil _).symm) fun _ => (Nat.le_of_ble_eq_true rfl)
theorem xorRRm (rm : RM) (reg : Reg) : Statement (.xorRRm rm reg) :=
  withRM (op := fun _ => [0x33#8]) (tail := fun _ => []) reg.num rm (fun _ _ => (List.append_nil _).symm) fun _ => (Nat.le_of_ble_eq_true rfl)
theorem xorAlIb (imm : Byte) : Statement (.xorAlIb imm) :=
  fixed (n := 2) (fun _ _ => rfl) (Nat.le_of_ble_eq_true rfl) (Nat.le_of_ble_eq_true rfl)
theorem xorEaxIz (imm : Word) : Statement (.xorEaxIz imm) :=
  withSized (op := [0x35#8]) (tail := []) imm (fun osz _ => osz) (fun _ _ => (List.append_nil _).symm) (Nat.le_of_ble_eq_true rfl)
theorem xorRm8Ib (rm : RM) (imm : Byte) : Statement (.xorRm8Ib rm imm) :=
  withRM (op := fun _ => [0x80#8]) (tail := fun _ => [imm]) 6#3 rm (fun _ _ => rfl) fun _ => (Nat.le_of_ble_eq_true rfl)
theorem xorRmIz (rm : RM) (imm : Word) : Statement (.xorRmIz rm imm) :=
  withRM (op := fun _ => [0x81#8]) (tail := fun osz => encSized osz imm) 6#3 rm (fun _ _ => rfl)
  fun osz => Nat.add_le_add_left (encSized_length osz imm).2 1
theorem xorRmIbs (rm : RM) (imm : Byte) : Statement (.xorRmIbs rm imm) :=
  withRM (op := fun _ => [0x83#8]) (tail := fun _ => [imm]) 6#3 rm (fun _ _ => rfl) fun _ => (Nat.le_of_ble_eq_true rfl)
theorem cmpRm8R8 (rm : RM) (reg : Reg) : Statement (.cmpRm8R8 rm reg) :=
  withRM (op := fun _ => [0x38#8]) (tail := fun _ => []) reg.num rm (fun _ _ => (List.append_nil _).symm) fun _ => (Nat.le_of_ble_eq_true rfl)
theorem cmpRmR (rm : RM) (reg : Reg) : Statement (.cmpRmR rm reg) :=
  withRM (op := fun _ => [0x39#8]) (tail := fun _ => []) reg.num rm (fun _ _ => (List.append_nil _).symm) fun _ => (Nat.le_of_ble_eq_true rfl)
theorem cmpR8Rm8 (rm : RM) (reg : Reg) : Statement (.cmpR8Rm8 rm reg) :=
  withRM (op := fun _ => [0x3A#8]) (tail := fun _ => []) reg.num rm (fun _ _ => (List.append_nil _).symm) fun _ => (Nat.le_of_ble_eq_true rfl)
theorem cmpRRm (rm : RM) (reg : Reg) : Statement (.cmpRRm rm reg) :=
  withRM (op := fun _ => [0x3B#8]) (tail := fun _ => []) reg.num rm (fun _ _ => (List.append_nil _).symm) fun _ => (Nat.le_of_ble_eq_true rfl)
theorem cmpAlIb (imm : Byte) : Statement (.cmpAlIb imm) :=
  fixed (n := 2) (fun _ _ => rfl) (Nat.le_of_ble_eq_true rfl) (Nat.le_of_ble_eq_true rfl)
theorem cmpEaxIz (imm : Word) : Statement (.cmpEaxIz imm) :=
  withSized (op := [0x3D#8]) (tail := []) imm (fun osz _ => osz) (fun _ _ => (List.append_nil _).symm) (Nat.le_of_ble_eq_true rfl)
theorem cmpRm8Ib (rm : RM) (imm : Byte) : Statement (.cmpRm8Ib rm imm) :=
  withRM (op := fun _ => [0x80#8]) (tail := fun _ => [imm]) 7#3 rm (fun _ _ => rfl) fun _ => (Nat.le_of_ble_eq_true rfl)
theorem cmpRmIz (rm : RM) (imm : Word) : Statement (.cmpRmIz rm imm) :=
  withRM (op := fun _ => [0x81#8]) (tail := fun osz => encSized osz imm) 7#3 rm (fun _ _ => rfl)
  fun osz => Nat.add_le_add_left (encSized_length osz imm).2 1
theorem cmpRmIbs (rm : RM) (imm : Byte) : Statement (.cmpRmIbs rm imm) :=
  withRM (op := fun _ => [0x83#8]) (tail := fun _ => [imm]) 7#3 rm (fun _ _ => rfl) fun _ => (Nat.le_of_ble_eq_true rfl)
theorem testRm8R8 (rm : RM) (reg : Reg) : Statement (.testRm8R8 rm reg) :=
  withRM (op := fun _ => [0x84#8]) (tail := fun _ => []) reg.num rm (fun _ _ => (List.append_nil _).symm) fun _ => (Nat.le_of_ble_eq_true rfl)
theorem testRmR (rm : RM) (reg : Reg) : Statement (.testRmR rm reg) :=
  withRM (op := fun _ => [0x85#8]) (tail := fun _ => []) reg.num rm (fun _ _ => (List.append_nil _).symm) fun _ => (Nat.le_of_ble_eq_true rfl)
theorem testAlIb (imm : Byte) : Statement (.testAlIb imm) :=
  fixed (n := 2) (fun _ _ => rfl) (Nat.le_of_ble_eq_true rfl) (Nat.le_of_ble_eq_true rfl)
theorem testEaxIz (imm : Word) : Statement (.testEaxIz imm) :=
  withSized (op := [0xA9#8]) (tail := []) imm (fun osz _ => osz) (fun _ _ => (List.append_nil _).symm) (Nat.le_of_ble_eq_true rfl)
theorem testRm8Ib (rm : RM) (imm : Byte) : Statement (.testRm8Ib rm imm) :=
  withRM (op := fun _ => [0xF6#8]) (tail := fun _ => [imm]) 0#3 rm (fun _ _ => rfl) fun _ => (Nat.le_of_ble_eq_true rfl)
theorem testRmIz (rm : RM) (imm : Word) : Statement (.testRmIz rm imm) :=
  withRM (op := fun _ => [0xF7#8]) (tail := fun osz => encSized osz imm) 0#3 rm (fun _ _ => rfl)
  fun osz => Nat.add_le_add_left (encSized_length osz imm).2 1
theorem incR (reg : Reg) : Statement (.incR reg) :=
  fixed (n := 1) (fun _ _ => rfl) (Nat.le_of_ble_eq_true rfl) (Nat.le_of_ble_eq_true rfl)
theorem incRm8 (rm : RM) : Statement (.incRm8 rm) :=
  withRM (op := fun _ => [0xFE#8]) (tail := fun _ => []) 0#3 rm (fun _ _ => (List.append_nil _).symm) fun _ => (Nat.le_of_ble_eq_true rfl)
theorem incRm (rm : RM) : Statement (.incRm rm) :=
  withRM (op := fun _ => [0xFF#8]) (tail := fun _ => []) 0#3 rm (fun _ _ => (List.append_nil _).symm) fun _ => (Nat.le_of_ble_eq_true rfl)
theorem decR (reg : Reg) : Statement (.decR reg) :=
  fixed (n := 1) (fun _ _ => rfl) (Nat.le_of_ble_eq_true rfl) (Nat.le_of_ble_eq_true rfl)
theorem decRm8 (rm : RM) : Statement (.decRm8 rm) :=
  withRM (op := fun _ => [0xFE#8]) (tail := fun _ => []) 1#3 rm (fun _ _ => (List.append_nil _).symm) fun _ => (Nat.le_of_ble_eq_true rfl)
theorem decRm (rm : RM) : Statement (.decRm rm) :=
  withRM (op := fun _ => [0xFF#8]) (tail := fun _ => []) 1#3 rm (fun _ _ => (List.append_nil _).symm) fun _ => (Nat.le_of_ble_eq_true rfl)
theorem notRm8 (rm : RM) : Statement (.notRm8 rm) :=
  withRM (op := fun _ => [0xF6#8]) (tail := fun _ => []) 2#3 rm (fun _ _ => (List.append_nil _).symm) fun _ => (Nat.le_of_ble_eq_true rfl)
theorem notRm (rm : RM) : Statement (.notRm rm) :=
  withRM (op := fun _ => [0xF7#8]) (tail := fun _ => []) 2#3 rm (fun _ _ => (List.append_nil _).symm) fun _ => (Nat.le_of_ble_eq_true rfl)
theorem negRm8 (rm : RM) : Statement (.negRm8 rm) :=
  withRM (op := fun _ => [0xF6#8]) (tail := fun _ => []) 3#3 rm (fun _ _ => (List.append_nil _).symm) fun _ => (Nat.le_of_ble_eq_true rfl)
theorem negRm (rm : RM) : Statement (.negRm rm) :=
  withRM (op := fun _ => [0xF7#8]) (tail := fun _ => []) 3#3 rm (fun _ _ => (List.append_nil _).symm) fun _ => (Nat.le_of_ble_eq_true rfl)
theorem mulRm8 (rm : RM) : Statement (.mulRm8 rm) :=
  withRM (op := fun _ => [0xF6#8]) (tail := fun _ => []) 4#3 rm (fun _ _ => (List.append_nil _).symm) fun _ => (Nat.le_of_ble_eq_true rfl)
theorem mulRm (rm : RM) : Statement (.mulRm rm) :=
  withRM (op := fun _ => [0xF7#8]) (tail := fun _ => []) 4#3 rm (fun _ _ => (List.append_nil _).symm) fun _ => (Nat.le_of_ble_eq_true rfl)
theorem imulRm8 (rm : RM) : Statement (.imulRm8 rm) :=
  withRM (op := fun _ => [0xF6#8]) (tail := fun _ => []) 5#3 rm (fun _ _ => (List.append_nil _).symm) fun _ => (Nat.le_of_ble_eq_true rfl)
theorem imulRm (rm : RM) : Statement (.imulRm rm) :=
  withRM (op := fun _ => [0xF7#8]) (tail := fun _ => []) 5#3 rm (fun _ _ => (List.append_nil _).symm) fun _ => (Nat.le_of_ble_eq_true rfl)
theorem divRm8 (rm : RM) : Statement (.divRm8 rm) :=
  withRM (op := fun _ => [0xF6#8]) (tail := fun _ => []) 6#3 rm (fun _ _ => (List.append_nil _).symm) fun _ => (Nat.le_of_ble_eq_true rfl)
theorem divRm (rm : RM) : Statement (.divRm rm) :=
  withRM (op := fun _ => [0xF7#8]) (tail := fun _ => []) 6#3 rm (fun _ _ => (List.append_nil _).symm) fun _ => (Nat.le_of_ble_eq_true rfl)
theorem idivRm8 (rm : RM) : Statement (.idivRm8 rm) :=
  withRM (op := fun _ => [0xF6#8]) (tail := fun _ => []) 7#3 rm (fun _ _ => (List.append_nil _).symm) fun _ => (Nat.le_of_ble_eq_true rfl)
theorem idivRm (rm : RM) : Statement (.idivRm rm) :=
  withRM (op := fun _ => [0xF7#8]) (tail := fun _ => []) 7#3 rm (fun _ _ => (List.append_nil _).symm) fun _ => (Nat.le_of_ble_eq_true rfl)
theorem imulRRm (rm : RM) (reg : Reg) : Statement (.imulRRm rm reg) :=
  withRM (op := fun _ => [0x0F#8, 0xAF#8]) (tail := fun _ => []) reg.num rm (fun _ _ => (List.append_nil _).symm) fun _ => (Nat.le_of_ble_eq_true rfl)
theorem imulRRmIz (rm : RM) (reg : Reg) (imm : Word) : Statement (.imulRRmIz rm reg imm) :=
  withRM (op := fun _ => [0x69#8]) (tail := fun osz => encSized osz imm) reg.num rm (fun _ _ => rfl)
  fun osz => Nat.add_le_add_left (encSized_length osz imm).2 1
theorem imulRRmIbs (rm : RM) (reg : Reg) (imm : Byte) : Statement (.imulRRmIbs rm reg imm) :=
  withRM (op := fun _ => [0x6B#8]) (tail := fun _ => [imm]) reg.num rm (fun _ _ => rfl) fun _ => (Nat.le_of_ble_eq_true rfl)
theorem rolRm8Ib (rm : RM) (imm : Byte) : Statement (.rolRm8Ib rm imm) :=
  withRM (op := fun _ => [0xC0#8]) (tail := fun _ => [imm]) 0#3 rm (fun _ _ => rfl) fun _ => (Nat.le_of_ble_eq_true rfl)
theorem rolRmIb (rm : RM) (imm : Byte) : Statement (.rolRmIb rm imm) :=
  withRM (op := fun _ => [0xC1#8]) (tail := fun _ => [imm]) 0#3 rm (fun _ _ => rfl) fun _ => (Nat.le_of_ble_eq_true rfl)
theorem rolRm8By1 (rm : RM) : Statement (.rolRm8By1 rm) :=
  withRM (op := fun _ => [0xD0#8]) (tail := fun _ => []) 0#3 rm (fun _ _ => (List.append_nil _).symm) fun _ => (Nat.le_of_ble_eq_true rfl)
theorem rolRmBy1 (rm : RM) : Statement (.rolRmBy1 rm) :=
  withRM (op := fun _ => [0xD1#8]) (tail := fun _ => []) 0#3 rm (fun _ _ => (List.append_nil _).symm) fun _ => (Nat.le_of_ble_eq_true rfl)
theorem rolRm8Cl (rm : RM) : Statement (.rolRm8Cl rm) :=
  withRM (op := fun _ => [0xD2#8]) (tail := fun _ => []) 0#3 rm (fun _ _ => (List.append_nil _).symm) fun _ => (Nat.le_of_ble_eq_true rfl)
theorem rolRmCl (rm : RM) : Statement (.rolRmCl rm) :=
  withRM (op := fun _ => [0xD3#8]) (tail := fun _ => []) 0#3 rm (fun _ _ => (List.append_nil _).symm) fun _ => (Nat.le_of_ble_eq_true rfl)
theorem rorRm8Ib (rm : RM) (imm : Byte) : Statement (.rorRm8Ib rm imm) :=
  withRM (op := fun _ => [0xC0#8]) (tail := fun _ => [imm]) 1#3 rm (fun _ _ => rfl) fun _ => (Nat.le_of_ble_eq_true rfl)
theorem rorRmIb (rm : RM) (imm : Byte) : Statement (.rorRmIb rm imm) :=
  withRM (op := fun _ => [0xC1#8]) (tail := fun _ => [imm]) 1#3 rm (fun _ _ => rfl) fun _ => (Nat.le_of_ble_eq_true rfl)
theorem rorRm8By1 (rm : RM) : Statement (.rorRm8By1 rm) :=
  withRM (op := fun _ => [0xD0#8]) (tail := fun _ => []) 1#3 rm (fun _ _ => (List.append_nil _).symm) fun _ => (Nat.le_of_ble_eq_true rfl)
theorem rorRmBy1 (rm : RM) : Statement (.rorRmBy1 rm) :=
  withRM (op := fun _ => [0xD1#8]) (tail := fun _ => []) 1#3 rm (fun _ _ => (List.append_nil _).symm) fun _ => (Nat.le_of_ble_eq_true rfl)
theorem rorRm8Cl (rm : RM) : Statement (.rorRm8Cl rm) :=
  withRM (op := fun _ => [0xD2#8]) (tail := fun _ => []) 1#3 rm (fun _ _ => (List.append_nil _).symm) fun _ => (Nat.le_of_ble_eq_true rfl)
theorem rorRmCl (rm : RM) : Statement (.rorRmCl rm) :=
  withRM (op := fun _ => [0xD3#8]) (tail := fun _ => []) 1#3 rm (fun _ _ => (List.append_nil _).symm) fun _ => (Nat.le_of_ble_eq_true rfl)
theorem rclRm8Ib (rm : RM) (imm : Byte) : Statement (.rclRm8Ib rm imm) :=
  withRM (op := fun _ => [0xC0#8]) (tail := fun _ => [imm]) 2#3 rm (fun _ _ => rfl) fun _ => (Nat.le_of_ble_eq_true rfl)
theorem rclRmIb (rm : RM) (imm : Byte) : Statement (.rclRmIb rm imm) :=
  withRM (op := fun _ => [0xC1#8]) (tail := fun _ => [imm]) 2#3 rm (fun _ _ => rfl) fun _ => (Nat.le_of_ble_eq_true rfl)
theorem rclRm8By1 (rm : RM) : Statement (.rclRm8By1 rm) :=
  withRM (op := fun _ => [0xD0#8]) (tail := fun _ => []) 2#3 rm (fun _ _ => (List.append_nil _).symm) fun _ => (Nat.le_of_ble_eq_true rfl)
theorem rclRmBy1 (rm : RM) : Statement (.rclRmBy1 rm) :=
  withRM (op := fun _ => [0xD1#8]) (tail := fun _ => []) 2#3 rm (fun _ _ => (List.append_nil _).symm) fun _ => (Nat.le_of_ble_eq_true rfl)
theorem rclRm8Cl (rm : RM) : Statement (.rclRm8Cl rm) :=
  withRM (op := fun _ => [0xD2#8]) (tail := fun _ => []) 2#3 rm (fun _ _ => (List.append_nil _).symm) fun _ => (Nat.le_of_ble_eq_true rfl)
theorem rclRmCl (rm : RM) : Statement (.rclRmCl rm) :=
  withRM (op := fun _ => [0xD3#8]) (tail := fun _ => []) 2#3 rm (fun _ _ => (List.append_nil _).symm) fun _ => (Nat.le_of_ble_eq_true rfl)
theorem rcrRm8Ib (rm : RM) (imm : Byte) : Statement (.rcrRm8Ib rm imm) :=
  withRM (op := fun _ => [0xC0#8]) (tail := fun _ => [imm]) 3#3 rm (fun _ _ => rfl) fun _ => (Nat.le_of_ble_eq_true rfl)
theorem rcrRmIb (rm : RM) (imm : Byte) : Statement (.rcrRmIb rm imm) :=
  withRM (op := fun _ => [0xC1#8]) (tail := fun _ => [imm]) 3#3 rm (fun _ _ => rfl) fun _ => (Nat.le_of_ble_eq_true rfl)
theorem rcrRm8By1 (rm : RM) : Statement (.rcrRm8By1 rm) :=
  withRM (op := fun _ => [0xD0#8]) (tail := fun _ => []) 3#3 rm (fun _ _ => (List.append_nil _).symm) fun _ => (Nat.le_of_ble_eq_true rfl)
theorem rcrRmBy1 (rm : RM) : Statement (.rcrRmBy1 rm) :=
  withRM (op := fun _ => [0xD1#8]) (tail := fun _ => []) 3#3 rm (fun _ _ => (List.append_nil _).symm) fun _ => (Nat.le_of_ble_eq_true rfl)
theorem rcrRm8Cl (rm : RM) : Statement (.rcrRm8Cl rm) :=
  withRM (op := fun _ => [0xD2#8]) (tail := fun _ => []) 3#3 rm (fun _ _ => (List.append_nil _).symm) fun _ => (Nat.le_of_ble_eq_true rfl)
theorem rcrRmCl (rm : RM) : Statement (.rcrRmCl rm) :=
  withRM (op := fun _ => [0xD3#8]) (tail := fun _ => []) 3#3 rm (fun _ _ => (List.append_nil _).symm) fun _ => (Nat.le_of_ble_eq_true rfl)
theorem shlRm8Ib (rm : RM) (imm : Byte) : Statement (.shlRm8Ib rm imm) :=
  withRM (op := fun _ => [0xC0#8]) (tail := fun _ => [imm]) 4#3 rm (fun _ _ => rfl) fun _ => (Nat.le_of_ble_eq_true rfl)
theorem shlRmIb (rm : RM) (imm : Byte) : Statement (.shlRmIb rm imm) :=
  withRM (op := fun _ => [0xC1#8]) (tail := fun _ => [imm]) 4#3 rm (fun _ _ => rfl) fun _ => (Nat.le_of_ble_eq_true rfl)
theorem shlRm8By1 (rm : RM) : Statement (.shlRm8By1 rm) :=
  withRM (op := fun _ => [0xD0#8]) (tail := fun _ => []) 4#3 rm (fun _ _ => (List.append_nil _).symm) fun _ => (Nat.le_of_ble_eq_true rfl)
theorem shlRmBy1 (rm : RM) : Statement (.shlRmBy1 rm) :=
  withRM (op := fun _ => [0xD1#8]) (tail := fun _ => []) 4#3 rm (fun _ _ => (List.append_nil _).symm) fun _ => (Nat.le_of_ble_eq_true rfl)
theorem shlRm8Cl (rm : RM) : Statement (.shlRm8Cl rm) :=
  withRM (op := fun _ => [0xD2#8]) (tail := fun _ => []) 4#3 rm (fun _ _ => (List.append_nil _).symm) fun _ => (Nat.le_of_ble_eq_true rfl)
theorem shlRmCl (rm : RM) : Statement (.shlRmCl rm) :=
  withRM (op := fun _ => [0xD3#8]) (tail := fun _ => []) 4#3 rm (fun _ _ => (List.append_nil _).symm) fun _ => (Nat.le_of_ble_eq_true rfl)
theorem shrRm8Ib (rm : RM) (imm : Byte) : Statement (.shrRm8Ib rm imm) :=
  withRM (op := fun _ => [0xC0#8]) (tail := fun _ => [imm]) 5#3 rm (fun _ _ => rfl) fun _ => (Nat.le_of_ble_eq_true rfl)
theorem shrRmIb (rm : RM) (imm : Byte) : Statement (.shrRmIb rm imm) :=
  withRM (op := fun _ => [0xC1#8]) (tail := fun _ => [imm]) 5#3 rm (fun _ _ => rfl) fun _ => (Nat.le_of_ble_eq_true rfl)
theorem shrRm8By1 (rm : RM) : Statement (.shrRm8By1 rm) :=
  withRM (op := fun _ => [0xD0#8]) (tail := fun _ => []) 5#3 rm (fun _ _ => (List.append_nil _).symm) fun _ => (Nat.le_of_ble_eq_true rfl)
theorem shrRmBy1 (rm : RM) : Statement (.shrRmBy1 rm) :=
  withRM (op := fun _ => [0xD1#8]) (tail := fun _ => []) 5#3 rm (fun _ _ => (List.append_nil _).symm) fun _ => (Nat.le_of_ble_eq_true rfl)
theorem shrRm8Cl (rm : RM) : Statement (.shrRm8Cl rm) :=
  withRM (op := fun _ => [0xD2#8]) (tail := fun _ => []) 5#3 rm (fun _ _ => (List.append_nil _).symm) fun _ => (Nat.le_of_ble_eq_true rfl)
theorem shrRmCl (rm : RM) : Statement (.shrRmCl rm) :=
  withRM (op := fun _ => [0xD3#8]) (tail := fun _ => []) 5#3 rm (fun _ _ => (List.append_nil _).symm) fun _ => (Nat.le_of_ble_eq_true rfl)
theorem sarRm8Ib (rm : RM) (imm : Byte) : Statement (.sarRm8Ib rm imm) :=
  withRM (op := fun _ => [0xC0#8]) (tail := fun _ => [imm]) 7#3 rm (fun _ _ => rfl) fun _ => (Nat.le_of_ble_eq_true rfl)
theorem sarRmIb (rm : RM) (imm : Byte) : Statement (.sarRmIb rm imm) :=
  withRM (op := fun _ => [0xC1#8]) (tail := fun _ => [imm]) 7#3 rm (fun _ _ => rfl) fun _ => (Nat.le_of_ble_eq_true rfl)
theorem sarRm8By1 (rm : RM) : Statement (.sarRm8By1 rm) :=
  withRM (op := fun _ => [0xD0#8]) (tail := fun _ => []) 7#3 rm (fun _ _ => (List.append_nil _).symm) fun _ => (Nat.le_of_ble_eq_true rfl)
theorem sarRmBy1 (rm : RM) : Statement (.sarRmBy1 rm) :=
  withRM (op := fun _ => [0xD1#8]) (tail := fun _ => []) 7#3 rm (fun _ _ => (List.append_nil _).symm) fun _ => (Nat.le_of_ble_eq_true rfl)
theorem sarRm8Cl (rm : RM) : Statement (.sarRm8Cl rm) :=
  withRM (op := fun _ => [0xD2#8]) (tail := fun _ => []) 7#3 rm (fun _ _ => (List.append_nil _).symm) fun _ => (Nat.le_of_ble_eq_true rfl)
theorem sarRmCl (rm : RM) : Statement (.sarRmCl rm) :=
  withRM (op := fun _ => [0xD3#8]) (tail := fun _ => []) 7#3 rm (fun _ _ => (List.append_nil _).symm) fun _ => (Nat.le_of_ble_eq_true rfl)
theorem shldRmRIb (rm : RM) (reg : Reg) (imm : Byte) : Statement (.shldRmRIb rm reg imm) :=
  withRM (op := fun _ => [0x0F#8, 0xA4#8]) (tail := fun _ => [imm]) reg.num rm (fun _ _ => rfl) fun _ => (Nat.le_of_ble_eq_true rfl)
theorem shldRmRCl (rm : RM) (reg : Reg) : Statement (.shldRmRCl rm reg) :=
  withRM (op := fun _ => [0x0F#8, 0xA5#8]) (tail := fun _ => []) reg.num rm (fun _ _ => (List.append_nil _).symm) fun _ => (Nat.le_of_ble_eq_true rfl)
theorem shrdRmRIb (rm : RM) (reg : Reg) (imm : Byte) : Statement (.shrdRmRIb rm reg imm) :=
  withRM (op := fun _ => [0x0F#8, 0xAC#8]) (tail := fun _ => [imm]) reg.num rm (fun _ _ => rfl) fun _ => (Nat.le_of_ble_eq_true rfl)
theorem shrdRmRCl (rm : RM) (reg : Reg) : Statement (.shrdRmRCl rm reg) :=
  withRM (op := fun _ => [0x0F#8, 0xAD#8]) (tail := fun _ => []) reg.num rm (fun _ _ => (List.append_nil _).symm) fun _ => (Nat.le_of_ble_eq_true rfl)
theorem btRmR (rm : RM) (reg : Reg) : Statement (.btRmR rm reg) :=
  withRM (op := fun _ => [0x0F#8, 0xA3#8]) (tail := fun _ => []) reg.num rm (fun _ _ => (List.append_nil _).symm) fun _ => (Nat.le_of_ble_eq_true rfl)
theorem btRmIb (rm : RM) (imm : Byte) : Statement (.btRmIb rm imm) :=
  withRM (op := fun _ => [0x0F#8, 0xBA#8]) (tail := fun _ => [imm]) 4#3 rm (fun _ _ => rfl) fun _ => (Nat.le_of_ble_eq_true rfl)
theorem btsRmR (rm : RM) (reg : Reg) : Statement (.btsRmR rm reg) :=
  withRM (op := fun _ => [0x0F#8, 0xAB#8]) (tail := fun _ => []) reg.num rm (fun _ _ => (List.append_nil _).symm) fun _ => (Nat.le_of_ble_eq_true rfl)
theorem btsRmIb (rm : RM) (imm : Byte) : Statement (.btsRmIb rm imm) :=
  withRM (op := fun _ => [0x0F#8, 0xBA#8]) (tail := fun _ => [imm]) 5#3 rm (fun _ _ => rfl) fun _ => (Nat.le_of_ble_eq_true rfl)
theorem btrRmR (rm : RM) (reg : Reg) : Statement (.btrRmR rm reg) :=
  withRM (op := fun _ => [0x0F#8, 0xB3#8]) (tail := fun _ => []) reg.num rm (fun _ _ => (List.append_nil _).symm) fun _ => (Nat.le_of_ble_eq_true rfl)
theorem btrRmIb (rm : RM) (imm : Byte) : Statement (.btrRmIb rm imm) :=
  withRM (op := fun _ => [0x0F#8, 0xBA#8]) (tail := fun _ => [imm]) 6#3 rm (fun _ _ => rfl) fun _ => (Nat.le_of_ble_eq_true rfl)
theorem btcRmR (rm : RM) (reg : Reg) : Statement (.btcRmR rm reg) :=
  withRM (op := fun _ => [0x0F#8, 0xBB#8]) (tail := fun _ => []) reg.num rm (fun _ _ => (List.append_nil _).symm) fun _ => (Nat.le_of_ble_eq_true rfl)
theorem btcRmIb (rm : RM) (imm : Byte) : Statement (.btcRmIb rm imm) :=
  withRM (op := fun _ => [0x0F#8, 0xBA#8]) (tail := fun _ => [imm]) 7#3 rm (fun _ _ => rfl) fun _ => (Nat.le_of_ble_eq_true rfl)
theorem bsfRRm (rm : RM) (reg : Reg) : Statement (.bsfRRm rm reg) :=
  withRM (op := fun _ => [0x0F#8, 0xBC#8]) (tail := fun _ => []) reg.num rm (fun _ _ => (List.append_nil _).symm) fun _ => (Nat.le_of_ble_eq_true rfl)
theorem bsrRRm (rm : RM) (reg : Reg) : Statement (.bsrRRm rm reg) :=
  withRM (op := fun _ => [0x0F#8, 0xBD#8]) (tail := fun _ => []) reg.num rm (fun _ _ => (List.append_nil _).symm) fun _ => (Nat.le_of_ble_eq_true rfl)
theorem bswapR32 (reg : Reg) : Statement (.bswapR32 reg) :=
  fixed (n := 2) (fun _ _ => rfl) (Nat.le_of_ble_eq_true rfl) (Nat.le_of_ble_eq_true rfl)
theorem movsb : Statement (.movsb) :=
  fixed (n := 1) (fun _ _ => rfl) (Nat.le_of_ble_eq_true rfl) (Nat.le_of_ble_eq_true rfl)
theorem movsw : Statement (.movsw) :=
  fixed (n := 1) (fun _ _ => rfl) (Nat.le_of_ble_eq_true rfl) (Nat.le_of_ble_eq_true rfl)
theorem cmpsb : Statement (.cmpsb) :=
  fixed (n := 1) (fun _ _ => rfl) (Nat.le_of_ble_eq_true rfl) (Nat.le_of_ble_eq_true rfl)
theorem cmpsw : Statement (.cmpsw) :=
  fixed (n := 1) (fun _ _ => rfl) (Nat.le_of_ble_eq_true rfl) (Nat.le_of_ble_eq_true rfl)
theorem stosb : Statement (.stosb) :=
  fixed (n := 1) (fun _ _ => rfl) (Nat.le_of_ble_eq_true rfl) (Nat.le_of_ble_eq_true rfl)
theorem stosw : Statement (.stosw) :=
  fixed (n := 1) (fun _ _ => rfl) (Nat.le_of_ble_eq_true rfl) (Nat.le_of_ble_eq_true rfl)
theorem lodsb : Statement (.lodsb) :=
  fixed (n := 1) (fun _ _ => rfl) (Nat.le_of_ble_eq_true rfl) (Nat.le_of_ble_eq_true rfl)
theorem lodsw : Statement (.lodsw) :=
  fixed (n := 1) (fun _ _ => rfl) (Nat.le_of_ble_eq_true rfl) (Nat.le_of_ble_eq_true rfl)
theorem scasb : Statement (.scasb) :=
  fixed (n := 1) (fun _ _ => rfl) (Nat.le_of_ble_eq_true rfl) (Nat.le_of_ble_eq_true rfl)
theorem scasw : Statement (.scasw) :=
  fixed (n := 1) (fun _ _ => rfl) (Nat.le_of_ble_eq_true rfl) (Nat.le_of_ble_eq_true rfl)
theorem cmpxchgRm8R8 (rm : RM) (reg : Reg) : Statement (.cmpxchgRm8R8 rm reg) :=
  withRM (op := fun _ => [0x0F#8, 0xB0#8]) (tail := fun _ => []) reg.num rm (fun _ _ => (List.append_nil _).symm) fun _ => (Nat.le_of_ble_eq_true rfl)
theorem cmpxchgRmR (rm : RM) (reg : Reg) : Statement (.cmpxchgRmR rm reg) :=
  withRM (op := fun _ => [0x0F#8, 0xB1#8]) (tail := fun _ => []) reg.num rm (fun _ _ => (List.append_nil _).symm) fun _ => (Nat.le_of_ble_eq_true rfl)
theorem xaddRm8R8 (rm : RM) (reg : Reg) : Statement (.xaddRm8R8 rm reg) :=
  withRM (op := fun _ => [0x0F#8, 0xC0#8]) (tail := fun _ => []) reg.num rm (fun _ _ => (List.append_nil _).symm) fun _ => (Nat.le_of_ble_eq_true rfl)
theorem xaddRmR (rm : RM) (reg : Reg) : Statement (.xaddRmR rm reg) :=
  withRM (op := fun _ => [0x0F#8, 0xC1#8]) (tail := fun _ => []) reg.num rm (fun _ _ => (List.append_nil _).symm) fun _ => (Nat.le_of_ble_eq_true rfl)
theorem cmpxchg8bM64 (m : Mem) : Statement (.cmpxchg8bM64 m) :=
  withMem (op := [0x0F#8, 0xC7#8]) 1#3 m (fun _ _ => rfl) (Nat.le_of_ble_eq_true rfl)
theorem movRm8R8 (rm : RM) (reg : Reg) : Statement (.movRm8R8 rm reg) :=
  withRM (op := fun _ => [0x88#8]) (tail := fun _ => []) reg.num rm (fun _ _ => (List.append_nil _).symm) fun _ => (Nat.le_of_ble_eq_true rfl)
theorem movRmR (rm : RM) (reg : Reg) : Statement (.movRmR rm reg) :=
  withRM (op := fun _ => [0x89#8]) (tail := fun _ => []) reg.num rm (fun _ _ => (List.append_nil _).symm) fun _ => (Nat.le_of_ble_eq_true rfl)
theorem movR8Rm8 (rm : RM) (reg : Reg) : Statement (.movR8Rm8 rm reg) :=
  withRM (op := fun _ => [0x8A#8]) (tail := fun _ => []) reg.num rm (fun _ _ => (List.append_nil _).symm) fun _ => (Nat.le_of_ble_eq_true rfl)
theorem movRRm (rm : RM) (reg : Reg) : Statement (.movRRm rm reg) :=
  withRM (op := fun _ => [0x8B#8]) (tail := fun _ => []) reg.num rm (fun _ _ => (List.append_nil _).symm) fun _ => (Nat.le_of_ble_eq_true rfl)
theorem movRm8Ib (rm : RM) (imm : Byte) : Statement (.movRm8Ib rm imm) :=
  withRM (op := fun _ => [0xC6#8]) (tail := fun _ => [imm]) 0#3 rm (fun _ _ => rfl) fun _ => (Nat.le_of_ble_eq_true rfl)
theorem movRmIz (rm : RM) (imm : Word) : Statement (.movRmIz rm imm) :=
  withRM (op := fun _ => [0xC7#8]) (tail := fun osz => encSized osz imm) 0#3 rm (fun _ _ => rfl)
  fun osz => Nat.add_le_add_left (encSized_length osz imm).2 1
theorem movR8Ib (reg : Reg) (imm : Byte) : Statement (.movR8Ib reg imm) :=
  fixed (n := 2) (fun _ _ => rfl) (Nat.le_of_ble_eq_true rfl) (Nat.le_of_ble_eq_true rfl)
theorem movRIz (reg : Reg) (imm : Word) : Statement (.movRIz reg imm) :=
  withSized (op := [0xB8#8 + reg.num.setWidth 8]) (tail := []) imm (fun osz _ => osz) (fun _ _ => (List.append_nil _).symm) (Nat.le_of_ble_eq_true rfl)
theorem movAlMoffs (off : Word) : Statement (.movAlMoffs off) :=
  withSized (op := [0xA0#8]) (tail := []) off (fun _ asz => asz) (fun _ _ => (List.append_nil _).symm) (Nat.le_of_ble_eq_true rfl)
theorem movEaxMoffs (off : Word) : Statement (.movEaxMoffs off) :=
  withSized (op := [0xA1#8]) (tail := []) off (fun _ asz => asz) (fun _ _ => (List.append_nil _).symm) (Nat.le_of_ble_eq_true rfl)
theorem movMoffsAl (off : Word) : Statement (.movMoffsAl off) :=
  withSized (op := [0xA2#8]) (tail := []) off (fun _ asz => asz) (fun _ _ => (List.append_nil _).symm) (Nat.le_of_ble_eq_true rfl)
theorem movMoffsEax (off : Word) : Statement (.movMoffsEax off) :=
  withSized (op := [0xA3#8]) (tail := []) off (fun _ asz => asz) (fun _ _ => (List.append_nil _).symm) (Nat.le_of_ble_eq_true rfl)
theorem xchgRm8R8 (rm : RM) (reg : Reg) : Statement (.xchgRm8R8 rm reg) :=
  withRM (op := fun _ => [0x86#8]) (tail := fun _ => []) reg.num rm (fun _ _ => (List.append_nil _).symm) fun _ => (Nat.le_of_ble_eq_true rfl)
theorem xchgRmR (rm : RM) (reg : Reg) : Statement (.xchgRmR rm reg) :=
  withRM (op := fun _ => [0x87#8]) (tail := fun _ => []) reg.num rm (fun _ _ => (List.append_nil _).symm) fun _ => (Nat.le_of_ble_eq_true rfl)
theorem xchgEaxR (reg : Reg) : Statement (.xchgEaxR reg) :=
  fixed (n := 1) (fun _ _ => rfl) (Nat.le_of_ble_eq_true rfl) (Nat.le_of_ble_eq_true rfl)
theorem nop : Statement (.nop) :=
  fixed (n := 1) (fun _ _ => rfl) (Nat.le_of_ble_eq_true rfl) (Nat.le_of_ble_eq_true rfl)
theorem leaRM (m : Mem) (reg : Reg) : Statement (.leaRM m reg) :=
  withMem (op := [0x8D#8]) reg.num m (fun _ _ => rfl) (Nat.le_of_ble_eq_true rfl)
theorem movzxRRm8 (rm : RM) (reg : Reg) : Statement (.movzxRRm8 rm reg) :=
  withRM (op := fun _ => [0x0F#8, 0xB6#8]) (tail := fun _ => []) reg.num rm (fun _ _ => (List.append_nil _).symm) fun _ => (Nat.le_of_ble_eq_true rfl)
theorem movzxRRm16 (rm : RM) (reg : Reg) : Statement (.movzxRRm16 rm reg) :=
  withRM (op := fun _ => [0x0F#8, 0xB7#8]) (tail := fun _ => []) reg.num rm (fun _ _ => (List.append_nil _).symm) fun _ => (Nat.le_of_ble_eq_true rfl)
theorem movsxRRm8 (rm : RM) (reg : Reg) : Statement (.movsxRRm8 rm reg) :=
  withRM (op := fun _ => [0x0F#8, 0xBE#8]) (tail := fun _ => []) reg.num rm (fun _ _ => (List.append_nil _).symm) fun _ => (Nat.le_of_ble_eq_true rfl)
theorem movsxRRm16 (rm : RM) (reg : Reg) : Statement (.movsxRRm16 rm reg) :=
  withRM (op := fun _ => [0x0F#8, 0xBF#8]) (tail := fun _ => []) reg.num rm (fun _ _ => (List.append_nil _).symm) fun _ => (Nat.le_of_ble_eq_true rfl)
theorem cbw : Statement (.cbw) :=
  fixed (n := 1) (fun _ _ => rfl) (Nat.le_of_ble_eq_true rfl) (Nat.le_of_ble_eq_true rfl)
theorem cwd : Statement (.cwd) :=
  fixed (n := 1) (fun _ _ => rfl) (Nat.le_of_ble_eq_true rfl) (Nat.le_of_ble_eq_true rfl)
theorem pushR (reg : Reg) : Statement (.pushR reg) :=
  fixed (n := 1) (fun _ _ => rfl) (Nat.le_of_ble_eq_true rfl) (Nat.le_of_ble_eq_true rfl)
theorem popR (reg : Reg) : Statement (.popR reg) :=
  fixed (n := 1) (fun _ _ => rfl) (Nat.le_of_ble_eq_true rfl) (Nat.le_of_ble_eq_true rfl)
theorem pushIz (imm : Word) : Statement (.pushIz imm) :=
  withSized (op := [0x68#8]) (tail := []) imm (fun osz _ => osz) (fun _ _ => (List.append_nil _).symm) (Nat.le_of_ble_eq_true rfl)
theorem pushIbs (imm : Byte) : Statement (.pushIbs imm) :=
  fixed (n := 2) (fun _ _ => rfl) (Nat.le_of_ble_eq_true rfl) (Nat.le_of_ble_eq_true rfl)
theorem pushRm (rm : RM) : Statement (.pushRm rm) :=
  withRM (op := fun _ => [0xFF#8]) (tail := fun _ => []) 6#3 rm (fun _ _ => (List.append_nil _).symm) fun _ => (Nat.le_of_ble_eq_true rfl)
theorem popRm (rm : RM) : Statement (.popRm rm) :=
  withRM (op := fun _ => [0x8F#8]) (tail := fun _ => []) 0#3 rm (fun _ _ => (List.append_nil _).symm) fun _ => (Nat.le_of_ble_eq_true rfl)
theorem pusha : Statement (.pusha) :=
  fixed (n := 1) (fun _ _ => rfl) (Nat.le_of_ble_eq_true rfl) (Nat.le_of_ble_eq_true rfl)
theorem popa : Statement (.popa) :=
  fixed (n := 1) (fun _ _ => rfl) (Nat.le_of_ble_eq_true rfl) (Nat.le_of_ble_eq_true rfl)
theorem xlat : Statement (.xlat) :=
  fixed (n := 1) (fun _ _ => rfl) (Nat.le_of_ble_eq_true rfl) (Nat.le_of_ble_eq_true rfl)
theorem leave : Statement (.leave) :=
  fixed (n := 1) (fun _ _ => rfl) (Nat.le_of_ble_eq_true rfl) (Nat.le_of_ble_eq_true rfl)
theorem jccRel8 (cc : Cond) (rel : Byte) : Statement (.jccRel8 cc rel) :=
  fixed (n := 2) (fun _ _ => rfl) (Nat.le_of_ble_eq_true rfl) (Nat.le_of_ble_eq_true rfl)
theorem jccRelz (cc : Cond) (rel : Word) : Statement (.jccRelz cc rel) :=
  withSized (op := [0x0F#8, 0x80#8 + cc.num.setWidth 8]) (tail := []) rel (fun osz _ => osz) (fun _ _ => (List.append_nil _).symm) (Nat.le_of_ble_eq_true rfl)
theorem jmpRel8 (rel : Byte) : Statement (.jmpRel8 rel) :=
  fixed (n := 2) (fun _ _ => rfl) (Nat.le_of_ble_eq_true rfl) (Nat.le_of_ble_eq_true rfl)
theorem jmpRelz (rel : Word) : Statement (.jmpRelz rel) :=
  withSized (op := [0xE9#8]) (tail := []) rel (fun osz _ => osz) (fun _ _ => (List.append_nil _).symm) (Nat.le_of_ble_eq_true rfl)
theorem loopRel8 (rel : Byte) : Statement (.loopRel8 rel) :=
  fixed (n := 2) (fun _ _ => rfl) (Nat.le_of_ble_eq_true rfl) (Nat.le_of_ble_eq_true rfl)
theorem loopeRel8 (rel : Byte) : Statement (.loopeRel8 rel) :=
  fixed (n := 2) (fun _ _ => rfl) (Nat.le_of_ble_eq_true rfl) (Nat.le_of_ble_eq_true rfl)
theorem loopneRel8 (rel : Byte) : Statement (.loopneRel8 rel) :=
  fixed (n := 2) (fun _ _ => rfl) (Nat.le_of_ble_eq_true rfl) (Nat.le_of_ble_eq_true rfl)
theorem jcxzRel8 (rel : Byte) : Statement (.jcxzRel8 rel) :=
  fixed (n := 2) (fun _ _ => rfl) (Nat.le_of_ble_eq_true rfl) (Nat.le_of_ble_eq_true rfl)
theorem jmpRm (rm : RM) : Statement (.jmpRm rm) :=
  withRM (op := fun _ => [0xFF#8]) (tail := fun _ => []) 4#3 rm (fun _ _ => (List.append_nil _).symm) fun _ => (Nat.le_of_ble_eq_true rfl)
theorem callRelz (rel : Word) : Statement (.callRelz rel) :=
  withSized (op := [0xE8#8]) (tail := []) rel (fun osz _ => osz) (fun _ _ => (List.append_nil _).symm) (Nat.le_of_ble_eq_true rfl)
theorem callRm (rm : RM) : Statement (.callRm rm) :=
  withRM (op := fun _ => [0xFF#8]) (tail := fun _ => []) 2#3 rm (fun _ _ => (List.append_nil _).symm) fun _ => (Nat.le_of_ble_eq_true rfl)
theorem ret : Statement (.ret) :=
  fixed (n := 1) (fun _ _ => rfl) (Nat.le_of_ble_eq_true rfl) (Nat.le_of_ble_eq_true rfl)
theorem retIw (imm : BitVec 16) : Statement (.retIw imm) :=
  fixed (n := 3) (fun _ _ => rfl) (Nat.le_of_ble_eq_true rfl) (Nat.le_of_ble_eq_true rfl)
theorem jmpPtr (off : Word) (sel : Sel) : Statement (.jmpPtr off sel) :=
  withSized (op := [0xEA#8]) (tail := enc16 sel) off (fun osz _ => osz) (fun _ _ => rfl) (by simp [enc16])
theorem jmpMemFar (m : Mem) : Statement (.jmpMemFar m) :=
  withMem (op := [0xFF#8]) 5#3 m (fun _ _ => rfl) (Nat.le_of_ble_eq_true rfl)
theorem callPtr (off : Word) (sel : Sel) : Statement (.callPtr off sel) :=
  withSized (op := [0x9A#8]) (tail := enc16 sel) off (fun osz _ => osz) (fun _ _ => rfl) (by simp [enc16])
theorem callMemFar (m : Mem) : Statement (.callMemFar m) :=
  withMem (op := [0xFF#8]) 3#3 m (fun _ _ => rfl) (Nat.le_of_ble_eq_true rfl)
theorem retf : Statement (.retf) :=
  fixed (n := 1) (fun _ _ => rfl) (Nat.le_of_ble_eq_true rfl) (Nat.le_of_ble_eq_true rfl)
theorem retfIw (imm : BitVec 16) : Statement (.retfIw imm) :=
  fixed (n := 3) (fun _ _ => rfl) (Nat.le_of_ble_eq_true rfl) (Nat.le_of_ble_eq_true rfl)
theorem iret : Statement (.iret) :=
  fixed (n := 1) (fun _ _ => rfl) (Nat.le_of_ble_eq_true rfl) (Nat.le_of_ble_eq_true rfl)
theorem intIb (imm : Byte) : Statement (.intIb imm) :=
  fixed (n := 2) (fun _ _ => rfl) (Nat.le_of_ble_eq_true rfl) (Nat.le_of_ble_eq_true rfl)
theorem int3 : Statement (.int3) :=
  fixed (n := 1) (fun _ _ => rfl) (Nat.le_of_ble_eq_true rfl) (Nat.le_of_ble_eq_true rfl)
theorem into : Statement (.into) :=
  fixed (n := 1) (fun _ _ => rfl) (Nat.le_of_ble_eq_true rfl) (Nat.le_of_ble_eq_true rfl)
theorem pushf : Statement (.pushf) :=
  fixed (n := 1) (fun _ _ => rfl) (Nat.le_of_ble_eq_true rfl) (Nat.le_of_ble_eq_true rfl)
theorem popf : Statement (.popf) :=
  fixed (n := 1) (fun _ _ => rfl) (Nat.le_of_ble_eq_true rfl) (Nat.le_of_ble_eq_true rfl)
theorem sahf : Statement (.sahf) :=
  fixed (n := 1) (fun _ _ => rfl) (Nat.le_of_ble_eq_true rfl) (Nat.le_of_ble_eq_true rfl)
theorem lahf : Statement (.lahf) :=
  fixed (n := 1) (fun _ _ => rfl) (Nat.le_of_ble_eq_true rfl) (Nat.le_of_ble_eq_true rfl)
theorem clc : Statement (.clc) :=
  fixed (n := 1) (fun _ _ => rfl) (Nat.le_of_ble_eq_true rfl) (Nat.le_of_ble_eq_true rfl)
theorem stc : Statement (.stc) :=
  fixed (n := 1) (fun _ _ => rfl) (Nat.le_of_ble_eq_true rfl) (Nat.le_of_ble_eq_true rfl)
theorem cmc : Statement (.cmc) :=
  fixed (n := 1) (fun _ _ => rfl) (Nat.le_of_ble_eq_true rfl) (Nat.le_of_ble_eq_true rfl)
theorem cld : Statement (.cld) :=
  fixed (n := 1) (fun _ _ => rfl) (Nat.le_of_ble_eq_true rfl) (Nat.le_of_ble_eq_true rfl)
theorem std : Statement (.std) :=
  fixed (n := 1) (fun _ _ => rfl) (Nat.le_of_ble_eq_true rfl) (Nat.le_of_ble_eq_true rfl)
theorem cli : Statement (.cli) :=
  fixed (n := 1) (fun _ _ => rfl) (Nat.le_of_ble_eq_true rfl) (Nat.le_of_ble_eq_true rfl)
theorem sti : Statement (.sti) :=
  fixed (n := 1) (fun _ _ => rfl) (Nat.le_of_ble_eq_true rfl) (Nat.le_of_ble_eq_true rfl)
theorem setccRm8 (cc : Cond) (rm : RM) : Statement (.setccRm8 cc rm) :=
  withRM (op := fun _ => [0x0F#8, 0x90#8 + cc.num.setWidth 8]) (tail := fun _ => []) 0#3 rm (fun _ _ => (List.append_nil _).symm) fun _ => (Nat.le_of_ble_eq_true rfl)
theorem movSregRm16 (rm : RM) (sreg : SegReg) : Statement (.movSregRm16 rm sreg) :=
  withRM (op := fun _ => [0x8E#8]) (tail := fun _ => []) sreg.num rm (fun _ _ => (List.append_nil _).symm) fun _ => (Nat.le_of_ble_eq_true rfl)
theorem movRm16Sreg (rm : RM) (sreg : SegReg) : Statement (.movRm16Sreg rm sreg) :=
  withRM (op := fun _ => [0x8C#8]) (tail := fun _ => []) sreg.num rm (fun _ _ => (List.append_nil _).symm) fun _ => (Nat.le_of_ble_eq_true rfl)
theorem pushEs : Statement (.pushEs) :=
  fixed (n := 1) (fun _ _ => rfl) (Nat.le_of_ble_eq_true rfl) (Nat.le_of_ble_eq_true rfl)
theorem pushCs : Statement (.pushCs) :=
  fixed (n := 1) (fun _ _ => rfl) (Nat.le_of_ble_eq_true rfl) (Nat.le_of_ble_eq_true rfl)
theorem pushSs : Statement (.pushSs) :=
  fixed (n := 1) (fun _ _ => rfl) (Nat.le_of_ble_eq_true rfl) (Nat.le_of_ble_eq_true rfl)
theorem pushDs : Statement (.pushDs) :=
  fixed (n := 1) (fun _ _ => rfl) (Nat.le_of_ble_eq_true rfl) (Nat.le_of_ble_eq_true rfl)
theorem pushFs : Statement (.pushFs) :=
  fixed (n := 2) (fun _ _ => rfl) (Nat.le_of_ble_eq_true rfl) (Nat.le_of_ble_eq_true rfl)
theorem pushGs : Statement (.pushGs) :=
  fixed (n := 2) (fun _ _ => rfl) (Nat.le_of_ble_eq_true rfl) (Nat.le_of_ble_eq_true rfl)
theorem popEs : Statement (.popEs) :=
  fixed (n := 1) (fun _ _ => rfl) (Nat.le_of_ble_eq_true rfl) (Nat.le_of_ble_eq_true rfl)
theorem popSs : Statement (.popSs) :=
  fixed (n := 1) (fun _ _ => rfl) (Nat.le_of_ble_eq_true rfl) (Nat.le_of_ble_eq_true rfl)
theorem popDs : Statement (.popDs) :=
  fixed (n := 1) (fun _ _ => rfl) (Nat.le_of_ble_eq_true rfl) (Nat.le_of_ble_eq_true rfl)
theorem popFs : Statement (.popFs) :=
  fixed (n := 2) (fun _ _ => rfl) (Nat.le_of_ble_eq_true rfl) (Nat.le_of_ble_eq_true rfl)
theorem popGs : Statement (.popGs) :=
  fixed (n := 2) (fun _ _ => rfl) (Nat.le_of_ble_eq_true rfl) (Nat.le_of_ble_eq_true rfl)
theorem ldsRMemFar (m : Mem) (reg : Reg) : Statement (.ldsRMemFar m reg) :=
  withMem (op := [0xC5#8]) reg.num m (fun _ _ => rfl) (Nat.le_of_ble_eq_true rfl)
theorem lesRMemFar (m : Mem) (reg : Reg) : Statement (.lesRMemFar m reg) :=
  withMem (op := [0xC4#8]) reg.num m (fun _ _ => rfl) (Nat.le_of_ble_eq_true rfl)
theorem lssRMemFar (m : Mem) (reg : Reg) : Statement (.lssRMemFar m reg) :=
  withMem (op := [0x0F#8, 0xB2#8]) reg.num m (fun _ _ => rfl) (Nat.le_of_ble_eq_true rfl)
theorem lfsRMemFar (m : Mem) (reg : Reg) : Statement (.lfsRMemFar m reg) :=
  withMem (op := [0x0F#8, 0xB4#8]) reg.num m (fun _ _ => rfl) (Nat.le_of_ble_eq_true rfl)
theorem lgsRMemFar (m : Mem) (reg : Reg) : Statement (.lgsRMemFar m reg) :=
  withMem (op := [0x0F#8, 0xB5#8]) reg.num m (fun _ _ => rfl) (Nat.le_of_ble_eq_true rfl)
theorem movCr0R32 (reg : Reg) : Statement (.movCr0R32 reg) :=
  fixed (n := 3) (fun _ _ => rfl) (Nat.le_of_ble_eq_true rfl) (Nat.le_of_ble_eq_true rfl)
theorem movCr2R32 (reg : Reg) : Statement (.movCr2R32 reg) :=
  fixed (n := 3) (fun _ _ => rfl) (Nat.le_of_ble_eq_true rfl) (Nat.le_of_ble_eq_true rfl)
theorem movCr3R32 (reg : Reg) : Statement (.movCr3R32 reg) :=
  fixed (n := 3) (fun _ _ => rfl) (Nat.le_of_ble_eq_true rfl) (Nat.le_of_ble_eq_true rfl)
theorem movR32Cr0 (reg : Reg) : Statement (.movR32Cr0 reg) :=
  fixed (n := 3) (fun _ _ => rfl) (Nat.le_of_ble_eq_true rfl) (Nat.le_of_ble_eq_true rfl)
theorem movR32Cr2 (reg : Reg) : Statement (.movR32Cr2 reg) :=
  fixed (n := 3) (fun _ _ => rfl) (Nat.le_of_ble_eq_true rfl) (Nat.le_of_ble_eq_true rfl)
theorem movR32Cr3 (reg : Reg) : Statement (.movR32Cr3 reg) :=
  fixed (n := 3) (fun _ _ => rfl) (Nat.le_of_ble_eq_true rfl) (Nat.le_of_ble_eq_true rfl)
theorem smswRm16 (rm : RM) : Statement (.smswRm16 rm) :=
  withRM (op := fun _ => [0x0F#8, 0x01#8]) (tail := fun _ => []) 4#3 rm (fun _ _ => (List.append_nil _).symm) fun _ => (Nat.le_of_ble_eq_true rfl)
theorem lmswRm16 (rm : RM) : Statement (.lmswRm16 rm) :=
  withRM (op := fun _ => [0x0F#8, 0x01#8]) (tail := fun _ => []) 6#3 rm (fun _ _ => (List.append_nil _).symm) fun _ => (Nat.le_of_ble_eq_true rfl)
theorem invlpgM (m : Mem) : Statement (.invlpgM m) :=
  withMem (op := [0x0F#8, 0x01#8]) 7#3 m (fun _ _ => rfl) (Nat.le_of_ble_eq_true rfl)
theorem clts : Statement (.clts) :=
  fixed (n := 2) (fun _ _ => rfl) (Nat.le_of_ble_eq_true rfl) (Nat.le_of_ble_eq_true rfl)
theorem invd : Statement (.invd) :=
  fixed (n := 2) (fun _ _ => rfl) (Nat.le_of_ble_eq_true rfl) (Nat.le_of_ble_eq_true rfl)
theorem wbinvd : Statement (.wbinvd) :=
  fixed (n := 2) (fun _ _ => rfl) (Nat.le_of_ble_eq_true rfl) (Nat.le_of_ble_eq_true rfl)
theorem hlt : Statement (.hlt) :=
  fixed (n := 1) (fun _ _ => rfl) (Nat.le_of_ble_eq_true rfl) (Nat.le_of_ble_eq_true rfl)
theorem ud2 : Statement (.ud2) :=
  fixed (n := 2) (fun _ _ => rfl) (Nat.le_of_ble_eq_true rfl) (Nat.le_of_ble_eq_true rfl)

end Sys2Proof.Laws.BodySpan
end

