-- ==== Sys2Proof/Laws/Runs.lean ====
section
/-! SUPPORT. What a start of a run looks like, and that its first step executes an instruction (spec/70_reset_and_hazards.md R782, R783). -/

namespace Sys2Proof.Machine

/-- Installing handlers changes the handler table alone. -/
theorem setHandlers_only (s : State) (page : Nat) (h : Nat → Handler) (n : Nat) : ∃ l, s.setHandlers page h n = { s with handlers := l } := by
  induction n with
  | zero => exact ⟨s.handlers, rfl⟩
  | succ n ih =>
    obtain ⟨l, e⟩ := ih
    unfold State.setHandlers
    rw [e]
    exact ⟨_, rfl⟩

/-- A configuring action changes the handler table and empties the TLB. -/
theorem configures_only {a : EnvAct} (ha : a.configures = true) (s : State) :
    ∃ l, a.apply s = { s with handlers := l, tlbR := [], tlbW := [] } := by
  cases a with
  | setPageHandler page count h =>
    obtain ⟨l, e⟩ := setHandlers_only s page (fun _ => h) count
    exact ⟨l, by show (s.setHandlers page (fun _ => h) count).clearTlb = _; rw [e]; rfl⟩
  | resetPageHandler page count =>
    obtain ⟨l, e⟩ := setHandlers_only s page (resetHandler s.cfg) count
    exact ⟨l, by show (s.setHandlers page (resetHandler s.cfg) count).clearTlb = _; rw [e]; rfl⟩
  | setFrameBuffer page count mmioPage mmioCount d =>
    obtain ⟨k, e⟩ := setHandlers_only s page (fun _ => .ram) count
    obtain ⟨l, f⟩ := setHandlers_only { s with handlers := k } mmioPage (fun _ => .mmio d) mmioCount
    refine ⟨l, ?_⟩
    show ((s.setHandlers page (fun _ => .ram) count).setHandlers mmioPage (fun _ => .mmio d) mmioCount).clearTlb = _
    rw [e, f]
    rfl
  | mapPage _ _ _ => cases ha
  | unmapPages _ _ => cases ha
  | setCap _ _ => cases ha
  | envWrite _ _ => cases ha
  | setIntr _ => cases ha

/-- Configuring actions on a state whose TLB is empty change the handler table alone. -/
theorem applyEnv_configures (acts : List EnvAct) (s : State) (h : acts.all EnvAct.configures = true) (hr : s.tlbR = []) (hw : s.tlbW = []) :
    ∃ l, applyEnv acts s = { s with handlers := l } := by
  induction acts generalizing s with
  | nil => exact ⟨s.handlers, rfl⟩
  | cons a acts ih =>
    simp only [List.all_cons, Bool.and_eq_true] at h
    obtain ⟨k, e⟩ := configures_only h.1 s
    have e' : a.apply s = { s with handlers := k } := by
      rw [e]
      cases s
      simp only at hr hw
      subst hr hw
      rfl
    obtain ⟨l, f⟩ := ih { s with handlers := k } h.2 hr hw
    refine ⟨l, ?_⟩
    show applyEnv acts (a.apply s) = _
    rw [e', f]

/-- A start has the fields R782 fixes: real mode with paging off, CR2, CR3, CPL and both maps empty or 0, no mark, no halt, no shadow, no
interrupt and an empty history. -/
theorem starts_clean {s : State} (h : s.starts) :
    s.pe = false ∧ s.pg = false ∧ s.cr2 = 0#32 ∧ s.cr3 = 0#32 ∧ s.cpl = 0#2 ∧ s.tlbR = [] ∧ s.tlbW = [] ∧ s.fmap = [] ∧ s.halted = false ∧
      s.shadow = .none ∧ s.refused = none ∧ s.faulted = none ∧ s.intr = none ∧ s.history = [] := by
  have mode : ∀ g : CpuGen, (resetCr0 g).getLsbD 0 = false ∧ (resetCr0 g).getLsbD 31 = false := by
    intro g
    cases g <;> decide
  obtain ⟨acts, c, hc, h | ⟨regs, written, eip, eflags, sels, mem, _, h⟩⟩ := h
  · obtain ⟨l, e⟩ := applyEnv_configures acts (State.resetWith c) hc rfl rfl
    rw [h, e]
    exact ⟨(mode c.gen).1, (mode c.gen).2, rfl, rfl, rfl, rfl, rfl, rfl, rfl, rfl, rfl, rfl, rfl, rfl⟩
  · obtain ⟨l, e⟩ := applyEnv_configures acts (launch c regs written eip eflags sels mem) hc rfl rfl
    rw [h, e]
    exact ⟨(mode c.gen).1, (mode c.gen).2, rfl, rfl, rfl, rfl, rfl, rfl, rfl, rfl, rfl, rfl, rfl, rfl⟩

/-- The first step of a run fetches at CS:eip and executes: no interrupt is accepted before it (R783). -/
theorem first_step_executes {s : State} (h : s.starts) : step s = endInstr s (runInstr exec (startInstr s)) := by
  obtain ⟨_, _, _, _, _, _, _, _, hh, _, hr, hf, hi, _⟩ := starts_clean h
  have ha : acceptable s = none := by simp [acceptable, hi]
  unfold step cycle
  rw [hr, hf]
  simp only [ha, hh, Bool.false_eq_true, if_false]

end Sys2Proof.Machine
end

