-- ==== Sys2Proof/Tests/Slice0.lean ====
section
/-! SUPPORT. Tests of the model: ill-formed terms, one word for every row of the opcode table, the worked examples of the spec, and, for each
statement with hypotheses, a state and operands that meet them. -/

namespace Sys2Proof.Tests

set_option Elab.async false

open Sys2Proof.Machine

/-! The states the tests begin from. -/

/-- A flat segment of real mode. -/
def flat : SegCache := SegCache.real 0 0

/-- Real mode, 16-bit code, flat segments, an instruction of two bytes at 10H fetched; a stack at 100H, a pointer at 300H. -/
def base : State :=
  { State.reset with
    segs := { es := flat, cs := flat, ss := flat, ds := flat, fs := flat, gs := flat }
    regs :=
      { eax := 0xAAAA0012#32, ecx := 0xBBBB0002#32, edx := 0xCCCC0000#32, ebx := 0xDDDD0300#32
        esp := 0x100#32, ebp := 0x108#32, esi := 0x200#32, edi := 0x210#32 }
    eip := 0x12#32
    eipStart := 0x10#32
    mem := [(0x100, 0x34#8), (0x101, 0x12#8), (0x102, 0x78#8), (0x103, 0x56#8), (0x104, 0x02#8), (0x105, 0x02#8), (0x108, 0x44#8),
      (0x109, 0x33#8), (0x200, 0x55#8), (0x201, 0x66#8), (0x210, 0x55#8), (0x211, 0x77#8), (0x300, 0x00#8), (0x301, 0x05#8),
      (0x302, 0x00#8), (0x303, 0xF0#8), (0x304, 0x00#8), (0x305, 0x00#8), (0x306, 0x00#8), (0x307, 0x00#8), (0x312, 0x99#8)] }

/-- The same with the operand size 32. -/
def wide : State := { base with prefixes := { Prefixes.clear with opsizeOvr := true } }

/-- The same in protected mode at CPL 0. -/
def prot : State := { base with cr0 := 0x60000011#32 }

/-- The same at CPL 3 with IOPL 0. -/
def user : State := { prot with cpl := 3#2 }

/-- The same with LOCK. -/
def locked : State := { base with prefixes := { Prefixes.clear with lock := true } }

/-- The launch parameters of the examples without evictions, which a test can evaluate. -/
def still : Config := { Config.examples with eviction := .never }

/-- The same on a 586. -/
def base586 : State := { base with cfg := { Config.examples with gen := .g586 } }

/-- BX as a memory operand. -/
def atBx : Mem := .based16 .bx .none

theorem allowed {s : State} {g : CpuGen} {b : Bool} (h : decide (g.num ≤ s.cfg.gen.num) = true) (h2 : (!s.pfx.lock || b) = true) :
    s.allows g b := ⟨of_decide_eq_true h, by intro hl; simpa [hl] using h2⟩

/-- The parameters of a state of the examples refuse. -/
theorem refuses {s : State} (h : (s.cfg.pmLoadSeg == .refuse && s.cfg.pmFarTransfer == .refuse && s.cfg.pmIret == .refuse &&
    s.cfg.pmDeliver == .refuse) = true) : s.pmRefuses := by
  simp only [Bool.and_eq_true, beq_iff_eq] at h
  exact ⟨h.1.1.1, h.1.1.2, h.1.2, h.2⟩

/-- An action succeeds, and its value and state pass a check. -/
def okThen {α : Type} (r : EStateM.Result Stop State α) (check : α → State → Bool) : Bool :=
  match r with
  | .ok a t => check a t
  | .error _ _ => false

theorem okThen_spec {α : Type} {r : EStateM.Result Stop State α} {check : α → State → Bool} (h : okThen r check = true) :
    ∃ a t, r = .ok a t ∧ check a t = true := by
  cases r with
  | ok a t => exact ⟨a, t, rfl, h⟩
  | error e t => exact nomatch h

/-- An instruction completes from `base` and delivers nothing. -/
def completes (i : Instr) : Bool :=
  match exec i base with
  | .next t => deliveredCount t.history == deliveredCount base.history
  | .fault _ | .refused _ => false

theorem completes_spec {i : Instr} (h : completes i = true) : ∃ t, exec i base = .next t ∧ sameDeliveries base t := by
  unfold completes at h
  split at h
  · exact ⟨_, ‹_›, eq_of_beq h⟩
  · exact nomatch h
  · exact nomatch h

/-! Ill-formed terms. -/

theorem test_wf_immediate_too_wide : (Instr.addEaxIz 0x10000#32).wellFormed .w16 .w16 = false := by decide

theorem test_wf_immediate_fits : (Instr.addEaxIz 0x10000#32).wellFormed .w32 .w16 = true := by decide

theorem test_wf_moffs_too_wide : (Instr.movAlMoffs 0x10000#32).wellFormed .w32 .w16 = false := by decide

theorem test_wf_bp_needs_displacement : (Instr.notRm8 (.mem (.based16 .bp .none))).wellFormed .w16 .w16 = false := by decide

theorem test_wf_ebp_needs_displacement : (Instr.notRm8 (.mem (.based32 .ebp .none))).wellFormed .w16 .w32 = false := by decide

theorem test_wf_esp_base_needs_sib : (Instr.notRm8 (.mem (.based32 .esp (.d8 0#8)))).wellFormed .w16 .w32 = false := by decide

theorem test_wf_esp_is_no_index : (Instr.notRm8 (.mem (.sib 0#2 (some .esp) .eax .none))).wellFormed .w16 .w32 = false := by decide

theorem test_wf_sib_ebp_needs_displacement : (Instr.notRm8 (.mem (.sib 0#2 none .ebp .none))).wellFormed .w16 .w32 = false := by decide

theorem test_wf_sib_abs_esp_is_no_index : (Instr.notRm8 (.mem (.sibAbs 0#2 (some .esp) 0#32))).wellFormed .w16 .w32 = false := by decide

theorem test_wf_form_of_the_other_size : (Instr.notRm8 (.mem (.abs32 0#32))).wellFormed .w16 .w16 = false ∧
    (Instr.notRm8 (.mem (.abs16 0#16))).wellFormed .w16 .w32 = false := by decide

theorem test_wf_no_mov_to_cs : (Instr.movSregRm16 (.reg .eax) .cs).wellFormed .w16 .w16 = false := by decide

theorem test_wf_xchg_eax_is_nop : (Instr.xchgEaxR .eax).wellFormed .w16 .w16 = false := by decide

/-! Decoding: one word of each row, written from the row's `match` bits, its ModRM fields and its immediates. -/

/-- Each word decodes, in 16-bit code of a 586, to its instruction, with no byte left over. -/
def reads (l : List (List Byte × Instr)) : Bool :=
  l.all fun e => decode .g586 false e.1 == (.instr { seg := none, osz := .w16, asz := .w16, lock := false, rep := .none } e.2, [])

theorem test_decode_arithmetic_1 : reads [
    ([0x00, 0xDA], .addRm8R8 (.reg .edx) .ebx),
    ([0x01, 0x1F], .addRmR (.mem (.based16 .bx .none)) .ebx),
    ([0x02, 0x5E, 0xFE], .addR8Rm8 (.mem (.based16 .bp (.d8 0xFE#8))) .ebx),
    ([0x03, 0x98, 0x34, 0x92], .addRRm (.mem (.based16 .bxSi (.full 0x9234#16))) .ebx),
    ([0x04, 0x85], .addAlIb 0x85#8),
    ([0x05, 0x21, 0x83], .addEaxIz 0x8321#32),
    ([0x80, 0xC2, 0x85], .addRm8Ib (.reg .edx) 0x85#8),
    ([0x81, 0x07, 0x21, 0x83], .addRmIz (.mem (.based16 .bx .none)) 0x8321#32),
    ([0x83, 0x46, 0xFE, 0x85], .addRmIbs (.mem (.based16 .bp (.d8 0xFE#8))) 0x85#8),
    ([0x08, 0x98, 0x34, 0x92], .orRm8R8 (.mem (.based16 .bxSi (.full 0x9234#16))) .ebx),
    ([0x09, 0x1E, 0xCD, 0xAB], .orRmR (.mem (.abs16 0xABCD#16)) .ebx),
    ([0x0A, 0x5B, 0x7F], .orR8Rm8 (.mem (.based16 .bpDi (.d8 0x7F#8))) .ebx)] = true := by decide +kernel

theorem test_decode_arithmetic_2 : reads [
    ([0x0B, 0xDA], .orRRm (.reg .edx) .ebx),
    ([0x0C, 0x85], .orAlIb 0x85#8),
    ([0x0D, 0x21, 0x83], .orEaxIz 0x8321#32),
    ([0x80, 0x88, 0x34, 0x92, 0x85], .orRm8Ib (.mem (.based16 .bxSi (.full 0x9234#16))) 0x85#8),
    ([0x81, 0x0E, 0xCD, 0xAB, 0x21, 0x83], .orRmIz (.mem (.abs16 0xABCD#16)) 0x8321#32),
    ([0x83, 0x4B, 0x7F, 0x85], .orRmIbs (.mem (.based16 .bpDi (.d8 0x7F#8))) 0x85#8),
    ([0x10, 0xDA], .adcRm8R8 (.reg .edx) .ebx),
    ([0x11, 0x1F], .adcRmR (.mem (.based16 .bx .none)) .ebx),
    ([0x12, 0x5E, 0xFE], .adcR8Rm8 (.mem (.based16 .bp (.d8 0xFE#8))) .ebx),
    ([0x13, 0x98, 0x34, 0x92], .adcRRm (.mem (.based16 .bxSi (.full 0x9234#16))) .ebx),
    ([0x14, 0x85], .adcAlIb 0x85#8),
    ([0x15, 0x21, 0x83], .adcEaxIz 0x8321#32)] = true := by decide +kernel

theorem test_decode_arithmetic_3 : reads [
    ([0x80, 0xD2, 0x85], .adcRm8Ib (.reg .edx) 0x85#8),
    ([0x81, 0x17, 0x21, 0x83], .adcRmIz (.mem (.based16 .bx .none)) 0x8321#32),
    ([0x83, 0x56, 0xFE, 0x85], .adcRmIbs (.mem (.based16 .bp (.d8 0xFE#8))) 0x85#8),
    ([0x18, 0x98, 0x34, 0x92], .sbbRm8R8 (.mem (.based16 .bxSi (.full 0x9234#16))) .ebx),
    ([0x19, 0x1E, 0xCD, 0xAB], .sbbRmR (.mem (.abs16 0xABCD#16)) .ebx),
    ([0x1A, 0x5B, 0x7F], .sbbR8Rm8 (.mem (.based16 .bpDi (.d8 0x7F#8))) .ebx),
    ([0x1B, 0xDA], .sbbRRm (.reg .edx) .ebx),
    ([0x1C, 0x85], .sbbAlIb 0x85#8),
    ([0x1D, 0x21, 0x83], .sbbEaxIz 0x8321#32),
    ([0x80, 0x98, 0x34, 0x92, 0x85], .sbbRm8Ib (.mem (.based16 .bxSi (.full 0x9234#16))) 0x85#8),
    ([0x81, 0x1E, 0xCD, 0xAB, 0x21, 0x83], .sbbRmIz (.mem (.abs16 0xABCD#16)) 0x8321#32),
    ([0x83, 0x5B, 0x7F, 0x85], .sbbRmIbs (.mem (.based16 .bpDi (.d8 0x7F#8))) 0x85#8)] = true := by decide +kernel

theorem test_decode_arithmetic_4 : reads [
    ([0x20, 0xDA], .andRm8R8 (.reg .edx) .ebx),
    ([0x21, 0x1F], .andRmR (.mem (.based16 .bx .none)) .ebx),
    ([0x22, 0x5E, 0xFE], .andR8Rm8 (.mem (.based16 .bp (.d8 0xFE#8))) .ebx),
    ([0x23, 0x98, 0x34, 0x92], .andRRm (.mem (.based16 .bxSi (.full 0x9234#16))) .ebx),
    ([0x24, 0x85], .andAlIb 0x85#8),
    ([0x25, 0x21, 0x83], .andEaxIz 0x8321#32),
    ([0x80, 0xE2, 0x85], .andRm8Ib (.reg .edx) 0x85#8),
    ([0x81, 0x27, 0x21, 0x83], .andRmIz (.mem (.based16 .bx .none)) 0x8321#32),
    ([0x83, 0x66, 0xFE, 0x85], .andRmIbs (.mem (.based16 .bp (.d8 0xFE#8))) 0x85#8),
    ([0x28, 0x98, 0x34, 0x92], .subRm8R8 (.mem (.based16 .bxSi (.full 0x9234#16))) .ebx),
    ([0x29, 0x1E, 0xCD, 0xAB], .subRmR (.mem (.abs16 0xABCD#16)) .ebx),
    ([0x2A, 0x5B, 0x7F], .subR8Rm8 (.mem (.based16 .bpDi (.d8 0x7F#8))) .ebx)] = true := by decide +kernel

theorem test_decode_arithmetic_5 : reads [
    ([0x2B, 0xDA], .subRRm (.reg .edx) .ebx),
    ([0x2C, 0x85], .subAlIb 0x85#8),
    ([0x2D, 0x21, 0x83], .subEaxIz 0x8321#32),
    ([0x80, 0xA8, 0x34, 0x92, 0x85], .subRm8Ib (.mem (.based16 .bxSi (.full 0x9234#16))) 0x85#8),
    ([0x81, 0x2E, 0xCD, 0xAB, 0x21, 0x83], .subRmIz (.mem (.abs16 0xABCD#16)) 0x8321#32),
    ([0x83, 0x6B, 0x7F, 0x85], .subRmIbs (.mem (.based16 .bpDi (.d8 0x7F#8))) 0x85#8),
    ([0x30, 0xDA], .xorRm8R8 (.reg .edx) .ebx),
    ([0x31, 0x1F], .xorRmR (.mem (.based16 .bx .none)) .ebx),
    ([0x32, 0x5E, 0xFE], .xorR8Rm8 (.mem (.based16 .bp (.d8 0xFE#8))) .ebx),
    ([0x33, 0x98, 0x34, 0x92], .xorRRm (.mem (.based16 .bxSi (.full 0x9234#16))) .ebx),
    ([0x34, 0x85], .xorAlIb 0x85#8),
    ([0x35, 0x21, 0x83], .xorEaxIz 0x8321#32)] = true := by decide +kernel

theorem test_decode_arithmetic_6 : reads [
    ([0x80, 0xF2, 0x85], .xorRm8Ib (.reg .edx) 0x85#8),
    ([0x81, 0x37, 0x21, 0x83], .xorRmIz (.mem (.based16 .bx .none)) 0x8321#32),
    ([0x83, 0x76, 0xFE, 0x85], .xorRmIbs (.mem (.based16 .bp (.d8 0xFE#8))) 0x85#8),
    ([0x38, 0x98, 0x34, 0x92], .cmpRm8R8 (.mem (.based16 .bxSi (.full 0x9234#16))) .ebx),
    ([0x39, 0x1E, 0xCD, 0xAB], .cmpRmR (.mem (.abs16 0xABCD#16)) .ebx),
    ([0x3A, 0x5B, 0x7F], .cmpR8Rm8 (.mem (.based16 .bpDi (.d8 0x7F#8))) .ebx),
    ([0x3B, 0xDA], .cmpRRm (.reg .edx) .ebx),
    ([0x3C, 0x85], .cmpAlIb 0x85#8),
    ([0x3D, 0x21, 0x83], .cmpEaxIz 0x8321#32),
    ([0x80, 0xB8, 0x34, 0x92, 0x85], .cmpRm8Ib (.mem (.based16 .bxSi (.full 0x9234#16))) 0x85#8),
    ([0x81, 0x3E, 0xCD, 0xAB, 0x21, 0x83], .cmpRmIz (.mem (.abs16 0xABCD#16)) 0x8321#32),
    ([0x83, 0x7B, 0x7F, 0x85], .cmpRmIbs (.mem (.based16 .bpDi (.d8 0x7F#8))) 0x85#8)] = true := by decide +kernel

theorem test_decode_arithmetic_7 : reads [
    ([0x84, 0xDA], .testRm8R8 (.reg .edx) .ebx),
    ([0x85, 0x1F], .testRmR (.mem (.based16 .bx .none)) .ebx),
    ([0xA8, 0x85], .testAlIb 0x85#8),
    ([0xA9, 0x21, 0x83], .testEaxIz 0x8321#32),
    ([0xF6, 0x06, 0xCD, 0xAB, 0x85], .testRm8Ib (.mem (.abs16 0xABCD#16)) 0x85#8),
    ([0xF7, 0x43, 0x7F, 0x21, 0x83], .testRmIz (.mem (.based16 .bpDi (.d8 0x7F#8))) 0x8321#32),
    ([0x45], .incR .ebp),
    ([0xFE, 0x07], .incRm8 (.mem (.based16 .bx .none))),
    ([0xFF, 0x46, 0xFE], .incRm (.mem (.based16 .bp (.d8 0xFE#8)))),
    ([0x4D], .decR .ebp),
    ([0xFE, 0x0E, 0xCD, 0xAB], .decRm8 (.mem (.abs16 0xABCD#16))),
    ([0xFF, 0x4B, 0x7F], .decRm (.mem (.based16 .bpDi (.d8 0x7F#8))))] = true := by decide +kernel

theorem test_decode_arithmetic_8 : reads [
    ([0xF6, 0xD2], .notRm8 (.reg .edx)),
    ([0xF7, 0x17], .notRm (.mem (.based16 .bx .none))),
    ([0xF6, 0x5E, 0xFE], .negRm8 (.mem (.based16 .bp (.d8 0xFE#8)))),
    ([0xF7, 0x98, 0x34, 0x92], .negRm (.mem (.based16 .bxSi (.full 0x9234#16)))),
    ([0xF6, 0x26, 0xCD, 0xAB], .mulRm8 (.mem (.abs16 0xABCD#16))),
    ([0xF7, 0x63, 0x7F], .mulRm (.mem (.based16 .bpDi (.d8 0x7F#8)))),
    ([0xF6, 0xEA], .imulRm8 (.reg .edx)),
    ([0xF7, 0x2F], .imulRm (.mem (.based16 .bx .none))),
    ([0xF6, 0x76, 0xFE], .divRm8 (.mem (.based16 .bp (.d8 0xFE#8)))),
    ([0xF7, 0xB0, 0x34, 0x92], .divRm (.mem (.based16 .bxSi (.full 0x9234#16)))),
    ([0xF6, 0x3E, 0xCD, 0xAB], .idivRm8 (.mem (.abs16 0xABCD#16))),
    ([0xF7, 0x7B, 0x7F], .idivRm (.mem (.based16 .bpDi (.d8 0x7F#8))))] = true := by decide +kernel

theorem test_decode_arithmetic_9 : reads [
    ([0x0F, 0xAF, 0xDA], .imulRRm (.reg .edx) .ebx),
    ([0x69, 0x1F, 0x21, 0x83], .imulRRmIz (.mem (.based16 .bx .none)) .ebx 0x8321#32),
    ([0x6B, 0x5E, 0xFE, 0x85], .imulRRmIbs (.mem (.based16 .bp (.d8 0xFE#8))) .ebx 0x85#8)] = true := by decide +kernel

theorem test_decode_shifts_1 : reads [
    ([0xC0, 0x80, 0x34, 0x92, 0x85], .rolRm8Ib (.mem (.based16 .bxSi (.full 0x9234#16))) 0x85#8),
    ([0xC1, 0x06, 0xCD, 0xAB, 0x85], .rolRmIb (.mem (.abs16 0xABCD#16)) 0x85#8),
    ([0xD0, 0x43, 0x7F], .rolRm8By1 (.mem (.based16 .bpDi (.d8 0x7F#8)))),
    ([0xD1, 0xC2], .rolRmBy1 (.reg .edx)),
    ([0xD2, 0x07], .rolRm8Cl (.mem (.based16 .bx .none))),
    ([0xD3, 0x46, 0xFE], .rolRmCl (.mem (.based16 .bp (.d8 0xFE#8)))),
    ([0xC0, 0x88, 0x34, 0x92, 0x85], .rorRm8Ib (.mem (.based16 .bxSi (.full 0x9234#16))) 0x85#8),
    ([0xC1, 0x0E, 0xCD, 0xAB, 0x85], .rorRmIb (.mem (.abs16 0xABCD#16)) 0x85#8),
    ([0xD0, 0x4B, 0x7F], .rorRm8By1 (.mem (.based16 .bpDi (.d8 0x7F#8)))),
    ([0xD1, 0xCA], .rorRmBy1 (.reg .edx)),
    ([0xD2, 0x0F], .rorRm8Cl (.mem (.based16 .bx .none))),
    ([0xD3, 0x4E, 0xFE], .rorRmCl (.mem (.based16 .bp (.d8 0xFE#8))))] = true := by decide +kernel

theorem test_decode_shifts_2 : reads [
    ([0xC0, 0x90, 0x34, 0x92, 0x85], .rclRm8Ib (.mem (.based16 .bxSi (.full 0x9234#16))) 0x85#8),
    ([0xC1, 0x16, 0xCD, 0xAB, 0x85], .rclRmIb (.mem (.abs16 0xABCD#16)) 0x85#8),
    ([0xD0, 0x53, 0x7F], .rclRm8By1 (.mem (.based16 .bpDi (.d8 0x7F#8)))),
    ([0xD1, 0xD2], .rclRmBy1 (.reg .edx)),
    ([0xD2, 0x17], .rclRm8Cl (.mem (.based16 .bx .none))),
    ([0xD3, 0x56, 0xFE], .rclRmCl (.mem (.based16 .bp (.d8 0xFE#8)))),
    ([0xC0, 0x98, 0x34, 0x92, 0x85], .rcrRm8Ib (.mem (.based16 .bxSi (.full 0x9234#16))) 0x85#8),
    ([0xC1, 0x1E, 0xCD, 0xAB, 0x85], .rcrRmIb (.mem (.abs16 0xABCD#16)) 0x85#8),
    ([0xD0, 0x5B, 0x7F], .rcrRm8By1 (.mem (.based16 .bpDi (.d8 0x7F#8)))),
    ([0xD1, 0xDA], .rcrRmBy1 (.reg .edx)),
    ([0xD2, 0x1F], .rcrRm8Cl (.mem (.based16 .bx .none))),
    ([0xD3, 0x5E, 0xFE], .rcrRmCl (.mem (.based16 .bp (.d8 0xFE#8))))] = true := by decide +kernel

theorem test_decode_shifts_3 : reads [
    ([0xC0, 0xA0, 0x34, 0x92, 0x85], .shlRm8Ib (.mem (.based16 .bxSi (.full 0x9234#16))) 0x85#8),
    ([0xC1, 0x26, 0xCD, 0xAB, 0x85], .shlRmIb (.mem (.abs16 0xABCD#16)) 0x85#8),
    ([0xD0, 0x63, 0x7F], .shlRm8By1 (.mem (.based16 .bpDi (.d8 0x7F#8)))),
    ([0xD1, 0xE2], .shlRmBy1 (.reg .edx)),
    ([0xD2, 0x27], .shlRm8Cl (.mem (.based16 .bx .none))),
    ([0xD3, 0x66, 0xFE], .shlRmCl (.mem (.based16 .bp (.d8 0xFE#8)))),
    ([0xC0, 0xA8, 0x34, 0x92, 0x85], .shrRm8Ib (.mem (.based16 .bxSi (.full 0x9234#16))) 0x85#8),
    ([0xC1, 0x2E, 0xCD, 0xAB, 0x85], .shrRmIb (.mem (.abs16 0xABCD#16)) 0x85#8),
    ([0xD0, 0x6B, 0x7F], .shrRm8By1 (.mem (.based16 .bpDi (.d8 0x7F#8)))),
    ([0xD1, 0xEA], .shrRmBy1 (.reg .edx)),
    ([0xD2, 0x2F], .shrRm8Cl (.mem (.based16 .bx .none))),
    ([0xD3, 0x6E, 0xFE], .shrRmCl (.mem (.based16 .bp (.d8 0xFE#8))))] = true := by decide +kernel

theorem test_decode_shifts_4 : reads [
    ([0xC0, 0xB8, 0x34, 0x92, 0x85], .sarRm8Ib (.mem (.based16 .bxSi (.full 0x9234#16))) 0x85#8),
    ([0xC1, 0x3E, 0xCD, 0xAB, 0x85], .sarRmIb (.mem (.abs16 0xABCD#16)) 0x85#8),
    ([0xD0, 0x7B, 0x7F], .sarRm8By1 (.mem (.based16 .bpDi (.d8 0x7F#8)))),
    ([0xD1, 0xFA], .sarRmBy1 (.reg .edx)),
    ([0xD2, 0x3F], .sarRm8Cl (.mem (.based16 .bx .none))),
    ([0xD3, 0x7E, 0xFE], .sarRmCl (.mem (.based16 .bp (.d8 0xFE#8)))),
    ([0x0F, 0xA4, 0x98, 0x34, 0x92, 0x85], .shldRmRIb (.mem (.based16 .bxSi (.full 0x9234#16))) .ebx 0x85#8),
    ([0x0F, 0xA5, 0x1E, 0xCD, 0xAB], .shldRmRCl (.mem (.abs16 0xABCD#16)) .ebx),
    ([0x0F, 0xAC, 0x5B, 0x7F, 0x85], .shrdRmRIb (.mem (.based16 .bpDi (.d8 0x7F#8))) .ebx 0x85#8),
    ([0x0F, 0xAD, 0xDA], .shrdRmRCl (.reg .edx) .ebx)] = true := by decide +kernel

theorem test_decode_bits : reads [
    ([0x0F, 0xA3, 0x1F], .btRmR (.mem (.based16 .bx .none)) .ebx),
    ([0x0F, 0xBA, 0x66, 0xFE, 0x85], .btRmIb (.mem (.based16 .bp (.d8 0xFE#8))) 0x85#8),
    ([0x0F, 0xAB, 0x98, 0x34, 0x92], .btsRmR (.mem (.based16 .bxSi (.full 0x9234#16))) .ebx),
    ([0x0F, 0xBA, 0x2E, 0xCD, 0xAB, 0x85], .btsRmIb (.mem (.abs16 0xABCD#16)) 0x85#8),
    ([0x0F, 0xB3, 0x5B, 0x7F], .btrRmR (.mem (.based16 .bpDi (.d8 0x7F#8))) .ebx),
    ([0x0F, 0xBA, 0xF2, 0x85], .btrRmIb (.reg .edx) 0x85#8),
    ([0x0F, 0xBB, 0x1F], .btcRmR (.mem (.based16 .bx .none)) .ebx),
    ([0x0F, 0xBA, 0x7E, 0xFE, 0x85], .btcRmIb (.mem (.based16 .bp (.d8 0xFE#8))) 0x85#8),
    ([0x0F, 0xBC, 0x98, 0x34, 0x92], .bsfRRm (.mem (.based16 .bxSi (.full 0x9234#16))) .ebx),
    ([0x0F, 0xBD, 0x1E, 0xCD, 0xAB], .bsrRRm (.mem (.abs16 0xABCD#16)) .ebx),
    ([0x0F, 0xCD], .bswapR32 .ebp)] = true := by decide +kernel

theorem test_decode_strings : reads [
    ([0xA4], .movsb),
    ([0xA5], .movsw),
    ([0xA6], .cmpsb),
    ([0xA7], .cmpsw),
    ([0xAA], .stosb),
    ([0xAB], .stosw),
    ([0xAC], .lodsb),
    ([0xAD], .lodsw),
    ([0xAE], .scasb),
    ([0xAF], .scasw)] = true := by decide +kernel

theorem test_decode_compare_exchange : reads [
    ([0x0F, 0xB0, 0x1E, 0xCD, 0xAB], .cmpxchgRm8R8 (.mem (.abs16 0xABCD#16)) .ebx),
    ([0x0F, 0xB1, 0x5B, 0x7F], .cmpxchgRmR (.mem (.based16 .bpDi (.d8 0x7F#8))) .ebx),
    ([0x0F, 0xC0, 0xDA], .xaddRm8R8 (.reg .edx) .ebx),
    ([0x0F, 0xC1, 0x1F], .xaddRmR (.mem (.based16 .bx .none)) .ebx),
    ([0x0F, 0xC7, 0x0F], .cmpxchg8bM64 (.based16 .bx .none))] = true := by decide +kernel

theorem test_decode_data_movement_1 : reads [
    ([0x88, 0x98, 0x34, 0x92], .movRm8R8 (.mem (.based16 .bxSi (.full 0x9234#16))) .ebx),
    ([0x89, 0x1E, 0xCD, 0xAB], .movRmR (.mem (.abs16 0xABCD#16)) .ebx),
    ([0x8A, 0x5B, 0x7F], .movR8Rm8 (.mem (.based16 .bpDi (.d8 0x7F#8))) .ebx),
    ([0x8B, 0xDA], .movRRm (.reg .edx) .ebx),
    ([0xC6, 0x07, 0x85], .movRm8Ib (.mem (.based16 .bx .none)) 0x85#8),
    ([0xC7, 0x46, 0xFE, 0x21, 0x83], .movRmIz (.mem (.based16 .bp (.d8 0xFE#8))) 0x8321#32),
    ([0xB5, 0x85], .movR8Ib .ebp 0x85#8),
    ([0xBD, 0x21, 0x83], .movRIz .ebp 0x8321#32),
    ([0xA0, 0x21, 0x83], .movAlMoffs 0x8321#32),
    ([0xA1, 0x21, 0x83], .movEaxMoffs 0x8321#32),
    ([0xA2, 0x21, 0x83], .movMoffsAl 0x8321#32),
    ([0xA3, 0x21, 0x83], .movMoffsEax 0x8321#32)] = true := by decide +kernel

theorem test_decode_data_movement_2 : reads [
    ([0x86, 0x98, 0x34, 0x92], .xchgRm8R8 (.mem (.based16 .bxSi (.full 0x9234#16))) .ebx),
    ([0x87, 0x1E, 0xCD, 0xAB], .xchgRmR (.mem (.abs16 0xABCD#16)) .ebx),
    ([0x95], .xchgEaxR .ebp),
    ([0x90], .nop),
    ([0x8D, 0x98, 0x34, 0x92], .leaRM (.based16 .bxSi (.full 0x9234#16)) .ebx),
    ([0x0F, 0xB6, 0x5E, 0xFE], .movzxRRm8 (.mem (.based16 .bp (.d8 0xFE#8))) .ebx),
    ([0x0F, 0xB7, 0x98, 0x34, 0x92], .movzxRRm16 (.mem (.based16 .bxSi (.full 0x9234#16))) .ebx),
    ([0x0F, 0xBE, 0x1E, 0xCD, 0xAB], .movsxRRm8 (.mem (.abs16 0xABCD#16)) .ebx),
    ([0x0F, 0xBF, 0x5B, 0x7F], .movsxRRm16 (.mem (.based16 .bpDi (.d8 0x7F#8))) .ebx),
    ([0x98], .cbw),
    ([0x99], .cwd),
    ([0x55], .pushR .ebp)] = true := by decide +kernel

theorem test_decode_data_movement_3 : reads [
    ([0x5D], .popR .ebp),
    ([0x68, 0x21, 0x83], .pushIz 0x8321#32),
    ([0x6A, 0x85], .pushIbs 0x85#8),
    ([0xFF, 0xF2], .pushRm (.reg .edx)),
    ([0x8F, 0x07], .popRm (.mem (.based16 .bx .none))),
    ([0x60], .pusha),
    ([0x61], .popa),
    ([0xD7], .xlat),
    ([0xC9], .leave)] = true := by decide +kernel

theorem test_decode_control_1 : reads [
    ([0x75, 0x85], .jccRel8 .ne 0x85#8),
    ([0x0F, 0x85, 0x21, 0x83], .jccRelz .ne 0x8321#32),
    ([0xEB, 0x85], .jmpRel8 0x85#8),
    ([0xE9, 0x21, 0x83], .jmpRelz 0x8321#32),
    ([0xE2, 0x85], .loopRel8 0x85#8),
    ([0xE1, 0x85], .loopeRel8 0x85#8),
    ([0xE0, 0x85], .loopneRel8 0x85#8),
    ([0xE3, 0x85], .jcxzRel8 0x85#8),
    ([0xFF, 0x66, 0xFE], .jmpRm (.mem (.based16 .bp (.d8 0xFE#8)))),
    ([0xE8, 0x21, 0x83], .callRelz 0x8321#32),
    ([0xFF, 0x16, 0xCD, 0xAB], .callRm (.mem (.abs16 0xABCD#16))),
    ([0xC3], .ret)] = true := by decide +kernel

theorem test_decode_control_2 : reads [
    ([0xC2, 0x21, 0x43], .retIw 0x4321#16),
    ([0xEA, 0x21, 0x83, 0x65, 0x87], .jmpPtr 0x8321#32 0x8765#16),
    ([0xFF, 0x2E, 0xCD, 0xAB], .jmpMemFar (.abs16 0xABCD#16)),
    ([0x9A, 0x21, 0x83, 0x65, 0x87], .callPtr 0x8321#32 0x8765#16),
    ([0xFF, 0x1F], .callMemFar (.based16 .bx .none)),
    ([0xCB], .retf),
    ([0xCA, 0x21, 0x43], .retfIw 0x4321#16),
    ([0xCF], .iret),
    ([0xCD, 0x85], .intIb 0x85#8),
    ([0xCC], .int3),
    ([0xCE], .into)] = true := by decide +kernel

theorem test_decode_flags : reads [
    ([0x9C], .pushf),
    ([0x9D], .popf),
    ([0x9E], .sahf),
    ([0x9F], .lahf),
    ([0xF8], .clc),
    ([0xF9], .stc),
    ([0xF5], .cmc),
    ([0xFC], .cld),
    ([0xFD], .std),
    ([0xFA], .cli),
    ([0xFB], .sti),
    ([0x0F, 0x95, 0x1E, 0xCD, 0xAB], .setccRm8 .ne (.mem (.abs16 0xABCD#16)))] = true := by decide +kernel

theorem test_decode_segments_1 : reads [
    ([0x8E, 0x5B, 0x7F], .movSregRm16 (.mem (.based16 .bpDi (.d8 0x7F#8))) .ds),
    ([0x8C, 0xDA], .movRm16Sreg (.reg .edx) .ds),
    ([0x06], .pushEs),
    ([0x0E], .pushCs),
    ([0x16], .pushSs),
    ([0x1E], .pushDs),
    ([0x0F, 0xA0], .pushFs),
    ([0x0F, 0xA8], .pushGs),
    ([0x07], .popEs),
    ([0x17], .popSs),
    ([0x1F], .popDs),
    ([0x0F, 0xA1], .popFs)] = true := by decide +kernel

theorem test_decode_segments_2 : reads [
    ([0x0F, 0xA9], .popGs),
    ([0xC5, 0x98, 0x34, 0x92], .ldsRMemFar (.based16 .bxSi (.full 0x9234#16)) .ebx),
    ([0xC4, 0x1E, 0xCD, 0xAB], .lesRMemFar (.abs16 0xABCD#16) .ebx),
    ([0x0F, 0xB2, 0x5B, 0x7F], .lssRMemFar (.based16 .bpDi (.d8 0x7F#8)) .ebx),
    ([0x0F, 0xB4, 0x1F], .lfsRMemFar (.based16 .bx .none) .ebx),
    ([0x0F, 0xB5, 0x5E, 0xFE], .lgsRMemFar (.based16 .bp (.d8 0xFE#8)) .ebx)] = true := by decide +kernel

theorem test_decode_system_1 : reads [
    ([0x0F, 0x22, 0x46], .movCr0R32 .esi),
    ([0x0F, 0x22, 0x56], .movCr2R32 .esi),
    ([0x0F, 0x22, 0x5E], .movCr3R32 .esi),
    ([0x0F, 0x20, 0x46], .movR32Cr0 .esi),
    ([0x0F, 0x20, 0x56], .movR32Cr2 .esi),
    ([0x0F, 0x20, 0x5E], .movR32Cr3 .esi),
    ([0x0F, 0x01, 0x63, 0x7F], .smswRm16 (.mem (.based16 .bpDi (.d8 0x7F#8)))),
    ([0x0F, 0x01, 0xF2], .lmswRm16 (.reg .edx)),
    ([0x0F, 0x01, 0x3F], .invlpgM (.based16 .bx .none)),
    ([0x0F, 0x06], .clts),
    ([0x0F, 0x08], .invd),
    ([0x0F, 0x09], .wbinvd)] = true := by decide +kernel

theorem test_decode_system_2 : reads [
    ([0xF4], .hlt),
    ([0x0F, 0x0B], .ud2)] = true := by decide +kernel

/-- 32-bit forms (R213, R214): [EAX], [EBP-2], [disp32], [ESP], [EDX*8+disp32], [EBP+ECX*2+1]. -/
theorem test_decode_forms_32 :
    [([0x8B, 0x00], Instr.movRRm (.mem (.based32 .eax .none)) .eax),
      ([0x8B, 0x4D, 0xFE], .movRRm (.mem (.based32 .ebp (.d8 0xFE#8))) .ecx),
      ([0x8B, 0x15, 0x78, 0x56, 0x34, 0x12], .movRRm (.mem (.abs32 0x12345678#32)) .edx),
      ([0x8B, 0x1C, 0x24], .movRRm (.mem (.sib 0#2 none .esp .none)) .ebx),
      ([0x8B, 0x04, 0xD5, 0x78, 0x56, 0x34, 0x12], .movRRm (.mem (.sibAbs 3#2 (some .edx) 0x12345678#32)) .eax),
      ([0x8B, 0x44, 0x4D, 0x01], .movRRm (.mem (.sib 1#2 (some .ecx) .ebp (.d8 1#8))) .eax)].all (fun e =>
      decode .g486 true e.1 == (.instr { seg := none, osz := .w32, asz := .w32, lock := false, rep := .none } e.2, [])) = true := by
  decide +kernel

/-- The last segment and repeat prefix counts; 66H and 67H flip the sizes (R206, R207). -/
theorem test_decode_prefixes : decode .g486 true [0x2E, 0x65, 0xF2, 0xF3, 0x66, 0x67, 0xA7] =
    (.instr { seg := some .gs, osz := .w16, asz := .w16, lock := false, rep := .repe } .cmpsw, []) := by decide +kernel

/-- Encodings of the #UD list (R230) and of the refused list (R232), and the 16th byte (R204). -/
theorem test_decode_no_instruction :
    (decode .g486 false [0x8D, 0xC0]).1 = .undefined ∧ (decode .g486 false [0x8E, 0xC8]).1 = .undefined ∧
      (decode .g486 false [0x0F, 0xFF]).1 ≠ .instr { seg := none, osz := .w16, asz := .w16, lock := false, rep := .none } .ud2 ∧
      (∃ st, (decode .g486 false [0x27]).1 = .refused st) ∧ (∃ st, (decode .g486 false [0xD0, 0xF0]).1 = .refused st) ∧
      (decode .g486 false (List.replicate 15 0x2E#8 ++ [0x90#8])).1 = .tooLong := by
  refine ⟨?_, ?_, ?_, ⟨_, rfl⟩, ⟨_, rfl⟩, ?_⟩ <;> decide +kernel

/-! The worked examples of the rules of spec/40 to spec/49: one step from real mode, flat segments, eip = 100H, SP = 200H. -/

/-- The state an example begins from: its code at 100H, its bytes of memory, and its registers. -/
def start (code : List Byte) (data : List (Word × List Byte)) (f : State → State) : State :=
  f { base with
    regs := { eax := 0, ecx := 0, edx := 0, ebx := 0, esp := 0x200#32, ebp := 0, esi := 0, edi := 0 }
    eip := 0x100#32
    mem := memWrite (data.foldl (fun m d => memWrite m d.1 d.2) []) 0x100#32 code }

/-- One step gives a next state that passes a check. -/
def gives (s : State) (check : State → Bool) : Bool :=
  match step s with
  | .next t => check t
  | .fault _ | .refused _ => false

/-- Set a 16-bit register. -/
def r16 (r : Reg) (v : BitVec 16) (s : State) : State := s.setGpr .b16 r v

/-- Set an 8-bit register. -/
def r8 (r : Reg) (v : Byte) (s : State) : State := s.setGpr .b8 r v

/-- Set a flag. -/
def fl (f : Flag) (s : State) : State := s.setFlag f true

/-- Flags have values. -/
def flagsAre (l : List (Flag × Bool)) (t : State) : Bool := l.all fun e => t.flag e.1 == e.2

/-- Two bytes of memory. -/
def w16 (t : State) (a : Word) : BitVec 16 := ofBytes 16 (memRead t.mem a 2)

/-- The flags of the examples whose instruction draws one (R353, R368, R423, R460): the flags the rules fix, whatever is drawn. -/
theorem test_logic_flags : ∀ af : Bool,
    aluStatus .or 1#8 0x80#8 false af = { cf := false, pf := true, af := af, zf := false, sf := true, of := false } ∧
      aluStatus .and 0xF0#8 0x0F#8 false af = { cf := false, pf := true, af := af, zf := true, sf := false, of := false } := by decide

theorem test_shift_flags : (shiftOut .shl 0x1F#8 false 4).cf = some true ∧ (shiftOut .shr 0x81#8 false 1).cf = some true ∧
    (shiftOut .shr 0x81#8 false 1).of1 = true ∧ (shiftOut .sar 0x81#8 false 1).of1 = false := by decide

theorem test_add : gives (start [0x04, 0x01] [] (r8 .eax 0xFF#8)) (fun t => t.gpr .b8 .eax == 0#8 && t.eip == 0x102#32 &&
    flagsAre [(.cf, true), (.zf, true), (.pf, true), (.af, true), (.sf, false), (.of, false)] t) = true := by decide +kernel

theorem test_or : gives (start [0x0C, 0x80] [] (r8 .eax 1#8)) (fun t => t.gpr .b8 .eax == 0x81#8) = true := by decide +kernel

theorem test_adc : gives (start [0x14, 0x00] [] (fl .cf ∘ r8 .eax 0xFF#8)) (fun t => t.gpr .b8 .eax == 0#8 &&
    flagsAre [(.cf, true), (.zf, true)] t) = true := by decide +kernel

theorem test_sbb : gives (start [0x1C, 0x00] [] (fl .cf)) (fun t => t.gpr .b8 .eax == 0xFF#8 &&
    flagsAre [(.cf, true), (.sf, true), (.af, true)] t) = true := by decide +kernel

theorem test_and : gives (start [0x24, 0x0F] [] (r8 .eax 0xF0#8)) (fun t => t.gpr .b8 .eax == 0#8) = true := by decide +kernel

theorem test_sub : gives (start [0x2C, 0x01] [] id) (fun t => t.gpr .b8 .eax == 0xFF#8 &&
    flagsAre [(.cf, true), (.sf, true), (.af, true), (.of, false)] t) = true := by decide +kernel

theorem test_xor : gives (start [0x66, 0x31, 0xC0] [] (fun s => s.setGpr .b32 .eax 0x12345678#32)) (fun t => t.gpr32 .eax == 0#32) = true
    := by decide +kernel

theorem test_cmp : gives (start [0x3C, 0x05] [] (r8 .eax 3#8)) (fun t => t.gpr .b8 .eax == 3#8 &&
    flagsAre [(.cf, true), (.zf, false), (.sf, true), (.of, false)] t) = true := by decide +kernel

theorem test_test : gives (start [0xA8, 0x01] [] (r8 .eax 2#8)) (fun t => t.gpr .b8 .eax == 2#8) = true := by decide +kernel

theorem test_inc_keeps_cf : gives (start [0x40] [] (r16 .eax 0xFFFF#16)) (fun t => t.gpr32 .eax == 0#32 &&
    flagsAre [(.cf, false), (.zf, true), (.af, true)] t) = true := by decide +kernel

theorem test_dec : gives (start [0x49] [] (fl .cf ∘ r16 .ecx 1#16)) (fun t => t.gpr .b16 .ecx == 0#16 &&
    flagsAre [(.cf, true), (.zf, true)] t) = true := by decide +kernel

theorem test_not : gives (start [0xF6, 0xD0] [] (r8 .eax 0x0F#8)) (fun t => t.gpr .b8 .eax == 0xF0#8) = true := by decide +kernel

theorem test_neg : gives (start [0xF6, 0xD8] [] (r8 .eax 1#8)) (fun t => t.gpr .b8 .eax == 0xFF#8 &&
    flagsAre [(.cf, true), (.sf, true), (.af, true)] t) = true := by decide +kernel

theorem test_neg_most_negative : gives (start [0xF6, 0xD8] [] (r8 .eax 0x80#8)) (fun t => t.gpr .b8 .eax == 0x80#8 &&
    flagsAre [(.cf, true), (.of, true)] t) = true := by decide +kernel

theorem test_mul : gives (start [0xF6, 0xE3] [] (r8 .ebx 0x10#8 ∘ r8 .eax 0x10#8)) (fun t => t.gpr .b16 .eax == 0x100#16) = true := by
  decide +kernel

theorem test_imul_one : gives (start [0xF6, 0xEB] [] (r8 .ebx 2#8 ∘ r8 .eax 0xFF#8)) (fun t => t.gpr .b16 .eax == 0xFFFE#16) = true := by
  decide +kernel

theorem test_imul_two : gives (start [0x0F, 0xAF, 0xC3] [] (r16 .ebx 5#16 ∘ r16 .eax 3#16)) (fun t => t.gpr .b16 .eax == 15#16) = true :=
    by decide +kernel

theorem test_imul_three : gives (start [0x6B, 0xC3, 0xFF] [] (r16 .ebx 2#16)) (fun t => t.gpr .b16 .eax == 0xFFFE#16) = true := by
  decide +kernel

theorem test_div : gives (start [0xF6, 0xF3] [] (r8 .ebx 2#8 ∘ r16 .eax 7#16)) (fun t => t.gpr .b16 .eax == 0x103#16) = true := by
  decide +kernel

theorem test_idiv : gives (start [0xF6, 0xFB] [] (r8 .ebx 2#8 ∘ r16 .eax 0xFFF9#16)) (fun t => t.gpr .b16 .eax == 0xFFFD#16) = true := by
  decide +kernel

theorem test_rol : gives (start [0xD0, 0xC0] [] (r8 .eax 0x81#8)) (fun t => t.gpr .b8 .eax == 3#8 && flagsAre [(.cf, true), (.of, true)] t) =
    true := by decide +kernel

theorem test_ror : gives (start [0xD0, 0xC8] [] (r8 .eax 1#8)) (fun t => t.gpr .b8 .eax == 0x80#8 && flagsAre [(.cf, true), (.of, true)] t) =
    true := by decide +kernel

theorem test_rcl : gives (start [0xD0, 0xD0] [] (r8 .eax 0x80#8)) (fun t => t.gpr .b8 .eax == 0#8 && flagsAre [(.cf, true), (.of, true)] t) =
    true := by decide +kernel

theorem test_rcr : gives (start [0xD0, 0xD8] [] (fl .cf ∘ r8 .eax 1#8)) (fun t => t.gpr .b8 .eax == 0x80#8 &&
    flagsAre [(.cf, true), (.of, true)] t) = true := by decide +kernel

theorem test_shl : gives (start [0xC0, 0xE0, 0x04] [] (r8 .eax 0x1F#8)) (fun t => t.gpr .b8 .eax == 0xF0#8) = true := by decide +kernel

theorem test_shr : gives (start [0xD0, 0xE8] [] (r8 .eax 0x81#8)) (fun t => t.gpr .b8 .eax == 0x40#8) = true := by decide +kernel

theorem test_sar : gives (start [0xD0, 0xF8] [] (r8 .eax 0x81#8)) (fun t => t.gpr .b8 .eax == 0xC0#8) = true := by decide +kernel

theorem test_shld : gives (start [0x0F, 0xA4, 0xD8, 0x04] [] (r16 .ebx 0xABCD#16 ∘ r16 .eax 0x1234#16)) (fun t => t.gpr .b16 .eax ==
    0x234A#16) = true := by decide +kernel

theorem test_shrd : gives (start [0x0F, 0xAC, 0xD8, 0x04] [] (r16 .ebx 0xABCD#16 ∘ r16 .eax 0x1234#16)) (fun t => t.gpr .b16 .eax ==
    0xD123#16) = true := by decide +kernel

theorem test_bt : gives (start [0x0F, 0xA3, 0x07] [(0x300#32, [0x08, 0x00])] (r16 .eax 3#16 ∘ r16 .ebx 0x300#16)) (fun t => w16 t 0x300#32
    == 8#16) = true := by decide +kernel

theorem test_bts : gives (start [0x0F, 0xAB, 0x07] [(0x300#32, [0x08, 0x00])] (r16 .eax 4#16 ∘ r16 .ebx 0x300#16)) (fun t => w16 t 0x300#32
    == 0x18#16) = true := by decide +kernel

/-- A negative register offset moves the operand down (R461): bit -1 of the word at 302H is bit 15 of the word at 300H. -/
theorem test_bts_negative_offset : gives (start [0x0F, 0xAB, 0x07] [(0x300#32, [0x08, 0x00])] (r16 .eax 0xFFFF#16 ∘ r16 .ebx 0x302#16))
    (fun t => w16 t 0x300#32 == 0x8008#16) = true := by decide +kernel

theorem test_btr : gives (start [0x0F, 0xB3, 0x07] [(0x300#32, [0x08, 0x00])] (r16 .eax 3#16 ∘ r16 .ebx 0x300#16)) (fun t => w16 t 0x300#32
    == 0#16) = true := by decide +kernel

theorem test_btc : gives (start [0x0F, 0xBB, 0x07] [(0x300#32, [0x08, 0x00])] (r16 .ebx 0x300#16)) (fun t => w16 t 0x300#32 == 9#16) = true
    := by decide +kernel

theorem test_bsf : gives (start [0x0F, 0xBC, 0xC3] [] (r16 .ebx 0x18#16)) (fun t => t.gpr .b16 .eax == 3#16) = true := by decide +kernel

theorem test_bsr : gives (start [0x0F, 0xBD, 0xC3] [] (r16 .ebx 0x18#16)) (fun t => t.gpr .b16 .eax == 4#16) = true := by decide +kernel

theorem test_bswap : gives (start [0x66, 0x0F, 0xC8] [] (fun s => s.setGpr .b32 .eax 0x12345678#32)) (fun t =>
    t.gpr32 .eax == 0x78563412#32) = true := by decide +kernel

theorem test_movs : gives (start [0xA4] [(0x10#32, [0x41])] (r16 .esi 0x10#16 ∘ r16 .edi 0x20#16)) (fun t =>
    memByte t.mem 0x20 == 0x41#8 && t.gpr .b16 .esi == 0x11#16 && t.gpr .b16 .edi == 0x21#16) = true := by decide +kernel

theorem test_cmps : gives (start [0xA6] [(0x10#32, [5]), (0x20#32, [7])] (r16 .esi 0x10#16 ∘ r16 .edi 0x20#16)) (fun t =>
    t.gpr .b16 .esi == 0x11#16 && t.gpr .b16 .edi == 0x21#16 &&
      flagsAre [(.cf, true), (.zf, false), (.sf, true), (.af, true), (.of, false), (.pf, false)] t) = true := by decide +kernel

/-- The first step of REP STOSW with CX = 2 returns to the instruction (R490). -/
theorem test_rep_stos_first : gives (start [0xF3, 0xAB] [] (r16 .ecx 2#16 ∘ r16 .eax 0xBEEF#16 ∘ r16 .edi 0x400#16)) (fun t =>
    w16 t 0x400#32 == 0xBEEF#16 && t.gpr .b16 .edi == 0x402#16 && t.gpr .b16 .ecx == 1#16 && t.eip == 0x100#32) = true := by decide +kernel

theorem test_rep_stos_last : gives (start [0xF3, 0xAB] [] (r16 .ecx 1#16 ∘ r16 .eax 0xBEEF#16 ∘ r16 .edi 0x402#16)) (fun t =>
    w16 t 0x402#32 == 0xBEEF#16 && t.gpr .b16 .ecx == 0#16 && t.eip == 0x102#32) = true := by decide +kernel

theorem test_lods_down : gives (start [0xAC] [(0x10#32, [0x99])] (fl .df ∘ r16 .esi 0x10#16)) (fun t =>
    t.gpr .b8 .eax == 0x99#8 && t.gpr .b16 .esi == 0x0F#16) = true := by decide +kernel

/-- The last step of REPNE SCASB finds the byte and ends (R494). -/
theorem test_repne_scas_found : gives (start [0xF2, 0xAE] [(0x22#32, [0])] (r16 .ecx 3#16 ∘ r16 .edi 0x22#16)) (fun t =>
    t.gpr .b16 .ecx == 2#16 && t.gpr .b16 .edi == 0x23#16 && t.eip == 0x102#32 && flagsAre [(.zf, true)] t) = true := by decide +kernel

theorem test_cmpxchg_hit : gives (start [0x0F, 0xB1, 0x0F] [(0x300#32, [0x34, 0x12])] (r16 .ebx 0x300#16 ∘ r16 .ecx 0x5678#16 ∘
    r16 .eax 0x1234#16)) (fun t => w16 t 0x300#32 == 0x5678#16 && flagsAre [(.zf, true)] t) = true := by decide +kernel

theorem test_cmpxchg_miss : gives (start [0x0F, 0xB1, 0x0F] [(0x300#32, [0x22, 0x22])] (r16 .ebx 0x300#16 ∘ r16 .ecx 0x5678#16 ∘
    r16 .eax 0x1111#16)) (fun t => w16 t 0x300#32 == 0x2222#16 && t.gpr .b16 .eax == 0x2222#16 &&
      flagsAre [(.zf, false), (.cf, true)] t) = true := by decide +kernel

theorem test_xadd : gives (start [0x0F, 0xC1, 0xD8] [] (r16 .ebx 2#16 ∘ r16 .eax 1#16)) (fun t => t.gpr .b16 .eax == 3#16 &&
    t.gpr .b16 .ebx == 1#16 && flagsAre [(.cf, false), (.zf, false)] t) = true := by decide +kernel

theorem test_cmpxchg8b_hit : gives (start [0x0F, 0xC7, 0x0F] [(0x300#32, [5, 0, 0, 0, 0, 0, 0, 0])] (fun s =>
    { (((s.setGpr .b32 .ebx 0x300#32).setGpr .b32 .ecx 0x11111111#32).setGpr .b32 .eax 5#32) with cfg := { s.cfg with gen := .g586 } }))
    (fun t => memRead t.mem 0x300#32 8 == [0x00, 0x03, 0x00, 0x00, 0x11, 0x11, 0x11, 0x11] && flagsAre [(.zf, true)] t) = true := by
  decide +kernel

theorem test_mov_load : gives (start [0x8B, 0x07] [(0x300#32, [0x34, 0x12])] (r16 .ebx 0x300#16)) (fun t => t.gpr .b16 .eax == 0x1234#16) =
    true := by decide +kernel

theorem test_mov_store : gives (start [0xC6, 0x06, 0x00, 0x02, 0x7F] [] id) (fun t => memByte t.mem 0x200 == 0x7F#8 && t.eip == 0x105#32) =
    true := by decide +kernel

theorem test_mov_word_keeps_high_half : gives (start [0xB8, 0x34, 0x12] [] (fun s => s.setGpr .b32 .eax 0xAAAA5555#32)) (fun t =>
    t.gpr32 .eax == 0xAAAA1234#32) = true := by decide +kernel

theorem test_xchg : gives (start [0x93] [] (r16 .eax 1#16 ∘ r16 .ebx 2#16)) (fun t => t.gpr .b16 .eax == 2#16 && t.gpr .b16 .ebx == 1#16) =
    true := by decide +kernel

theorem test_nop : gives (start [0x90] [] id) (fun t => t.eip == 0x101#32) = true := by decide +kernel

theorem test_lea : gives (start [0x8D, 0x40, 0x05] [] (r16 .ebx 0x10#16 ∘ r16 .esi 0x20#16)) (fun t => t.gpr .b16 .eax == 0x35#16) = true := by
  decide +kernel

theorem test_movzx : gives (start [0x66, 0x0F, 0xB6, 0xC3] [] (r8 .ebx 0x80#8)) (fun t => t.gpr32 .eax == 0x80#32) = true := by decide +kernel

theorem test_movsx : gives (start [0x66, 0x0F, 0xBE, 0xC3] [] (r8 .ebx 0x80#8)) (fun t => t.gpr32 .eax == 0xFFFFFF80#32) = true := by
  decide +kernel

theorem test_cbw : gives (start [0x98] [] (r8 .eax 0xFE#8)) (fun t => t.gpr .b16 .eax == 0xFFFE#16) = true := by decide +kernel

theorem test_cwd : gives (start [0x99] [] (r16 .eax 0x8000#16)) (fun t => t.gpr .b16 .edx == 0xFFFF#16) = true := by decide +kernel

theorem test_push : gives (start [0x50] [] (r16 .eax 0xBEEF#16)) (fun t => w16 t 0x1FE#32 == 0xBEEF#16 && t.gpr .b16 .esp == 0x1FE#16) = true := by
  decide +kernel

/-- PUSH SP pushes the old value (R316). -/
theorem test_push_sp : gives (start [0x54] [] id) (fun t => w16 t 0x1FE#32 == 0x200#16 && t.gpr .b16 .esp == 0x1FE#16) = true := by
  decide +kernel

theorem test_pop : gives (start [0x58] [(0x200#32, [0xEF, 0xBE])] id) (fun t => t.gpr .b16 .eax == 0xBEEF#16 && t.gpr .b16 .esp == 0x202#16) =
    true := by decide +kernel

theorem test_pusha : gives (start [0x60] [] (r16 .edi 0xD1D1#16)) (fun t => w16 t 0x1F0#32 == 0xD1D1#16 && t.gpr .b16 .esp == 0x1F0#16) =
    true := by decide +kernel

theorem test_popa_skips_sp : gives (start [0x61] [(0x200#32, [1, 0, 2, 0, 3, 0, 4, 0, 5, 0, 6, 0, 7, 0, 8, 0])] id) (fun t =>
    t.gpr .b16 .edi == 1#16 && t.gpr .b16 .esp == 0x210#16 && t.gpr .b16 .ebx == 5#16 && t.gpr .b16 .eax == 8#16) = true := by decide +kernel

theorem test_xlat : gives (start [0xD7] [(0x303#32, [0x77])] (r16 .ebx 0x300#16 ∘ r8 .eax 3#8)) (fun t => t.gpr .b8 .eax == 0x77#8) = true := by
  decide +kernel

theorem test_leave : gives (start [0xC9] [(0xF0#32, [0x34, 0x12])] (r16 .ebp 0xF0#16)) (fun t => t.gpr .b16 .esp == 0xF2#16 &&
    t.gpr .b16 .ebp == 0x1234#16) = true := by decide +kernel

theorem test_jcc_taken : gives (start [0x74, 0x05] [] (fl .zf)) (fun t => t.eip == 0x107#32) = true := by decide +kernel

theorem test_jcc_not_taken : gives (start [0x74, 0x05] [] id) (fun t => t.eip == 0x102#32) = true := by decide +kernel

theorem test_jmp : gives (start [0xEB, 0x02] [] id) (fun t => t.eip == 0x104#32) = true := by decide +kernel

theorem test_loop : gives (start [0xE2, 0xFE] [] (r16 .ecx 3#16)) (fun t => t.gpr .b16 .ecx == 2#16 && t.eip == 0x100#32) = true := by decide +kernel

theorem test_loope : gives (start [0xE1, 0xFE] [] (r16 .ecx 2#16)) (fun t => t.gpr .b16 .ecx == 1#16 && t.eip == 0x102#32) = true := by
  decide +kernel

theorem test_loopne : gives (start [0xE0, 0xFE] [] (r16 .ecx 2#16)) (fun t => t.gpr .b16 .ecx == 1#16 && t.eip == 0x100#32) = true := by
  decide +kernel

theorem test_jcxz : gives (start [0xE3, 0x05] [] id) (fun t => t.eip == 0x107#32) = true := by decide +kernel

theorem test_jmp_register : gives (start [0xFF, 0xE0] [] (r16 .eax 0x1234#16)) (fun t => t.eip == 0x1234#32) = true := by decide +kernel

theorem test_call : gives (start [0xE8, 0x00, 0x01] [] id) (fun t => w16 t 0x1FE#32 == 0x103#16 && t.gpr .b16 .esp == 0x1FE#16 &&
    t.eip == 0x203#32) = true := by decide +kernel

theorem test_ret_immediate : gives (start [0xC2, 0x04, 0x00] [(0x200#32, [0x03, 0x01])] id) (fun t => t.eip == 0x103#32 &&
    t.gpr .b16 .esp == 0x206#16) = true := by decide +kernel

theorem test_far_jmp : gives (start [0xEA, 0x00, 0x01, 0x00, 0x20] [] id) (fun t => t.segs.cs == SegCache.real 0x2000#16 0x20000#32 &&
    t.eip == 0x100#32) = true := by decide +kernel

theorem test_far_call : gives (start [0x9A, 0x00, 0x01, 0x00, 0x20] [] id) (fun t => w16 t 0x1FE#32 == 0#16 && w16 t 0x1FC#32 == 0x105#16 &&
    t.gpr .b16 .esp == 0x1FC#16 && (t.seg .cs).sel == 0x2000#16 && t.eip == 0x100#32) = true := by decide +kernel

theorem test_retf : gives (start [0xCB] [(0x200#32, [0x05, 0x01, 0x00, 0x10])] id) (fun t => t.eip == 0x105#32 && (t.seg .cs).sel == 0x1000#16 &&
    t.gpr .b16 .esp == 0x204#16) = true := by decide +kernel

theorem test_iret : gives (start [0xCF] [(0x200#32, [0x02, 0x01, 0x00, 0x10, 0x02, 0x02])] id) (fun t => t.eip == 0x102#32 &&
    (t.seg .cs).sel == 0x1000#16 && t.eflags == 0x202#32 && t.gpr .b16 .esp == 0x206#16) = true := by decide +kernel

theorem test_int : gives (start [0xCD, 0x21] [(0x84#32, [0x00, 0x05, 0x00, 0xF0])] (fl .intr)) (fun t => w16 t 0x1FE#32 == 0x202#16 &&
    w16 t 0x1FC#32 == 0#16 && w16 t 0x1FA#32 == 0x102#16 && t.gpr .b16 .esp == 0x1FA#16 && (t.seg .cs).sel == 0xF000#16 &&
      t.eip == 0x500#32 && flagsAre [(.intr, false)] t) = true := by decide +kernel

theorem test_into_nothing : gives (start [0xCE] [] id) (fun t => t.eip == 0x101#32) = true := by decide +kernel

theorem test_pushf : gives (start [0x9C] [] (fun s => { s with eflags := 0x246#32 })) (fun t => w16 t 0x1FE#32 == 0x246#16) = true := by
  decide +kernel

theorem test_popf : gives (start [0x9D] [(0x200#32, [0xD7, 0x0E])] id) (fun t => t.eflags == 0xED7#32 && t.gpr .b16 .esp == 0x202#16) = true := by
  decide +kernel

theorem test_sahf : gives (start [0x9E] [] (r8 .esp 0xFF#8)) (fun t => t.eflags == 0xD7#32) = true := by decide +kernel

theorem test_lahf : gives (start [0x9F] [] (fun s => { s with eflags := 0x202#32 })) (fun t => t.gpr .b16 .eax == 0x200#16) = true := by
  decide +kernel

theorem test_cmc : gives (start [0xF5] [] (fl .cf)) (fun t => t.eflags == 2#32) = true := by decide +kernel

theorem test_std : gives (start [0xFD] [] id) (fun t => t.eflags == 0x402#32) = true := by decide +kernel

theorem test_cli : gives (start [0xFA] [] (fl .intr)) (fun t => t.eflags == 2#32) = true := by decide +kernel

theorem test_sti_shadow : gives (start [0xFB] [] id) (fun t => t.eflags == 0x202#32 && t.shadow == .sti) = true := by decide +kernel

theorem test_setcc : gives (start [0x0F, 0x94, 0xC0] [] (fl .zf)) (fun t => t.gpr .b8 .eax == 1#8) = true := by decide +kernel

theorem test_mov_to_seg : gives (start [0x8E, 0xD8] [] (r16 .eax 0x1234#16)) (fun t => t.segs.ds == SegCache.real 0x1234#16 0x12340#32) = true := by
  decide +kernel

theorem test_mov_from_seg : gives (start [0x8C, 0xD8] [] (fun s => s.setSeg .ds (SegCache.real 0x1000#16 0x10000#32))) (fun t =>
    t.gpr .b16 .eax == 0x1000#16) = true := by decide +kernel

theorem test_push_seg : gives (start [0x1E] [] (fun s => s.setSeg .ds (SegCache.real 0x2000#16 0x20000#32))) (fun t =>
    w16 t 0x1FE#32 == 0x2000#16 && t.gpr .b16 .esp == 0x1FE#16) = true := by decide +kernel

theorem test_pop_seg : gives (start [0x1F] [(0x200#32, [0x00, 0x30])] id) (fun t => t.segs.ds == SegCache.real 0x3000#16 0x30000#32 &&
    t.gpr .b16 .esp == 0x202#16) = true := by decide +kernel

theorem test_lds : gives (start [0xC5, 0x36, 0x00, 0x03] [(0x300#32, [0x00, 0x01, 0x00, 0x20])] id) (fun t => t.gpr .b16 .esi == 0x100#16 &&
    t.segs.ds == SegCache.real 0x2000#16 0x20000#32) = true := by decide +kernel

theorem test_mov_cr0 : gives (start [0x0F, 0x22, 0xC0] [] (fun s => { s.setGpr .b32 .eax 0x80000011#32 with
    tlbR := [(1, { physPage := 5#20, uOk := true, wOk := true })] })) (fun t => t.cr0 == 0x80000011#32 && t.tlbR == []) = true := by decide +kernel

theorem test_mov_cr3 : gives (start [0x0F, 0x22, 0xD8] [] (fun s => s.setGpr .b32 .eax 0x10000#32)) (fun t => t.cr3 == 0x10000#32) = true := by
  decide +kernel

theorem test_mov_cr2 : gives (start [0x0F, 0x22, 0xD0] [] (fun s => s.setGpr .b32 .eax 0x12345678#32)) (fun t => t.cr2 == 0x12345678#32) =
    true := by decide +kernel

theorem test_mov_from_cr2 : gives (start [0x0F, 0x20, 0xD0] [] (fun s => { s with cr2 := 0x403004#32 })) (fun t => t.gpr32 .eax == 0x403004#32) =
    true := by decide +kernel

theorem test_lmsw : gives (start [0x0F, 0x01, 0xF0] [] (r16 .eax 1#16)) (fun t => t.pe && t.cr0 == 0x60000011#32) = true := by decide +kernel

theorem test_smsw : gives (start [0x0F, 0x01, 0xE0] [] (fun s => { s with cr0 := 0x11#32 })) (fun t => t.gpr .b16 .eax == 0x11#16) = true := by
  decide +kernel

theorem test_clts : gives (start [0x0F, 0x06] [] (fun s => { s with cr0 := 0x19#32 })) (fun t => t.cr0 == 0x11#32) = true := by decide +kernel

theorem test_wbinvd : gives (start [0x0F, 0x09] [] id) (fun t => t.eip == 0x102#32) = true := by decide +kernel

theorem test_hlt : gives (start [0xF4] [] id) (fun t => t.eip == 0x101#32 && t.halted) = true := by decide +kernel

/-- UD2 delivers vector 6 with the offset of its first byte (R681). -/
theorem test_ud2 : gives (start [0x0F, 0x0B] [(0x18#32, [0x00, 0x05, 0x00, 0xF0])] id) (fun t => w16 t 0x1FA#32 == 0x100#16 &&
    t.eip == 0x500#32 && t.history == [.delivered 6#8 .fault]) = true := by decide +kernel

/-- A division by zero delivers vector 0 with the offset of the instruction (R372, R700). -/
theorem test_divide_error : gives (start [0xF6, 0xF3] [(0#32, [0x00, 0x05, 0x00, 0xF0])] id) (fun t => w16 t 0x1FA#32 == 0x100#16 &&
    t.eip == 0x500#32) = true := by decide +kernel

/-- The first instruction after reset is fetched at FFFFFFF0H, from a page no handler holds, whose bytes are FFH: FF with reg = 7 is #UD. -/
theorem test_reset_fetches_fill : gives State.reset (fun t => t.history.getLast? == some (.delivered 6#8 .fault)) = true := by decide +kernel

/-- A word placed where the machine fetches is the instruction the next step runs. -/
theorem test_with_fetch_word : gives (State.reset.withFetchWord 8 0x40) (fun t => t.gpr .b16 .eax == 1#16 && t.eip == 0xFFF1#32) = true := by
  decide +kernel

/-- The memory at reset is in its canonical form. -/
theorem test_reset_memory : Memory.wf State.reset.mem = true := by decide

/-! Witnesses: for each statement with hypotheses, and for each of its clauses, data that meet them together. -/

theorem witness_DecodeOfEncode : let i := Instr.addRmIz (.mem (.sib 3#2 (some .ecx) .ebx (.full 0x80000000#32))) 0xFFFFFFFF#32
    let p : Pfx := { seg := some .fs, osz := .w32, asz := .w32, lock := true, rep := .none }
    i.wellFormed p.osz p.asz = true ∧ (encode false p i).length ≤ 15 ∧ (encode false p i).length = 15 := by decide +kernel

theorem witness_DecodedIsWellFormed : ∃ p i rest, decode .g486 false [0x01, 0x1E, 0xCD, 0xAB, 0x90] = (.instr p i, rest) := ⟨_, _, _, rfl⟩

/-- `base` with MOV AX, 1234H at its eip. -/
def atCode : State := { base with eip := 0x400#32, mem := memWrite base.mem 0x400#32 [0xB8, 0x34, 0x12] }

theorem witness_FetchEndsInAnOutcome : ∃ d bs t, fetchInstr atCode = .ok (d, bs) t := ⟨_, _, _, rfl⟩

theorem witness_StepRunsTheDecodedInstruction : atCode.unmarked = true ∧ acceptable atCode = none ∧ atCode.halted = false ∧
    ∃ p i bs t, fetchInstr (startInstr atCode) = .ok (.instr p i, bs) t := ⟨rfl, rfl, rfl, _, _, _, _, rfl⟩

/-- The last byte of the instruction is at the CS limit. -/
theorem witness_StepRunsTheBytesAtEip :
    let s : State := { base with eip := 0xFFFD#32, mem := memWrite base.mem 0xFFFD#32 [0xB8, 0x34, 0x12] }
    let bs : List Byte := [0xB8, 0x34, 0x12]
    s.unmarked = true ∧ acceptable s = none ∧ s.halted = false ∧ s.pg = false ∧
      (∃ p i, decode s.cfg.gen s.codeBig bs = (.instr p i, [])) ∧
      ∀ k, (h : k < bs.length) →
        let off := s.eip + BitVec.ofNat 32 k
        let pa := inPage (translateOff s (s.segs.cs.base + off)).1 (s.segs.cs.base + off)
        off.toNat ≤ s.segs.cs.limit.toNat ∧ (s.handler (pageOf pa) = .ram ∨ s.handler (pageOf pa) = .rom) ∧
          memByte s.mem pa.toNat = bs[k] :=
  ⟨rfl, rfl, rfl, rfl, ⟨_, _, rfl⟩, fun
    | 0, _ => ⟨by decide, .inl rfl, rfl⟩
    | 1, _ => ⟨by decide, .inl rfl, rfl⟩
    | 2, _ => ⟨by decide, .inl rfl, rfl⟩⟩

theorem witness_WhatIsNoInstruction_limit : let s := { base with eip := 0x10000#32, eipStart := 0xFFFF#32 }
    s.segs.cs.limit.toNat < s.eip.toNat := by decide

theorem witness_WhatIsNoInstruction_length : let s := { base with eip := 0x2F#32, eipStart := 0x20#32 }
    s.eip - s.eipStart = 15#32 ∧ s.eip.toNat ≤ s.segs.cs.limit.toNat := by decide

theorem witness_WhatIsNoInstruction_undefined : let s := { atCode with mem := memWrite base.mem 0x400#32 [0x8D, 0xC0] }
    s.unmarked = true ∧ acceptable s = none ∧ s.halted = false ∧ ∃ bs t, fetchInstr (startInstr s) = .ok (.undefined, bs) t :=
  ⟨rfl, rfl, rfl, _, _, rfl⟩

theorem witness_WhatIsNoInstruction_refused : let s := { atCode with mem := memWrite base.mem 0x400#32 [0x27] }
    s.unmarked = true ∧ acceptable s = none ∧ s.halted = false ∧ ∃ stage bs t, fetchInstr (startInstr s) = .ok (.refused stage, bs) t :=
  ⟨rfl, rfl, rfl, _, _, _, rfl⟩

theorem witness_ResetValues : (SegReg.gs : SegReg) ≠ .cs := by decide

theorem witness_StepKeepsWellFormed : atCode.wf = true ∧ ∃ t, step atCode = .next t := ⟨by decide +kernel, _, rfl⟩

theorem witness_StepKeepsMapsAndPrivilege : atCode.pmRefuses ∧ ∃ t, step atCode = .next t := ⟨refuses rfl, _, rfl⟩

/-- CLI at CPL 3 with IOPL 0. -/
theorem witness_UnprivilegedCodeCannotChangeControl :
    let s : State := { user with eip := 0x400#32, mem := memWrite base.mem 0x400#32 [0xFA] }
    s.pmRefuses ∧ s.pe = true ∧ s.cpl ≠ 0#2 ∧ s.iopl.toNat < s.cpl.toNat ∧ ∃ t, step s = .next t :=
  ⟨refuses rfl, rfl, by decide, by decide, _, rfl⟩

/-- A division by 0, a software interrupt and an IRET in protected mode end the run. -/
theorem witness_AnEndedRunKeepsRegisters : prot.unmarked = true ∧ ∀ i ∈ [Instr.divRm8 (.reg .edx), .intIb 0x40#8, .iret],
    ∃ t, exec i prot = .next t ∧ t.unmarked = false := by
  refine ⟨rfl, fun i h => ?_⟩
  simp only [List.mem_cons, List.not_mem_nil, or_false] at h
  rcases h with rfl | rfl | rfl
  · exact ⟨_, rfl, rfl⟩
  · exact ⟨_, rfl, rfl⟩
  · exact ⟨_, rfl, rfl⟩

/-- A write to a ROM page under the policy `trap` ends the run. -/
theorem witness_AnEndedRunKeepsRegisters_rom :
    let s := { base with cfg := { Config.examples with romPolicy := .trap }, handlers := [(0, .rom)] }
    s.unmarked = true ∧ ∃ t, exec (.movRmR (.mem atBx) .ecx) s = .next t ∧ t.unmarked = false := ⟨rfl, _, rfl, rfl⟩

theorem witness_StepsThatExecuteNothing_refused : ∃ r, ({ base with refused := some (.pmIret []) } : State).refused = some r := ⟨_, rfl⟩

theorem witness_StepsThatExecuteNothing_faulted : let s := { base with faulted := some (.guest 8#8 (some 0#32)) }
    s.refused = none ∧ ∃ f, s.faulted = some f := ⟨rfl, _, rfl⟩

theorem witness_StepsThatExecuteNothing_accepts : let s := { base with intr := some 8#8, eflags := 0x202#32 }
    s.unmarked = true ∧ acceptable s = some 8#8 := ⟨rfl, rfl⟩

theorem witness_StepsThatExecuteNothing_shadow : let s := { base with intr := some 8#8, eflags := 0x202#32, shadow := .sti }
    s.unmarked = true ∧ acceptable s = none := ⟨rfl, rfl⟩

theorem witness_StepsThatExecuteNothing_halted : let s := { base with halted := true, intr := some 8#8 }
    s.unmarked = true ∧ s.halted = true ∧ acceptable s = none ∧ s.flag .intr = false := ⟨rfl, rfl, rfl, rfl⟩

theorem witness_SingleStepTrap_taken : let s := { base with eflags := 0x102#32 }
    s.flag .tf = true ∧ s.unmarked = true ∧ sameDeliveries s s ∧ s.shadow ≠ .movss := ⟨rfl, rfl, rfl, by decide⟩

theorem witness_SingleStepTrap_not_taken : base.flag .tf = false ∧ ({ base with shadow := .movss } : State).shadow = .movss ∧
    ({ base with refused := some (.pmIret []) } : State).unmarked = false ∧ ¬ sameDeliveries base (base.record (.delivered 3#8 .software)) :=
  ⟨rfl, rfl, rfl, by unfold sameDeliveries; decide⟩

/-- INT 40H, whose vector is at 100H. -/
theorem witness_RealModeDelivery : ∃ s1 s2 s3 s4 s5 off sel, base.pe = false ∧
    push (base.eflags.setWidth 16) (base.record (.delivered 0x40#8 .software)) = .ok () s1 ∧
    push base.segs.cs.sel { s1 with eflags := base.eflags &&& ~~~0x00040300#32 } = .ok () s2 ∧ push (0x12#16) s2 = .ok () s3 ∧
    linRead (BitVec.ofNat 32 (4 * (0x40#8).toNat)) 2 s3 = .ok off s4 ∧
    linRead (BitVec.ofNat 32 (4 * (0x40#8).toNat + 2)) 2 s4 = .ok sel s5 := by
  have h : okThen (push (base.eflags.setWidth 16) (base.record (.delivered 0x40#8 .software))) (fun _ s1 =>
      okThen (push base.segs.cs.sel { s1 with eflags := base.eflags &&& ~~~0x00040300#32 }) fun _ s2 =>
      okThen (push (0x12#16) s2) fun _ s3 => okThen (linRead (BitVec.ofNat 32 (4 * (0x40#8).toNat)) 2 s3) fun _ s4 =>
      okThen (linRead (BitVec.ofNat 32 (4 * (0x40#8).toNat + 2)) 2 s4) fun _ _ => true) = true := by decide +kernel
  obtain ⟨_, s1, h1, h⟩ := okThen_spec h
  obtain ⟨_, s2, h2, h⟩ := okThen_spec h
  obtain ⟨_, s3, h3, h⟩ := okThen_spec h
  obtain ⟨off, s4, h4, h⟩ := okThen_spec h
  obtain ⟨sel, s5, h5, _⟩ := okThen_spec h
  exact ⟨s1, s2, s3, s4, s5, off, sel, rfl, h1, h2, h3, h4, h5⟩

/-- The stack segment ends below the stack pointer. -/
theorem witness_DeliveryThatFails_real : let s := base.setSeg .ss { flat with limit := 0#32 }
    s.pe = false ∧ ∃ w e t, deliverReal 3#8 0x12#32 (s.record (.delivered 3#8 .software)) = .error (.fault w e) t :=
  ⟨rfl, _, _, _, rfl⟩

theorem witness_DeliveryThatFails_protected : prot.pe = true ∧ prot.cfg.pmDeliver = .refuse := ⟨rfl, rfl⟩

/-- Three bytes from the last address wrap to 0. -/
theorem witness_StoreThenLoad : ([1#8, 2#8, 3#8] : List Byte).length ≤ 2 ^ 32 ∧ Memory.wf base.mem = true ∧
    (∀ k < 3, (5 : Nat) ≠ (0xFFFFFFFF#32 + BitVec.ofNat 32 k).toNat) := by decide

/-- `base` with a page of each handler: RAM at 0 with code in page 1, ROM, unmapped and a device. -/
def pages : State :=
  { base with
    handlers := [(2, .rom), (3, .unmapped), (4, .mmio 7)]
    caps := [(1, { readable := true, writable := true, hasRom := false, has32BitCode := false, has16BitCode := true, noDynamicCode := false
                   init := false })] }

theorem witness_PageHandlers : pages.handler (pageOf 0xFFF#32) = .ram ∧ pages.handler (pageOf 0x1FFC#32) = .ram ∧
    pages.holdsCode (pageOf 0x1FFC#32) = true ∧ pages.handler (pageOf 0x2000#32) = .rom ∧ pages.handler (pageOf 0x3000#32) = .unmapped ∧
    pages.handler (pageOf 0x4FFF#32) = .mmio 7 ∧ pages.cfg.romPolicy = .discard ∧ ([1#8, 2#8] : List Byte).length = 2 :=
  ⟨rfl, rfl, rfl, rfl, rfl, rfl, rfl, rfl⟩

theorem witness_PageHandlers_trap : let s := { pages with cfg := { Config.examples with romPolicy := .trap } }
    s.handler (pageOf 0x2000#32) = .rom ∧ s.cfg.romPolicy = .trap := ⟨rfl, rfl⟩

/-- A read-only forced mapping of the page that holds code, under each policy. -/
theorem witness_PageHandlers_read_only : let c : Chunk := ⟨0x1FFE#32, 2, true⟩
    ([1#8, 2#8] : List Byte).length = c.n ∧ c.n ≤ 4 ∧ c.ro = true ∧ pages.handler (pageOf c.pa) = .ram ∧
    pages.holdsCode (pageOf c.pa) = true ∧ pages.cfg.romPolicy = .discard ∧
    ({ pages with cfg := { Config.examples with romPolicy := .trap } } : State).cfg.romPolicy = .trap := by decide

/-- A span across the end of page 0. -/
theorem witness_SpanRoundTrip : let sp : Span := [⟨0xFFF#32, 1, false⟩, ⟨0x5000#32, 1, false⟩]
    (spanBytes sp).Nodup ∧ ([1#8, 2#8] : List Byte).length = (spanBytes sp).length ∧
      ∀ c ∈ sp, base.handler (pageOf c.pa) = .ram ∧ base.holdsCode (pageOf c.pa) = false ∧ c.ro = false := by decide

theorem witness_SpanWithPagingOff : base.pg = false ∧ ((4 : Nat) = 1 ∨ (4 : Nat) = 2 ∨ (4 : Nat) = 4 ∨ (4 : Nat) = 8) := by decide

/-- The last byte within the limit, the first beyond it, in DS and SS, and a null segment. -/
theorem witness_SegmentCheck : (base.seg .ds).null = false ∧ (0xFFFF#32).toNat + 1 ≤ (base.seg .ds).limit.toNat + 1 ∧
    ¬ (0xFFFF#32).toNat + 2 ≤ (base.seg .ss).limit.toNat + 1 ∧ ((prot.setSeg .ds { flat with null := true }).seg .ds).null = true := by decide

/-- Paging on: CR3 = 1000H, a directory entry for linear pages 0 to 1023, a table at 2000H: page 0 read-only and supervisor, page 1 absent. -/
def paged : State :=
  { prot with
    cr0 := 0x80000011#32
    cr3 := 0x1000#32
    mem := memWrite (memWrite base.mem 0x1000#32 [0x07, 0x20, 0, 0, 0, 0, 0, 0]) 0x2000#32 [0x01, 0x50, 0, 0, 0, 0, 0, 0] }

theorem witness_TlbHitIgnoresTables :
    let s := { paged with cfg := still, tlbR := [(0, { physPage := 9#20, uOk := false, wOk := false })] }
    s.pg = true ∧ (∃ e, tableGet (if false then s.evicted.tlbW else s.evicted.tlbR) (pageOf 0xFFF#32) = some e ∧
      if s.cpl = 3#2 then e.uOk = true ∧ (false = true → e.wOk = true) else false = true → e.wOk = true ∨ s.cfg.gen = .g386 ∨ s.wp = false) :=
  ⟨rfl, _, rfl, nofun⟩

/-- The directory entry of linear 400000H is absent. -/
theorem witness_PageFaults_directory : paged.pg = true ∧ paged.cfg.eviction = .free ∧ tlbHit paged.evicted 0x400000#32 true = none ∧
    (let pde := bytesWord (memRead paged.mem (pdeAddrOf paged.cr3 0x400000#32) 4)
     pde.getLsbD 0 = false ∧ paged.handler (pageOf (pdeAddrOf paged.cr3 0x400000#32)) = .ram ∧
       paged.holdsCode (pageOf (pdeAddrOf paged.cr3 0x400000#32)) = false) := by decide +kernel

/-- The table entry of linear 1000H is absent, and that of linear 0 does not permit a user. -/
theorem witness_PageFaults_table : let s := { paged with cpl := 3#2 }
    s.pg = true ∧ tlbHit s.evicted 0x1000#32 true = none ∧ tlbHit s.evicted 0#32 false = none ∧
    (let pde := bytesWord (memRead s.mem (pdeAddrOf s.cr3 0x1000#32) 4)
     let pte := bytesWord (memRead s.mem (pteAddrOf pde 0#32) 4)
     pde.getLsbD 0 = true ∧ (bytesWord (memRead s.mem (pteAddrOf pde 0x1000#32) 4)).getLsbD 0 = false ∧ pte.getLsbD 0 = true ∧
       permitted (pde.getLsbD 2 && pte.getLsbD 2) (pde.getLsbD 1 && pte.getLsbD 1) false (s.cpl == 3#2) (s.cfg.gen != .g386 && s.wp) = false ∧
       s.handler (pageOf (pdeAddrOf s.cr3 0x1000#32)) = .ram ∧ s.holdsCode (pageOf (pdeAddrOf s.cr3 0x1000#32)) = false ∧
       s.handler (pageOf (pteAddrOf pde 0x1000#32)) = .ram ∧ s.holdsCode (pageOf (pteAddrOf pde 0x1000#32)) = false) := by decide +kernel

/-- A supervisor write to linear 0 with WP = 0. -/
theorem witness_WalkFillsTlb : paged.pg = true ∧ paged.cfg.eviction = .free ∧ tlbHit paged.evicted 0#32 true = none ∧
    (let pdeAddr := pdeAddrOf paged.cr3 0#32
     let pde := bytesWord (memRead paged.mem pdeAddr 4)
     let pteAddr := pteAddrOf pde 0#32
     let pte := bytesWord (memRead paged.mem pteAddr 4)
     paged.handler (pageOf pdeAddr) = .ram ∧ paged.holdsCode (pageOf pdeAddr) = false ∧ paged.handler (pageOf pteAddr) = .ram ∧
       paged.holdsCode (pageOf pteAddr) = false ∧ pde.getLsbD 0 = true ∧ pte.getLsbD 0 = true ∧
       permitted (pde.getLsbD 2 && pte.getLsbD 2) (pde.getLsbD 1 && pte.getLsbD 1) true (paged.cpl == 3#2)
         (paged.cfg.gen != .g386 && paged.wp) = true ∧ pteAddr ≠ pdeAddr) := by decide +kernel

/-- AH: its parent is EAX, and ESP is no destination. -/
theorem witness_RegisterViews : (Width.b8 : Width) = .b8 ∧ Reg.esp ∉ destRegs .b8 (.reg .esp) ∧ Reg.ecx ≠ .esp := by decide

/-- The greatest and the least count. -/
theorem witness_ShiftResults : 1 ≤ 31 ∧ 31 < 32 ∧ 1 ≤ 1 ∧ 1 < 32 := by decide

theorem witness_FlagWritesKeepTheRest : (fixedZero .g386).getLsbD 18 = true ∧ (fixedZero .g586).getLsbD 21 = false := by decide

theorem witness_AluCompletes_add : ∃ x pl a b s1 s2 s3 s4, aluParts locked.pfx (.addRmR (.mem atBx) .ecx) = some x ∧ x.op = .add ∧
    locked.allows .g386 (x.op.writes && isMem x.dst) ∧ resolveRM x.w x.op.writes locked.pfx x.dst locked = .ok pl s1 ∧
    readPlace x.w pl s1 = .ok a s2 ∧ x.src.get x.w locked.pfx s2 = .ok b s3 ∧
    writePlace x.w pl (a + b) s3 = .ok () s4 :=
  ⟨_, _, _, _, _, _, _, _, rfl, rfl, allowed rfl rfl, rfl, rfl, rfl, rfl⟩

theorem witness_AluCompletes_adc : ∃ x pl a b s1 s2 s3 s4, aluParts locked.pfx (.adcRmR (.mem atBx) .ecx) = some x ∧ x.op = .adc ∧
    locked.allows .g386 (x.op.writes && isMem x.dst) ∧ resolveRM x.w x.op.writes locked.pfx x.dst locked = .ok pl s1 ∧
    readPlace x.w pl s1 = .ok a s2 ∧ x.src.get x.w locked.pfx s2 = .ok b s3 ∧
    (let c : BitVec x.w.bits := if locked.flag .cf then 1#x.w.bits else 0#x.w.bits; writePlace x.w pl (a + b + c) s3 = .ok () s4) :=
  ⟨_, _, _, _, _, _, _, _, rfl, rfl, allowed rfl rfl, rfl, rfl, rfl, rfl⟩

theorem witness_AluCompletes_sub : ∃ x pl a b s1 s2 s3 s4, aluParts locked.pfx (.subRmR (.mem atBx) .ecx) = some x ∧ x.op = .sub ∧
    locked.allows .g386 (x.op.writes && isMem x.dst) ∧ resolveRM x.w x.op.writes locked.pfx x.dst locked = .ok pl s1 ∧
    readPlace x.w pl s1 = .ok a s2 ∧ x.src.get x.w locked.pfx s2 = .ok b s3 ∧
    writePlace x.w pl (a - b) s3 = .ok () s4 :=
  ⟨_, _, _, _, _, _, _, _, rfl, rfl, allowed rfl rfl, rfl, rfl, rfl, rfl⟩

theorem witness_AluCompletes_sbb : ∃ x pl a b s1 s2 s3 s4, aluParts base.pfx (.sbbRRm (.mem atBx) .ecx) = some x ∧ x.op = .sbb ∧
    base.allows .g386 (x.op.writes && isMem x.dst) ∧ resolveRM x.w x.op.writes base.pfx x.dst base = .ok pl s1 ∧
    readPlace x.w pl s1 = .ok a s2 ∧ x.src.get x.w base.pfx s2 = .ok b s3 ∧
    (let c : BitVec x.w.bits := if base.flag .cf then 1#x.w.bits else 0#x.w.bits; writePlace x.w pl (a - b - c) s3 = .ok () s4) :=
  ⟨_, _, _, _, _, _, _, _, rfl, rfl, allowed rfl rfl, rfl, rfl, rfl, rfl⟩

theorem witness_AluCompletes_cmp : ∃ x pl a b s1 s2 s3, aluParts base.pfx (.cmpRmR (.mem atBx) .ecx) = some x ∧ x.op = .cmp ∧
    base.allows .g386 (x.op.writes && isMem x.dst) ∧ resolveRM x.w x.op.writes base.pfx x.dst base = .ok pl s1 ∧
    readPlace x.w pl s1 = .ok a s2 ∧ x.src.get x.w base.pfx s2 = .ok b s3 :=
  ⟨_, _, _, _, _, _, _, rfl, rfl, allowed rfl rfl, rfl, rfl, rfl⟩

theorem witness_AluCompletes_and : ∃ x pl a b s1 s2 s3 s4, aluParts locked.pfx (.andRm8Ib (.mem atBx) 0xFF#8) = some x ∧ x.op = .and ∧
    locked.allows .g386 (x.op.writes && isMem x.dst) ∧ resolveRM x.w x.op.writes locked.pfx x.dst locked = .ok pl s1 ∧
    readPlace x.w pl s1 = .ok a s2 ∧ x.src.get x.w locked.pfx s2 = .ok b s3 ∧
    writePlace x.w pl (a &&& b) s3 = .ok () s4 :=
  ⟨_, _, _, _, _, _, _, _, rfl, rfl, allowed rfl rfl, rfl, rfl, rfl, rfl⟩

theorem witness_AluCompletes_or : ∃ x pl a b s1 s2 s3 s4, aluParts locked.pfx (.orRmR (.mem atBx) .ecx) = some x ∧ x.op = .or ∧
    locked.allows .g386 (x.op.writes && isMem x.dst) ∧ resolveRM x.w x.op.writes locked.pfx x.dst locked = .ok pl s1 ∧
    readPlace x.w pl s1 = .ok a s2 ∧ x.src.get x.w locked.pfx s2 = .ok b s3 ∧
    writePlace x.w pl (a ||| b) s3 = .ok () s4 :=
  ⟨_, _, _, _, _, _, _, _, rfl, rfl, allowed rfl rfl, rfl, rfl, rfl, rfl⟩

theorem witness_AluCompletes_xor : ∃ x pl a b s1 s2 s3 s4, aluParts locked.pfx (.xorRmIbs (.mem atBx) 0x80#8) = some x ∧ x.op = .xor ∧
    locked.allows .g386 (x.op.writes && isMem x.dst) ∧ resolveRM x.w x.op.writes locked.pfx x.dst locked = .ok pl s1 ∧
    readPlace x.w pl s1 = .ok a s2 ∧ x.src.get x.w locked.pfx s2 = .ok b s3 ∧
    writePlace x.w pl (a ^^^ b) s3 = .ok () s4 :=
  ⟨_, _, _, _, _, _, _, _, rfl, rfl, allowed rfl rfl, rfl, rfl, rfl, rfl⟩

theorem witness_AluCompletes_test : ∃ w dst src a b s1 s2, testParts base.pfx (.testRmR (.mem atBx) .ecx) = some (w, dst, src) ∧
    base.allows .g386 false ∧ readRM w base.pfx dst base = .ok a s1 ∧ src.get w base.pfx s1 = .ok b s2 :=
  ⟨_, _, _, _, _, _, _, rfl, allowed rfl rfl, rfl, rfl⟩

theorem witness_UnaryCompletes : ∃ op w rm pl a s1 s2 s3, unaryParts locked.pfx (.negRm (.mem atBx)) = some (op, w, rm) ∧
    locked.allows .g386 (lockAllowed (.negRm (.mem atBx))) ∧ resolveRM w true locked.pfx rm locked = .ok pl s1 ∧
    readPlace w pl s1 = .ok a s2 ∧ writePlace w pl (op.result a) s2 = .ok () s3 :=
  ⟨_, _, _, _, _, _, _, _, rfl, allowed rfl rfl, rfl, rfl, rfl⟩

theorem witness_MultiplyCompletes : ∃ signed w rm a s1, mulParts base.pfx (.imulRm (.mem atBx)) = some (signed, w, rm) ∧
    base.allows .g386 false ∧ readRM w base.pfx rm base = .ok a s1 := ⟨_, _, _, _, _, rfl, allowed rfl rfl, rfl⟩

theorem witness_MultiplyCompletes_register : ∃ w r x y a b s1 s2, imulParts base.pfx (.imulRRmIbs (.mem atBx) .ecx 0x80#8) = some (w, r, x, y) ∧
    base.allows .g386 false ∧ x.get w base.pfx base = .ok a s1 ∧ y.get w base.pfx s1 = .ok b s2 :=
  ⟨_, _, _, _, _, _, _, _, rfl, allowed rfl rfl, rfl, rfl⟩

/-- A divisor, and a dividend whose quotient by it fits and one whose quotient by it does not, or a divisor of 0. -/
theorem witness_DivideCompletesOrTraps : (∃ signed w rm d s1, divParts base.pfx (.divRm8 (.reg .ecx)) = some (signed, w, rm) ∧
      base.allows .g386 false ∧ readRM w base.pfx rm base = .ok d s1) ∧
    (base.gpr .b8 .ecx).toNat ≠ 0 ∧ (base.gpr .b16 .eax).toNat / (base.gpr .b8 .ecx).toNat < 2 ^ 8 ∧ (base.gpr .b8 .edx).toNat = 0 ∧
    ¬ (0x200 / (base.gpr .b8 .ecx).toNat < 2 ^ 8) :=
  ⟨⟨_, _, _, _, _, rfl, allowed rfl rfl, rfl⟩, by decide, by decide, by decide, by decide⟩

theorem witness_ShiftCompletes : ∃ op w rm count pl a s1 s2, shiftParts base.pfx (.rclRmCl (.mem atBx)) = some (op, w, rm, count) ∧
    base.allows .g386 false ∧ resolveRM w true base.pfx rm base = .ok pl s1 ∧ readPlace w pl s1 = .ok a s2 ∧ (count base).toNat % 32 ≠ 0 ∧
    ∀ k ≤ 3, ∃ s3, writePlace w pl (shiftOut op a (base.flag .cf) ((count base).toNat % 32)).r (s2.drawn k) = .ok () s3 :=
  ⟨_, _, _, _, _, _, _, _, rfl, allowed rfl rfl, rfl, rfl, by decide, fun _ _ => ⟨_, rfl⟩⟩

/-- A count of 32 is a masked count of 0. -/
theorem witness_ShiftCompletes_zero : ∃ op w rm count pl a s1 s2, shiftParts base.pfx (.shlRm8Ib (.mem atBx) 32#8) = some (op, w, rm, count) ∧
    base.allows .g386 false ∧ resolveRM w true base.pfx rm base = .ok pl s1 ∧ readPlace w pl s1 = .ok a s2 ∧ (count base).toNat % 32 = 0 :=
  ⟨_, _, _, _, _, _, _, _, rfl, allowed rfl rfl, rfl, rfl, by decide⟩

/-- Counts of 0, 16 and 17 at operand size 16. -/
theorem witness_DoubleShiftCompletes : ∃ left rm r c0 c16 c17 pl a s1 s2,
    doubleParts (.shldRmRIb (.mem atBx) .ecx 32#8) = some (left, rm, r, c0) ∧ (c0 base).toNat % 32 = 0 ∧
    doubleParts (.shldRmRIb (.mem atBx) .ecx 16#8) = some (left, rm, r, c16) ∧ (c16 base).toNat % 32 = base.pfx.osz.width.bits ∧
    doubleParts (.shldRmRIb (.mem atBx) .ecx 17#8) = some (left, rm, r, c17) ∧ base.pfx.osz.width.bits < (c17 base).toNat % 32 ∧
    base.allows .g386 false ∧ resolveRM base.pfx.osz.width true base.pfx rm base = .ok pl s1 ∧ readPlace base.pfx.osz.width pl s1 = .ok a s2 ∧
    ∀ v k, ∃ s3, writePlace base.pfx.osz.width pl v (s2.drawn k) = .ok () s3 :=
  ⟨_, _, _, _, _, _, _, _, _, _, rfl, by decide, rfl, by decide, rfl, by decide, allowed rfl rfl, rfl, rfl, fun _ _ => ⟨_, rfl⟩⟩

/-- A register offset of -1 into memory, one into a register, and an immediate one. -/
theorem witness_BitTestCompletes_memory : let s := base.setGpr .b16 .ecx 0xFFFF#16; let w := s.pfx.osz.width
    ∃ op rm r m sp v s1 s2 s3, bitParts (.btsRmR (.mem atBx) .ecx) = some (op, rm, .inl r) ∧ rm = .mem m ∧
    s.allows .g386 (op.writes && isMem rm) ∧ ((15 : Nat) : Int) = (s.gpr w r).toInt % w.bits ∧
    resolveMem (effSeg s.pfx m)
      (addrWrap s.pfx.asz (effOffset s m + BitVec.ofInt 32 (w.bytes * ((s.gpr w r).toInt / w.bits)))) w.bytes op.writes s = .ok sp s1 ∧
    readPlace w (.mem sp) s1 = .ok v s2 ∧ op = .bts ∧ writePlace w (.mem sp) (v ||| 1#w.bits <<< 15) s2 = .ok () s3 :=
  ⟨_, _, _, _, _, _, _, _, _, rfl, rfl, allowed rfl rfl, by decide +kernel, rfl, rfl, rfl, rfl⟩

theorem witness_BitTestCompletes_register : let w := base.pfx.osz.width
    ∃ op rm r q v s2 s3, bitParts (.btcRmR (.reg .edx) .ecx) = some (op, rm, .inl r) ∧ rm = .reg q ∧
    base.allows .g386 (op.writes && isMem rm) ∧ 2 = (base.gpr w r).toNat % w.bits ∧
    readPlace w (.reg q) base = .ok v s2 ∧ op = .btc ∧ writePlace w (.reg q) (v ^^^ 1#w.bits <<< 2) s2 = .ok () s3 :=
  ⟨_, _, _, _, _, _, _, rfl, rfl, allowed rfl rfl, rfl, rfl, rfl, rfl⟩

theorem witness_BitTestCompletes_immediate : let w := base.pfx.osz.width
    ∃ op rm imm pl v s1 s2 s3, bitParts (.btrRmIb (.mem atBx) 0x1F#8) = some (op, rm, .inr imm) ∧ base.allows .g386 (op.writes && isMem rm) ∧
    resolveRM w op.writes base.pfx rm base = .ok pl s1 ∧ 15 = imm.toNat % w.bits ∧
    readPlace w pl s1 = .ok v s2 ∧ op = .btr ∧
    writePlace w pl (v &&& ~~~(1#w.bits <<< 15)) s2 = .ok () s3 :=
  ⟨_, _, _, _, _, _, _, _, rfl, allowed rfl rfl, rfl, rfl, rfl, rfl, rfl⟩

theorem witness_BitTestCompletes_bt : let w := base.pfx.osz.width
    ∃ op rm imm pl v s1 s2, bitParts (.btRmIb (.mem atBx) 0x1F#8) = some (op, rm, .inr imm) ∧ base.allows .g386 (op.writes && isMem rm) ∧
    resolveRM w op.writes base.pfx rm base = .ok pl s1 ∧ 15 = imm.toNat % w.bits ∧ readPlace w pl s1 = .ok v s2 ∧ op = .bt :=
  ⟨_, _, _, _, _, _, _, rfl, allowed rfl rfl, rfl, rfl, rfl, rfl⟩

/-- A source of 0, one whose only bit is the lowest, and one whose only bit is the highest. -/
theorem witness_BitScanAndByteSwapComplete : base.allows .g386 false ∧ (∃ s1, readRM base.pfx.osz.width base.pfx (.reg .edx) base = .ok 0#16 s1) ∧
    (0x0001#16).getLsbD 0 = true ∧ (∀ j, 0 < j → (0x0001#16).getLsbD j = false) ∧ (0x8000#16).getLsbD 15 = true ∧
    (∀ j < 15, (0x8000#16).getLsbD j = false) ∧ base.allows .g486 false ∧ base.pfx.osz = .w16 ∧ wide.allows .g486 false ∧ wide.pfx.osz = .w32 := by
  refine ⟨allowed rfl rfl, ⟨_, rfl⟩, rfl, fun j h => ?_, rfl, by decide, allowed rfl rfl, rfl, allowed rfl rfl, rfl⟩
  rw [show (0x0001#16) = BitVec.twoPow 16 0 from rfl, BitVec.getLsbD_twoPow]
  simp
  omega

/-- Each string instruction, its elements at DS:SI and ES:DI. -/
theorem witness_StringElementCompletes : base.allows .g386 false ∧ base.pfx.rep = .none ∧
    (∀ i ∈ [Instr.movsb, .movsw, .cmpsb, .cmpsw, .stosb, .stosw, .lodsb, .lodsw, .scasb, .scasw], (stringParts base.pfx i).isSome = true) ∧
    (∃ v t u, memReadBits 16 (base.pfx.seg.getD .ds) (addrReg base.pfx.asz .esi base) base = .ok v t ∧
      memWriteBits .es (addrReg base.pfx.asz .edi base) v t = .ok () u) ∧
    (∃ b t, memReadBits 16 .es (addrReg base.pfx.asz .edi base) base = .ok b t) ∧
    ∃ t, memWriteBits .es (addrReg base.pfx.asz .edi base) (base.gpr .b16 .eax) base = .ok () t :=
  ⟨allowed rfl rfl, rfl, by decide, ⟨_, _, _, rfl, rfl⟩, ⟨_, _, rfl⟩, _, rfl⟩

/-- REPE CMPSB with CX = 2, and with CX = 0. -/
theorem witness_StringRepetition : let s := { base with prefixes := { Prefixes.clear with rep := .repe } }
    s.allows .g386 false ∧ s.pfx.rep ≠ .none ∧ stringParts s.pfx .cmpsb = some (.cmp, .b8) ∧ addrReg s.pfx.asz .ecx s ≠ 0#32 ∧
    (∃ t, StringOp.cmp.element .b8 s.pfx s = .ok () t ∧ t.flag .zf = true) ∧ addrReg s.pfx.asz .ecx (s.setGpr .b16 .ecx 0#16) = 0#32 :=
  ⟨allowed rfl rfl, by decide, rfl, by decide, ⟨_, rfl, by decide +kernel⟩, by decide⟩

theorem witness_CompareExchangeCompletes : base.allows .g486 (isMem (.mem atBx)) ∧ ∃ pl d s1 s2 s3 s4,
    resolveRM .b8 true base.pfx (.mem atBx) base = .ok pl s1 ∧ readPlace .b8 pl s1 = .ok d s2 ∧ base.gpr .b8 .eax ≠ d ∧
    writePlace .b8 pl d (s2.setStatus (flagsSub (base.gpr .b8 .eax) d false)) = .ok () s3 ∧
    writePlace .b8 pl (d + base.gpr .b8 .ecx) (s2.setGpr .b8 .ecx d) = .ok () s4 :=
  ⟨allowed rfl rfl, _, _, _, _, _, _, rfl, rfl, by decide, rfl, rfl⟩

theorem witness_CompareExchangeCompletes_equal : let s := base.setGpr .b8 .eax 0#8
    ∃ pl d s1 s2 s3, resolveRM .b8 true s.pfx (.mem atBx) s = .ok pl s1 ∧ readPlace .b8 pl s1 = .ok d s2 ∧ s.gpr .b8 .eax = d ∧
    writePlace .b8 pl (s.gpr .b8 .ecx) (s2.setStatus (flagsSub (s.gpr .b8 .eax) d false)) = .ok () s3 :=
  ⟨_, _, _, _, _, rfl, rfl, rfl, rfl⟩

/-- The eight bytes at 300H are F0000500H; EDX:EAX differs from them, and then equals them. -/
theorem witness_CompareExchangeCompletes_eight : base586.allows .g586 true ∧
    ∃ sp bs s1 s2 s3 s4, resolveMem (effSeg base586.pfx atBx) (effOffset base586 atBx) 8 true base586 = .ok sp s1 ∧ readSpan sp s1 = .ok bs s2 ∧
    base586.gpr32 .edx ++ base586.gpr32 .eax ≠ ofBytes 64 bs ∧ (0x00000000F0000500#64) = ofBytes 64 bs ∧
    writeSpan sp (toBytes (ofBytes 64 bs)) { s2 with eflags := base586.eflags &&& ~~~0x40#32 } = .ok () s3 ∧
    writeSpan sp (toBytes (base586.gpr32 .ecx ++ base586.gpr32 .ebx)) { s2 with eflags := base586.eflags ||| 0x40#32 } = .ok () s4 :=
  ⟨allowed rfl rfl, _, _, _, _, _, _, rfl, rfl, by decide +kernel, by decide +kernel, rfl, rfl⟩

theorem witness_MovesComplete_mov : ∃ w dst src v s1 s2, movParts base.pfx (.movRmIz (.mem atBx) 0xFFFF#32) = some (w, dst, src) ∧
    base.allows .g386 false ∧ src.get w base.pfx base = .ok v s1 ∧ writeRM w base.pfx dst v s1 = .ok () s2 :=
  ⟨_, _, _, _, _, _, rfl, allowed rfl rfl, rfl, rfl⟩

theorem witness_MovesComplete_moffs : ∃ v w s1 s2 s3, memReadBits 8 (base.pfx.seg.getD .ds) 0x300#32 base = .ok v s1 ∧
    memReadBits base.pfx.osz.width.bits (base.pfx.seg.getD .ds) 0x300#32 base = .ok w s1 ∧
    memWriteBits (base.pfx.seg.getD .ds) 0xFFFF#32 (base.gpr .b8 .eax) base = .ok () s2 ∧
    memWriteBits (base.pfx.seg.getD .ds) 0xFFFE#32 (base.gpr base.pfx.osz.width .eax) base = .ok () s3 :=
  ⟨_, _, _, _, _, rfl, rfl, rfl, rfl⟩

theorem witness_MovesComplete_xchg : ∃ w rm r pl a s1 s2 s3, xchgParts locked.pfx (.xchgRmR (.mem atBx) .ecx) = some (w, rm, r) ∧
    locked.allows .g386 (lockAllowed (.xchgRmR (.mem atBx) .ecx)) ∧ resolveRM w true locked.pfx rm locked = .ok pl s1 ∧
    readPlace w pl s1 = .ok a s2 ∧ writePlace w pl (locked.gpr w r) s2 = .ok () s3 :=
  ⟨_, _, _, _, _, _, _, _, rfl, allowed rfl rfl, rfl, rfl, rfl⟩

theorem witness_MovesComplete_extend : ∃ signed w rm r v s1, extendParts (.movsxRRm16 (.mem atBx) .ecx) = some (signed, w, rm, r) ∧
    base.allows .g386 false ∧ readRM w base.pfx rm base = .ok v s1 := ⟨_, _, _, _, _, _, rfl, allowed rfl rfl, rfl⟩

/-- XLAT reads the byte at DS:BX + AL = 312H. -/
theorem witness_MovesComplete_xlat : ∃ v s1, memReadBits 8 (base.pfx.seg.getD .ds)
    (addrWrap base.pfx.asz (addrReg base.pfx.asz .ebx base + (base.gpr .b8 .eax).setWidth 32)) base = .ok v s1 ∧ v = 0x99#8 :=
  ⟨_, _, rfl, rfl⟩

/-- PUSH of memory with SP = 0: the stack pointer wraps to FFFEH. -/
theorem witness_StackInstructionsComplete_push : let s := base.setGpr .b16 .esp 0#16; let w := s.pfx.osz.width
    ∃ src v s1 s2, pushParts (.pushRm (.mem atBx)) = some src ∧ src.get w s.pfx s = .ok v s1 ∧
    memWriteBits .ss (stackWrap s.stackBig (s.stackTop - BitVec.ofNat 32 w.bytes)) v s1 = .ok () s2 := ⟨_, _, _, _, rfl, rfl, rfl⟩

theorem witness_StackInstructionsComplete_pop : let w := base.pfx.osz.width
    ∃ v s1 s2, memReadBits w.bits .ss base.stackTop base = .ok v s1 ∧
    writeRM w base.pfx (.mem atBx) v (s1.setStackTop (base.stackTop + BitVec.ofNat 32 w.bytes)) = .ok () s2 := ⟨_, _, _, rfl, rfl⟩

theorem witness_StackInstructionsComplete_all : let w := base.pfx.osz.width
    ∃ s1, pushEach ([Reg.eax, .ecx, .edx, .ebx, .esp, .ebp, .esi, .edi].map (base.gpr w)) base = .ok () s1 := by
  intro w
  have h : okThen (pushEach ([Reg.eax, .ecx, .edx, .ebx, .esp, .ebp, .esi, .edi].map (base.gpr w)) base) (fun _ _ => true) = true := by
    decide +kernel
  obtain ⟨_, t, h, _⟩ := okThen_spec h
  exact ⟨t, h⟩

theorem witness_StackInstructionsComplete_popa : let w := base.pfx.osz.width
    ∃ di si bp sp bx dx cx ax t1 t2 t3 t4 t5 t6 t7 t8, pop w.bits base = .ok di t1 ∧ pop w.bits (t1.setGpr w .edi di) = .ok si t2 ∧
      pop w.bits (t2.setGpr w .esi si) = .ok bp t3 ∧ pop w.bits (t3.setGpr w .ebp bp) = .ok sp t4 ∧ pop w.bits t4 = .ok bx t5 ∧
      pop w.bits (t5.setGpr w .ebx bx) = .ok dx t6 ∧ pop w.bits (t6.setGpr w .edx dx) = .ok cx t7 ∧
      pop w.bits (t7.setGpr w .ecx cx) = .ok ax t8 := by
  intro w
  have h : okThen (pop w.bits base) (fun di t1 => okThen (pop w.bits (t1.setGpr w .edi di)) fun si t2 =>
      okThen (pop w.bits (t2.setGpr w .esi si)) fun bp t3 => okThen (pop w.bits (t3.setGpr w .ebp bp)) fun _ t4 =>
      okThen (pop w.bits t4) fun bx t5 => okThen (pop w.bits (t5.setGpr w .ebx bx)) fun dx t6 =>
      okThen (pop w.bits (t6.setGpr w .edx dx)) fun cx t7 => okThen (pop w.bits (t7.setGpr w .ecx cx)) fun _ _ => true) = true := by
    decide +kernel
  obtain ⟨di, t1, h1, h⟩ := okThen_spec h
  obtain ⟨si, t2, h2, h⟩ := okThen_spec h
  obtain ⟨bp, t3, h3, h⟩ := okThen_spec h
  obtain ⟨sp, t4, h4, h⟩ := okThen_spec h
  obtain ⟨bx, t5, h5, h⟩ := okThen_spec h
  obtain ⟨dx, t6, h6, h⟩ := okThen_spec h
  obtain ⟨cx, t7, h7, h⟩ := okThen_spec h
  obtain ⟨ax, t8, h8, _⟩ := okThen_spec h
  exact ⟨di, si, bp, sp, bx, dx, cx, ax, t1, t2, t3, t4, t5, t6, t7, t8, h1, h2, h3, h4, h5, h6, h7, h8⟩

theorem witness_StackInstructionsComplete_leave : let w := base.pfx.osz.width
    ∃ v s1, memReadBits w.bits .ss (stackWrap base.stackBig (base.gpr32 .ebp)) (base.setStackTop (base.gpr32 .ebp)) = .ok v s1 ∧ v = 0x3344#16 :=
  ⟨_, _, rfl, rfl⟩

/-- A branch to the CS limit, one beyond it, and one not taken. -/
theorem witness_RelativeBranchesComplete : base.allows .g386 false ∧
    (∃ u rel, branchParts base.pfx base (.jmpRelz 0xFFED#32) = some (u, true, rel) ∧
      ((base.eip + rel) &&& 0xFFFF#32).toNat = base.segs.cs.limit.toNat) ∧
    (∃ u rel, branchParts wide.pfx wide (.jmpRelz 0xFFEE#32) = some (u, true, rel) ∧ wide.segs.cs.limit.toNat < (wide.eip + rel).toNat) ∧
    ∃ u rel, branchParts base.pfx base (.jccRel8 .e 0x80#8) = some (u, false, rel) :=
  ⟨allowed rfl rfl, ⟨_, _, rfl, by decide⟩, ⟨_, _, rfl, by decide⟩, _, _, rfl⟩

theorem witness_NearTransfersComplete : let p := base.pfx; let w := p.osz.width
    base.allows .g386 false ∧ (∃ v s1 s2, readRM w p (.mem atBx) base = .ok v s1 ∧ (v.setWidth 32).toNat ≤ base.segs.cs.limit.toNat ∧
      push (base.eip.setWidth w.bits) s1 = .ok () s2) ∧
    (∃ v s1, memReadBits w.bits .ss base.stackTop base = .ok v s1 ∧ (v.setWidth 32).toNat ≤ base.segs.cs.limit.toNat) ∧
    ∃ s1, push (base.eip.setWidth w.bits) base = .ok () s1 :=
  ⟨allowed rfl rfl, ⟨_, _, _, rfl, by decide +kernel, rfl⟩, ⟨_, _, rfl, by decide +kernel⟩, _, rfl⟩

/-- The pointer at 300H and the top of the stack are offsets beyond the limit at operand size 32. -/
theorem witness_NearTransfersComplete_beyond : let p := wide.pfx; let w := p.osz.width
    wide.allows .g386 false ∧ (∃ v s1, readRM w p (.mem atBx) wide = .ok v s1 ∧ wide.segs.cs.limit.toNat < (v.setWidth 32).toNat) ∧
    (∃ v s1, memReadBits w.bits .ss wide.stackTop wide = .ok v s1 ∧ wide.segs.cs.limit.toNat < (v.setWidth 32).toNat) ∧
    wide.segs.cs.limit.toNat < (wide.eip + relSized p.osz 0xFFFF#32).toNat :=
  ⟨allowed rfl rfl, ⟨_, _, rfl, by decide +kernel⟩, ⟨_, _, rfl, by decide +kernel⟩, by decide⟩

theorem witness_FarTransfersCompleteInRealMode_jump : let p := base.pfx
    base.allows .g386 false ∧ base.pe = false ∧ ∃ target off sel s1, farParts p (.jmpMemFar atBx) = some (.jmp, target) ∧
    target base = .ok (off, sel) s1 ∧ (off &&& 0xFFFF#32).toNat ≤ base.segs.cs.limit.toNat :=
  ⟨allowed rfl rfl, rfl, _, _, _, _, rfl, rfl, by decide +kernel⟩

theorem witness_FarTransfersCompleteInRealMode_call : let p := base.pfx; let w := p.osz.width
    ∃ target off sel s1 s2 s3, farParts p (.callMemFar atBx) = some (.call, target) ∧ target base = .ok (off, sel) s1 ∧
    (off &&& 0xFFFF#32).toNat ≤ base.segs.cs.limit.toNat ∧ pushSel p.osz base.segs.cs.sel s1 = .ok () s2 ∧
    push (base.eip.setWidth w.bits) s2 = .ok () s3 :=
  ⟨_, _, _, _, _, _, rfl, rfl, by decide +kernel, rfl, rfl⟩

theorem witness_FarTransfersCompleteInRealMode_return : let w := base.pfx.osz.width
    (∃ off sel s1, popEach w.bits 2 base = .ok [off, sel] s1 ∧ (off.setWidth 32).toNat ≤ base.segs.cs.limit.toNat) ∧
    ∃ off sel fl s1, popEach w.bits 3 base = .ok [off, sel, fl] s1 ∧ (off.setWidth 32).toNat ≤ base.segs.cs.limit.toNat :=
  ⟨⟨_, _, _, rfl, by decide +kernel⟩, _, _, _, _, rfl, by decide +kernel⟩

/-- Every far target lies beyond a CS limit of 0. -/
theorem witness_FarTransfersCompleteInRealMode_limit : let s := base.setSeg .cs { flat with limit := 0#32 }; let w := s.pfx.osz.width
    s.allows .g386 false ∧ s.pe = false ∧ s.pfx.osz = .w16 ∧
    (∀ i ∈ [Instr.jmpMemFar atBx, .callMemFar atBx], ∃ kind target off sel s1, farParts s.pfx i = some (kind, target) ∧
      target s = .ok (off, sel) s1 ∧ ¬ (off &&& 0xFFFF#32).toNat ≤ s.segs.cs.limit.toNat) ∧
    (∃ off sel s1, popEach w.bits 2 s = .ok [off, sel] s1 ∧ ¬ (off.setWidth 32).toNat ≤ s.segs.cs.limit.toNat) ∧
    ∃ off sel fl s1, popEach w.bits 3 s = .ok [off, sel, fl] s1 ∧ ¬ (off.setWidth 32).toNat ≤ s.segs.cs.limit.toNat := by
  refine ⟨allowed rfl rfl, rfl, rfl, fun i h => ?_, ⟨_, _, _, rfl, by decide +kernel⟩, _, _, _, _, rfl, by decide +kernel⟩
  simp only [List.mem_cons, List.not_mem_nil, or_false] at h
  rcases h with rfl | rfl
  · exact ⟨_, _, _, _, _, rfl, rfl, by decide +kernel⟩
  · exact ⟨_, _, _, _, _, rfl, rfl, by decide +kernel⟩

theorem witness_ProtectedModeParametersDecide_far : let p := prot.pfx
    prot.allows .g386 false ∧ prot.pe = true ∧ (∃ kind target off sel s1, farParts p (.callPtr 0x10#32 0x8#16) = some (kind, target) ∧
      target prot = .ok (off, sel) s1) ∧
    ∃ off sel s1 s2, memReadBits p.osz.width.bits .ss prot.stackTop prot = .ok off s1 ∧
      memReadBits p.osz.width.bits .ss (stackWrap prot.stackBig (prot.stackTop + BitVec.ofNat 32 p.osz.bytes)) s1 = .ok sel s2 :=
  ⟨allowed rfl rfl, rfl, ⟨_, _, _, _, _, rfl, rfl⟩, _, _, _, _, rfl, rfl⟩

theorem witness_ProtectedModeParametersDecide_segments : let p := prot.pfx
    prot.allows .g386 false ∧ prot.pe = true ∧ (∃ v s1, readRM .b16 p (.mem atBx) prot = .ok v s1) ∧
    (∃ r v s1, popSegParts .popSs = some r ∧ memReadBits p.osz.width.bits .ss prot.stackTop prot = .ok v s1) ∧
    ∃ m q r off sel s1, farLoadParts (.lssRMemFar atBx .ecx) = some (m, q, r) ∧ readFarPointer p m prot = .ok (off, sel) s1 :=
  ⟨allowed rfl rfl, rfl, ⟨_, _, rfl⟩, ⟨_, _, _, rfl, rfl⟩, _, _, _, _, _, _, rfl, rfl⟩

theorem witness_SoftwareInterruptsDeliver : base.allows .g386 false ∧ base.flag .of = false ∧ (base.setFlag .of true).allows .g386 false ∧
    (base.setFlag .of true).flag .of = true := ⟨allowed rfl rfl, rfl, allowed rfl rfl, rfl⟩

theorem witness_FlagInstructionsComplete : let w := base.pfx.osz.width
    base.allows .g386 false ∧ base.pe = false ∧ user.allows .g386 false ∧ ¬ (user.pe = false ∨ user.cpl.toNat ≤ user.iopl.toNat) ∧
    (∃ s1, writeRM .b8 base.pfx (.mem atBx) (if condHolds .g base.eflags then 1#8 else 0#8) base = .ok () s1) ∧
    (∃ s1, push ((base.eflags &&& 0x00FCFFFF#32).setWidth w.bits) base = .ok () s1) ∧ ∃ v s2, pop w.bits base = .ok v s2 :=
  ⟨allowed rfl rfl, rfl, allowed rfl rfl, by decide, ⟨_, rfl⟩, ⟨_, rfl⟩, _, _, rfl⟩

theorem witness_SegmentInstructionsCompleteInRealMode : let p := base.pfx
    base.allows .g386 false ∧ base.pe = false ∧ (∃ v s1, readRM .b16 p (.mem atBx) base = .ok v s1) ∧
    (∃ r v s1, popSegParts .popSs = some r ∧ memReadBits p.osz.width.bits .ss base.stackTop base = .ok v s1) ∧
    ∃ m q r off sel s1, farLoadParts (.ldsRMemFar atBx .ecx) = some (m, q, r) ∧ readFarPointer p m base = .ok (off, sel) s1 :=
  ⟨allowed rfl rfl, rfl, ⟨_, _, rfl⟩, ⟨_, _, _, rfl, rfl⟩, _, _, _, _, _, _, rfl, rfl⟩

theorem witness_SelectorStoresComplete : base.allows .g386 false ∧ base.pfx.osz = .w16 ∧ wide.allows .g386 false ∧ wide.pfx.osz = .w32 ∧
    (∃ s1, writeRM .b16 base.pfx (.mem atBx) (base.seg .cs).sel base = .ok () s1) ∧ pushSegParts .pushGs = some .gs ∧
    (∃ s1, push (base.seg .gs).sel base = .ok () s1) ∧
    ∃ sp t u s1, resolveMem .ss (stackWrap wide.stackBig (wide.stackTop - 4#32)) 4 true wide = .ok sp t ∧
      writeSpan sp (toBytes ((wide.seg .gs).sel.setWidth 32)) (t.drawn 1) = .ok () s1 ∧
      writeSpan (lowTwo sp) (toBytes (wide.seg .gs).sel) (t.drawn 1) = .ok () u :=
  ⟨allowed rfl rfl, rfl, allowed rfl rfl, rfl, ⟨_, rfl⟩, rfl, ⟨_, rfl⟩, _, _, _, _, rfl, rfl, rfl⟩

/-- MOV CR0 of a legal value, of PG without PE, and of NW without CD. -/
theorem witness_SystemInstructionsComplete : base.allows .g386 false ∧ (base.pe = false ∨ base.cpl = 0#2) ∧ (prot.pe = false ∨ prot.cpl = 0#2) ∧
    ¬ (((0x80000011#32).getLsbD 31 = true ∧ (0x80000011#32).getLsbD 0 = false) ∨
      (base.cfg.gen ≠ .g386 ∧ (0x80000011#32).getLsbD 29 = true ∧ (0x80000011#32).getLsbD 30 = false)) ∧
    ((0x80000010#32).getLsbD 31 = true ∧ (0x80000010#32).getLsbD 0 = false) ∧
    (base.cfg.gen ≠ .g386 ∧ (0x20000011#32).getLsbD 29 = true ∧ (0x20000011#32).getLsbD 30 = false) ∧
    ∃ v s1, readRM .b16 base.pfx (.mem atBx) base = .ok v s1 :=
  ⟨allowed rfl rfl, by decide, by decide, by decide, by decide, by decide, _, _, rfl⟩

/-- LOCK before a register destination; CMPXCHG8B on a 486. -/
theorem witness_UndefinedInstructionTraps : (locked.pfx.lock = true ∧ lockAllowed (.addRmR (.reg .eax) .ecx) = false) ∧
    base.cfg.gen.num < (firstGen (.cmpxchg8bM64 atBx)).num := by decide

theorem witness_PrivilegedInstructionTraps : user.pe = true ∧ user.cpl ≠ 0#2 ∧ user.allows (firstGen .hlt) false ∧
    user.allows (firstGen .invd) false := ⟨rfl, by decide, allowed rfl rfl, allowed rfl rfl⟩

/-- Operands beyond the limit of DS, and a stack segment of one byte. -/
theorem witness_OperandFaultsAreDelivered :
    let s := base.setSeg .ds { flat with limit := 0x300#32 }
    let u := base.setSeg .ss { flat with limit := 0#32 }
    (∃ x v e t, aluParts s.pfx (.subRmR (.mem atBx) .ecx) = some x ∧ s.allows .g386 (x.op.writes && isMem x.dst) ∧
      resolveRM x.w x.op.writes s.pfx x.dst s = .error (.fault v e) t) ∧
    (∃ w dst src a v e t t', movParts s.pfx (.movRmR (.mem atBx) .ecx) = some (w, dst, src) ∧ s.allows .g386 false ∧
      src.get w s.pfx s = .ok a t ∧ writeRM w s.pfx dst a t = .error (.fault v e) t') ∧
    (∃ w dst src v e t, movParts s.pfx (.movRRm (.mem atBx) .ecx) = some (w, dst, src) ∧ src.get w s.pfx s = .error (.fault v e) t) ∧
    ∃ src a v e t t', pushParts (.pushR .eax) = some src ∧ u.allows .g386 false ∧ src.get u.pfx.osz.width u.pfx u = .ok a t ∧
      push a t = .error (.fault v e) t' :=
  ⟨⟨_, _, _, _, rfl, allowed rfl rfl, rfl⟩, ⟨_, _, _, _, _, _, _, _, rfl, allowed rfl rfl, rfl, rfl⟩, ⟨_, _, _, _, _, _, rfl, rfl⟩,
    _, _, _, _, _, _, rfl, allowed rfl rfl, rfl, rfl⟩

/-- A memory source of an ALU instruction, both operands of TEST, and the operand of NEG, SHL, DIV and PUSH beyond the limit of DS. -/
theorem witness_OperandFaultsAreDelivered_sources :
    let s := base.setSeg .ds { flat with limit := 0x300#32 }
    (∃ x pl a s1 s2 v e t, aluParts s.pfx (.addRRm (.mem atBx) .ecx) = some x ∧ s.allows .g386 (x.op.writes && isMem x.dst) ∧
      resolveRM x.w x.op.writes s.pfx x.dst s = .ok pl s1 ∧ readPlace x.w pl s1 = .ok a s2 ∧ x.src.get x.w s.pfx s2 = .error (.fault v e) t) ∧
    (∃ w dst src v e t, testParts s.pfx (.testRmR (.mem atBx) .ecx) = some (w, dst, src) ∧ readRM w s.pfx dst s = .error (.fault v e) t) ∧
    (∃ op w rm v e t, unaryParts s.pfx (.negRm (.mem atBx)) = some (op, w, rm) ∧ s.allows .g386 (lockAllowed (.negRm (.mem atBx))) ∧
      resolveRM w true s.pfx rm s = .error (.fault v e) t) ∧
    (∃ op w rm count v e t, shiftParts s.pfx (.shlRmCl (.mem atBx)) = some (op, w, rm, count) ∧
      resolveRM w true s.pfx rm s = .error (.fault v e) t) ∧
    (∃ signed w rm v e t, divParts s.pfx (.divRm (.mem atBx)) = some (signed, w, rm) ∧ readRM w s.pfx rm s = .error (.fault v e) t) ∧
    ∃ src v e t, pushParts (.pushRm (.mem atBx)) = some src ∧ s.allows .g386 false ∧
      src.get s.pfx.osz.width s.pfx s = .error (.fault v e) t :=
  ⟨⟨_, _, _, _, _, _, _, _, rfl, allowed rfl rfl, rfl, rfl, rfl⟩, ⟨_, _, _, _, _, _, rfl, rfl⟩, ⟨_, _, _, _, _, _, rfl, allowed rfl rfl, rfl⟩,
    ⟨_, _, _, _, _, _, _, rfl, rfl⟩, ⟨_, _, _, _, _, _, rfl, rfl⟩, _, _, _, _, rfl, allowed rfl rfl, rfl⟩

theorem witness_FlagsFrame : base.wf = true ∧ base.pmRefuses ∧ ∃ t, exec (.addRmR (.reg .eax) .ecx) base = .next t ∧ sameDeliveries base t :=
  ⟨by decide +kernel, refuses rfl, _, rfl, rfl⟩

theorem witness_RegistersFrame : base.pmRefuses ∧ (stringParts base.pfx .movsb).isSome = true ∧ base.pfx.rep = .none ∧
    ∃ t, exec .movsb base = .next t ∧ sameDeliveries base t := ⟨refuses rfl, rfl, rfl, _, rfl, rfl⟩

theorem witness_ControlFrame : base.pmRefuses ∧ base.pg = false ∧ isTransfer (.addRmR (.reg .eax) .ecx) = false ∧
    stringParts base.pfx (.addRmR (.reg .eax) .ecx) = none ∧
    ∃ t, exec (.addRmR (.reg .eax) .ecx) base = .next t ∧ t.unmarked = true ∧ sameDeliveries base t :=
  ⟨refuses rfl, rfl, rfl, rfl, _, rfl, rfl, rfl⟩

theorem witness_NoStoreKeepsMemory : base.pmRefuses ∧ base.pg = false ∧ modrmStore base.pfx (.cmpRmR (.mem atBx) .ecx) = none ∧
    storesElsewhere (.cmpRmR (.mem atBx) .ecx) = false ∧ ∃ t, exec (.cmpRmR (.mem atBx) .ecx) base = .next t ∧ sameDeliveries base t :=
  ⟨refuses rfl, rfl, rfl, rfl, _, rfl, rfl⟩

theorem witness_ModrmStoreFrame : ∃ n m sp s1 t, modrmStore base.pfx (.xaddRmR (.mem atBx) .ecx) = some (n, m) ∧
    resolveMem (effSeg base.pfx m) (effOffset base m) n true base = .ok sp s1 ∧ exec (.xaddRmR (.mem atBx) .ecx) base = .next t ∧
    sameDeliveries base t ∧ base.pg = false := ⟨_, _, _, _, _, rfl, rfl, rfl, rfl, rfl⟩

theorem witness_OtherStoresFrame : base.pg = false ∧ (∀ i ∈ [Instr.movMoffsAl 0x300#32, .movMoffsEax 0x300#32, .movsb, .stosw, .pushR .eax,
    .pushGs, .pushf, .callRelz 0#32, .pusha, .callPtr 0#32 0#16, .popRm (.mem atBx), .btcRmR (.mem atBx) .ecx],
    ∃ t, exec i base = .next t ∧ sameDeliveries base t) :=
  ⟨rfl, fun i h => completes_spec ((List.all_eq_true (p := completes)).mp (by decide +kernel) i h)⟩

/-- A far CALL in protected mode that its parameter refuses. -/
theorem witness_OtherStoresFrame_protected : prot.pg = false ∧ prot.pe = true ∧ prot.cfg.pmFarTransfer = .refuse ∧
    (∃ target, farParts prot.pfx (.callPtr 0#32 0#16) = some (.call, target)) ∧
    ∃ t, exec (.callPtr 0#32 0#16) prot = .next t ∧ sameDeliveries prot t := ⟨rfl, rfl, rfl, ⟨_, rfl⟩, _, rfl, rfl⟩

/-- A launch with IF = 1 and a ROM handler over its top page starts a run; one whose interrupt line is driven does not come from it. -/
theorem test_starts : (State.starts (applyEnv [.setPageHandler 0xFFFFF 1 .rom]
    (launch Config.examples base.regs 0#32 0x100#32 0x202#32 (fun _ => 0#16) []))) ∧
    [EnvAct.setIntr (some 8#8), .mapPage 0 1 true, .envWrite 0 0].any EnvAct.configures = false :=
  ⟨⟨_, _, rfl, .inr ⟨_, _, _, _, _, _, rfl, rfl⟩⟩, rfl⟩

/-! Outcomes, refusals' reasons, checked accesses and the ends of runs. -/

/-- A delivered #DE is the step's outcome and no mark (60_exceptions.md R716). -/
theorem test_outcome_fault : gives (start [0xF6, 0xF2] [] id) (fun t => t.outcome == .fault (.guest 0#8 none) && t.unmarked) = true := by
  decide +kernel

/-- INT3 continues (R716). -/
theorem test_outcome_int3 : gives (start [0xCC] [] id) (fun t => t.outcome == .cont && t.unmarked) = true := by decide +kernel

/-- HLT is `Halted` (R731). -/
theorem test_outcome_hlt : gives (start [0xF4] [] id) (fun t => t.outcome == .halted) = true := by decide +kernel

/-- A refused IRET holds its bytes and the stage (00_scope.md R27). -/
theorem test_refusal_reason : gives (start [0x66, 0xCF] [] fun s => { s with cr0 := 0x60000011#32 }) (fun t =>
    t.outcome == .refused (.pmIret [0x66, 0xCF]) && t.refused == some (.pmIret [0x66, 0xCF])) = true ∧
    (Refusal.pmIret [0x66, 0xCF]).stage = .execute := by decide +kernel

/-- A checked read of an absent page fails and leaves CR2 alone; a checked write to a trapping ROM page is no `fail` (20_memory.md R105, R108). -/
theorem test_checked : okThen (checkedRead 0x400000#32 1 { paged with cfg := still }) (fun v t => v == none && t.cr2 == 0#32) = true ∧
    (match checkedWrite 0x2000#32 [1#8] { pages with cfg := { still with romPolicy := .trap } } with
      | .error (.model f) _ => f == .romWrite 0x2000#32
      | _ => false) = true := by decide +kernel

/-- A run ends at HLT with IF = 0, and with IF = 1 unless an interrupt waits (70_reset_and_hazards.md R780). -/
theorem test_run_ends : let ended := fun (r : RunResult) => match r with
      | .ended t => t.halted
      | .bound _ => false
    ended (runFrom [[], [], []] (start [0x90, 0xF4] [] id)) = true ∧
      ended (runFrom [[], []] (start [0xF4] [] fun s => { s with eflags := 0x202#32 })) = true ∧
      ended (runFrom [[.setIntr (some 8#8)]] (start [0xF4] [] fun s => { s with eflags := 0x202#32 })) = false ∧
      ended (runFrom [[], [], []] (start [0xEB, 0xFE] [] id)) = false := by decide +kernel

end Sys2Proof.Tests
end

section
/-! SUPPORT. What every instruction body does, said once for all relations between states: a relation that holds of the updates an ordinary body is
made of holds of the whole body, and the instructions that do more (segment loads, far transfers, IRET, IF and IOPL, the control registers, HLT)
are listed with their bodies, so that an invariant has to look at those alone. -/

namespace Sys2Proof.Machine

variable {α β : Type} {R : State → State → Prop}

/-- The relation holds of every update an ordinary instruction is made of: accesses, and writes of general registers, eip and the flags that any
program may write. -/
structure Routine (R : State → State → Prop) : Prop where
  steady : Steady R
  touches : ∀ s t : State, Touches s t → R s t
  regs : ∀ (s : State) (f : RegFile) (w : Word), R s { s with regs := f, written := w }
  eip : ∀ (s : State) (v : Word), R s { s with eip := v }
  status : ∀ (s : State) (st : Status), R s (s.setStatus st)
  flag : ∀ (s : State) (f : Flag) (b : Bool), f = .cf ∨ f = .zf ∨ f = .df → R s (s.setFlag f b)
  /-- SAHF. -/
  lowFlags : ∀ (s : State) (v : Word), R s (s.setEflags v 0xD5#32)

namespace Routine

variable (h : Routine R)
include h

theorem access {a : Act α} (ha : Keeps Touches a) : Keeps R a := ha.mono h.touches

theorem seq {a : Act α} {f : α → Act β} (ha : Keeps R a) (hf : ∀ v, Keeps R (f v)) : Keeps R (a >>= f) := ha.bind h.steady hf

theorem value (v : α) : Keeps R (pure v : Act α) := .pure h.steady v

theorem looks (f : State → α) : Keeps R (look f) := .look h.steady f

theorem stops (e : Stop) : Keeps R (stop e : Act α) := .stop h.steady e

theorem draws : Keeps R drawBit := h.access drawBit_touches

theorem drawsIf (c : Bool) : Keeps R (drawIf c) := .ite h.draws (h.value _)

theorem drawsStatus : Keeps R drawStatus :=
  h.seq h.draws fun _ => h.seq h.draws fun _ => h.seq h.draws fun _ => h.seq h.draws fun _ => h.seq h.draws fun _ => h.seq h.draws fun _ =>
    h.value _

theorem settles (b : Option Bool) : Keeps R (settle b) := by
  cases b with
  | some b => exact h.value b
  | none => exact h.draws

theorem onlyIf {c : Bool} {a : Act Unit} (ha : Keeps R a) : Keeps R (onlyIf c a) := .ite ha (h.value _)

theorem setGpr (s : State) (w : Width) (r : Reg) (v : BitVec w.bits) : R s (s.setGpr w r v) := h.regs s _ _

theorem setStackTop (s : State) (v : Word) : R s (s.setStackTop v) := by
  unfold State.setStackTop
  split
  · exact h.setGpr ..
  · exact h.setGpr ..

theorem setsStatus (st : State → Status) : Keeps R (update fun s => s.setStatus (st s)) := .update fun s => h.status s (st s)

theorem readsReg (w : Width) (r : Reg) : Keeps R (readReg w r) := h.looks _

theorem writesReg (w : Width) (r : Reg) (v : BitVec w.bits) : Keeps R (writeReg w r v) := .update fun s => h.setGpr s w r v

theorem setsAccPair (w : Width) (hi lo : BitVec w.bits) : Keeps R (update (setAccPair w hi lo)) :=
  .update fun s => h.steady.trans _ _ _ (h.setGpr s ..) (h.setGpr ..)

theorem readsRM (w : Width) (p : Pfx) (rm : RM) : Keeps R (readRM w p rm) := h.access (readRM_touches w p rm)

theorem resolvesRM (w : Width) (b : Bool) (p : Pfx) (rm : RM) : Keeps R (resolveRM w b p rm) := h.access (resolveRM_touches w b p rm)

theorem readsPlace (w : Width) (pl : Place) : Keeps R (readPlace w pl) := h.access (readPlace_touches w pl)

theorem writesPlace (w : Width) (pl : Place) (v : BitVec w.bits) : Keeps R (writePlace w pl v) := by
  cases pl with
  | reg r => exact h.writesReg w r v
  | mem sp => exact h.access (writeSpan_touches sp _)

theorem writesRM (w : Width) (p : Pfx) (rm : RM) (v : BitVec w.bits) : Keeps R (writeRM w p rm v) :=
  h.seq (h.resolvesRM ..) fun _ => h.writesPlace ..

theorem getsSrc (w : Width) (p : Pfx) (x : Src) : Keeps R (x.get w p) := h.access (Src.get_touches w p x)

theorem reads (n : Nat) (r : SegReg) (off : Word) : Keeps R (memReadBits n r off) := h.access (memReadBits_touches n r off)

theorem writes {n : Nat} (r : SegReg) (off : Word) (v : BitVec n) : Keeps R (memWriteBits r off v) := h.access (memWriteBits_touches r off v)

theorem readsFarPointer (p : Pfx) (m : Mem) : Keeps R (readFarPointer p m) :=
  h.seq (h.looks _) fun _ => h.seq (h.reads ..) fun _ => h.seq (h.reads ..) fun _ => h.value _

theorem pushes {n : Nat} (v : BitVec n) : Keeps R (push v) :=
  h.seq (h.looks _) fun _ => h.seq (h.writes ..) fun _ => .update fun s => h.setStackTop s _

theorem pops (n : Nat) : Keeps R (pop n) :=
  h.seq (h.access (readTop_touches n)) fun _ => h.seq (.update fun s => h.setStackTop s _) fun _ => h.value _

theorem pushesSel (sz : Size) (v : Sel) : Keeps R (pushSel sz v) := by
  cases sz with
  | w16 => exact h.pushes v
  | w32 =>
    refine h.seq (h.looks _) fun _ => h.seq (h.access (resolveMem_touches ..)) fun _ => h.seq h.draws fun _ => h.seq ?_ fun _ =>
      .update fun s => h.setStackTop s _
    exact .ite (h.access (writeSpan_touches ..)) (h.access (writeSpan_touches ..))

theorem targets (osz : Size) (v : Word) : Keeps R (nearTarget osz v) := h.seq (h.looks _) fun _ => .ite (h.stops _) (h.value _)

theorem jumps (t : Word) : Keeps R (jumpTo t) := .update fun s => h.eip s t

theorem checksPrivilege : Keeps R privCheck := h.seq (h.looks _) fun _ => .ite (h.stops _) (h.value _)

theorem moves {a : Act α} {f : α → Act Unit} (ha : Keeps R a) (hf : ∀ v, Keeps R (f v)) : Keeps R (movRead a f) := h.seq ha hf

/-! The bodies of the ordinary instructions. -/

theorem alu (op : AluOp) (w : Width) (p : Pfx) (dst : RM) (src : Src) : Keeps R (alu op w p dst (src.get w p)) :=
  h.seq (h.resolvesRM ..) fun _ => h.seq (h.readsPlace ..) fun _ => h.seq (h.getsSrc ..) fun _ => h.seq (h.looks _) fun _ =>
    h.seq (h.onlyIf (h.writesPlace ..)) fun _ => h.seq (h.drawsIf _) fun _ => h.setsStatus _

theorem test (w : Width) (p : Pfx) (dst : RM) (src : Src) : Keeps R (test w p dst (src.get w p)) :=
  h.seq (h.readsRM ..) fun _ => h.seq (h.getsSrc ..) fun _ => h.seq h.draws fun _ => h.setsStatus _

theorem modify (w : Width) (p : Pfx) (dst : RM) (f : BitVec w.bits → BitVec w.bits) (st : Status → BitVec w.bits → Status) :
    Keeps R (modify w p dst f st) :=
  h.seq (h.resolvesRM ..) fun _ => h.seq (h.readsPlace ..) fun _ => h.seq (h.writesPlace ..) fun _ => h.setsStatus _

theorem unary (op : UnaryOp) (w : Width) (p : Pfx) (rm : RM) : Keeps R (unaryBody op w p rm) := by
  cases op with
  | inc => exact h.modify w p rm (fun a => addResult a 1#w.bits false) fun old a => { flagsAdd a 1#w.bits false with cf := old.cf }
  | dec => exact h.modify w p rm (fun a => subResult a 1#w.bits false) fun old a => { flagsSub a 1#w.bits false with cf := old.cf }
  | not => exact h.modify w p rm (fun a => ~~~a) fun old _ => old
  | neg => exact h.modify w p rm (fun a => subResult 0#w.bits a false) fun _ a => flagsSub 0#w.bits a false

theorem setsMulFlags (b : Bool) : Keeps R (mulFlags b) := h.seq h.drawsStatus fun _ => h.setsStatus _

theorem multiply (signed : Bool) (w : Width) (p : Pfx) (rm : RM) : Keeps R (if signed then imul w p rm else mul w p rm) := by
  refine .ite ?_ ?_
  · exact h.seq (h.readsRM ..) fun _ => h.seq (h.readsReg ..) fun _ => h.seq (h.setsAccPair ..) fun _ => h.setsMulFlags _
  · exact h.seq (h.readsRM ..) fun _ => h.seq (h.readsReg ..) fun _ => h.seq (h.setsAccPair ..) fun _ => h.setsMulFlags _

theorem multiplyTo (w : Width) (p : Pfx) (r : Reg) (x y : Src) : Keeps R (imulTo w r (x.get w p) (y.get w p)) :=
  h.seq (h.getsSrc ..) fun _ => h.seq (h.getsSrc ..) fun _ => h.seq (h.writesReg ..) fun _ => h.setsMulFlags _

theorem divideBy (w : Width) (p : Pfx) (rm : RM) (f : BitVec (w.bits + w.bits) → BitVec w.bits → Option (BitVec w.bits × BitVec w.bits)) :
    Keeps R (divideBy w p rm f) := by
  refine h.seq (h.readsRM ..) fun s => h.seq (h.looks _) fun n => ?_
  split
  · exact h.stops _
  · exact h.seq (h.setsAccPair ..) fun _ => h.seq h.drawsStatus fun _ => h.setsStatus _

theorem shiftsWrite (w : Width) (rotate : Bool) (pl : Place) (out : ShiftOut w.bits) (c : Nat) : Keeps R (shiftWrite w rotate pl out c) :=
  h.seq (h.settles _) fun _ => h.seq (h.settles _) fun _ => h.seq (h.drawsIf _) fun _ => h.seq (h.writesPlace ..) fun _ => h.setsStatus _

theorem shift (op : ShiftOp) (w : Width) (p : Pfx) (rm : RM) (count : State → Byte) : Keeps R (shift op w p rm (look count)) :=
  h.seq (h.looks _) fun _ => h.seq (h.resolvesRM ..) fun _ => h.seq (h.readsPlace ..) fun _ => h.seq (h.looks _) fun _ =>
    .ite (h.value _) (h.shiftsWrite ..)

theorem doubleShift (left : Bool) (w : Width) (p : Pfx) (rm : RM) (r : Reg) (count : State → Byte) :
    Keeps R (doubleShift left w p rm r (look count)) := by
  refine h.seq (h.looks _) fun _ => h.seq (h.resolvesRM ..) fun _ => h.seq (h.readsPlace ..) fun _ => h.seq (h.readsReg ..) fun _ =>
    .ite (h.value _) (.ite ?_ (h.shiftsWrite ..))
  exact h.seq (h.access (drawBits_touches _)) fun _ => h.seq h.drawsStatus fun _ => h.seq (h.writesPlace ..) fun _ => h.setsStatus _

theorem bitTest (op : BitOp) (w : Width) (p : Pfx) (rm : RM) (k : Reg ⊕ Byte) : Keeps R (bitTest op w (bitTarget op w p rm k)) := by
  have target : Keeps R (bitTarget op w p rm k) := by
    cases k with
    | inl r =>
      refine h.seq (h.readsReg ..) fun _ => ?_
      cases rm with
      | reg q => exact h.value _
      | mem m => exact h.seq (h.looks _) fun _ => h.seq (h.access (resolveMem_touches ..)) fun _ => h.value _
    | inr imm => exact h.seq (h.resolvesRM ..) fun _ => h.value _
  exact h.seq target fun _ => h.seq (h.readsPlace ..) fun _ => h.seq (h.onlyIf (h.writesPlace ..)) fun _ => h.seq h.drawsStatus fun _ =>
    h.setsStatus _

theorem bitScan (w : Width) (p : Pfx) (rm : RM) (r : Reg) (find : BitVec w.bits → Option Nat) : Keeps R (bitScan w p rm r find) := by
  refine h.seq (h.readsRM ..) fun _ => h.seq h.drawsStatus fun _ => ?_
  split
  · exact h.seq (h.access (drawBits_touches _)) fun _ => h.seq (h.writesReg ..) fun _ => h.setsStatus _
  · exact h.seq (h.writesReg ..) fun _ => h.setsStatus _

theorem byteSwap (osz : Size) (r : Reg) : Keeps R (byteSwap osz r) := by
  cases osz with
  | w16 => exact h.seq (h.access (drawBits_touches _)) fun _ => h.writesReg ..
  | w32 => exact .update fun s => h.setGpr s ..

theorem advances (w : Width) (p : Pfx) (r : Reg) : Keeps R (update (advance w p r)) := .update fun s => h.setGpr s ..

theorem element (op : StringOp) (w : Width) (p : Pfx) : Keeps R (op.element w p) := by
  have source : Keeps R (readSource w p) := h.seq (h.looks _) fun _ => h.reads ..
  have dest : Keeps R (readDest w p) := h.seq (h.looks _) fun _ => h.reads ..
  have store (v : BitVec w.bits) : Keeps R (writeDest w p v) := h.seq (h.looks _) fun _ => h.writes ..
  cases op with
  | mov => exact h.seq source fun _ => h.seq (store _) fun _ => h.seq (h.advances ..) fun _ => h.advances ..
  | cmp =>
    exact h.seq source fun _ => h.seq dest fun _ => h.seq (h.setsStatus _) fun _ => h.seq (h.advances ..) fun _ => h.advances ..
  | sto => exact h.seq (h.readsReg ..) fun _ => h.seq (store _) fun _ => h.advances ..
  | lod => exact h.seq source fun _ => h.seq (h.writesReg ..) fun _ => h.advances ..
  | sca => exact h.seq (h.readsReg ..) fun _ => h.seq dest fun _ => h.seq (h.setsStatus _) fun _ => h.advances ..

theorem repeated {p : Pfx} {stopNow : State → Bool} {a : Act Unit} (ha : Keeps R a) : Keeps R (repeated p stopNow a) := by
  have step : Keeps R (do
      let cnt ← look (addrReg p.asz .ecx)
      if cnt = 0#32 then pure ()
      else do
        a
        update (setAddrReg p.asz .ecx (cnt - 1#32))
        update fun s => if cnt = 1#32 ∨ stopNow s then s else { s with eip := s.eipStart }) := by
    refine h.seq (h.looks _) fun _ => .ite (h.value _) (h.seq ha fun _ => h.seq (.update fun s => h.setGpr s ..) fun _ => .update fun s => ?_)
    split
    · exact h.steady.refl _
    · exact h.eip s _
  unfold Machine.repeated
  cases p.rep with
  | none => exact ha
  | repe => exact step
  | repne => exact step

theorem compareExchange (w : Width) (p : Pfx) (rm : RM) (r : Reg) : Keeps R (compareExchange w p rm r) :=
  h.seq (h.resolvesRM ..) fun _ => h.seq (h.readsPlace ..) fun _ => h.seq (h.readsReg ..) fun _ => h.seq (h.readsReg ..) fun _ =>
    h.seq (h.setsStatus _) fun _ => .ite (h.writesPlace ..) (h.seq (h.writesPlace ..) fun _ => h.writesReg ..)

theorem exchangeAdd (w : Width) (p : Pfx) (rm : RM) (r : Reg) : Keeps R (exchangeAdd w p rm r) :=
  h.seq (h.resolvesRM ..) fun _ => h.seq (h.readsPlace ..) fun _ => h.seq (h.readsReg ..) fun _ => h.seq (h.writesReg ..) fun _ =>
    h.seq (h.writesPlace ..) fun _ => h.setsStatus _

theorem compareExchange8 (p : Pfx) (m : Mem) : Keeps R (compareExchange8 p m) := by
  have setZf (b : Bool) : Keeps R (update fun s => s.setFlag .zf b) := .update fun s => h.flag s .zf b (.inr (.inl rfl))
  refine h.seq (h.looks _) fun _ => h.seq (h.access (resolveMem_touches ..)) fun _ => h.seq (h.access (readSpan_touches _)) fun _ =>
    h.seq (h.looks _) fun _ => h.seq (h.looks _) fun _ => .ite ?_ ?_
  · exact h.seq (setZf true) fun _ => h.access (writeSpan_touches ..)
  · exact h.seq (setZf false) fun _ => h.seq (h.access (writeSpan_touches ..)) fun _ =>
      .update fun s => h.steady.trans _ _ _ (h.setGpr s ..) (h.setGpr ..)

theorem exchange (w : Width) (p : Pfx) (rm : RM) (r : Reg) : Keeps R (exchange w p rm r) :=
  h.seq (h.resolvesRM ..) fun _ => h.seq (h.readsPlace ..) fun _ => h.seq (h.readsReg ..) fun _ => h.seq (h.writesPlace ..) fun _ =>
    h.writesReg ..

theorem loadMoffs (w : Width) (p : Pfx) (off : Word) : Keeps R (loadMoffs w p off) := h.seq (h.reads ..) fun _ => h.writesReg ..

theorem storeMoffs (w : Width) (p : Pfx) (off : Word) : Keeps R (storeMoffs w p off) := h.seq (h.readsReg ..) fun _ => h.writes ..

theorem convertAcc (osz : Size) : Keeps R (convertAcc osz) := by
  cases osz with
  | w16 => exact .update fun s => h.setGpr s ..
  | w32 => exact .update fun s => h.setGpr s ..

theorem pushAll (w : Width) : Keeps R (pushAll w) := by
  have one (r : Reg) : Keeps R (movRead (readReg w r) push) := h.moves (h.readsReg w r) h.pushes
  exact h.seq (h.readsReg ..) fun _ => h.seq (one _) fun _ => h.seq (one _) fun _ => h.seq (one _) fun _ => h.seq (one _) fun _ =>
    h.seq (h.pushes _) fun _ => h.seq (one _) fun _ => h.seq (one _) fun _ => one _

theorem popAll (w : Width) : Keeps R (popAll w) := by
  have one (r : Reg) : Keeps R (movRead (pop w.bits) (writeReg w r)) := h.moves (h.pops _) fun v => h.writesReg w r v
  exact h.seq (one _) fun _ => h.seq (one _) fun _ => h.seq (one _) fun _ => h.seq (h.moves (h.pops _) fun _ => h.value _) fun _ =>
    h.seq (one _) fun _ => h.seq (one _) fun _ => h.seq (one _) fun _ => one _

theorem leaveFrame (w : Width) : Keeps R (leaveFrame w) :=
  h.seq (.update fun s => h.setStackTop s _) fun _ => h.seq (h.pops _) fun _ => h.writesReg ..

theorem jumpsNear (osz : Size) (v : Word) : Keeps R (jumpNear osz v) := h.seq (h.targets ..) fun _ => h.jumps _

theorem branchIf (osz : Size) (cond : State → Bool) (rel : Word) : Keeps R (branchIf osz cond rel) :=
  h.seq (h.looks _) fun _ => h.seq (h.looks _) fun _ => .ite (h.jumpsNear ..) (h.value _)

theorem loopIf (p : Pfx) (cond : State → Bool) (rel : Word) : Keeps R (loopIf p cond rel) :=
  h.seq (.update fun s => h.setGpr s ..) fun _ => h.branchIf ..

theorem callTo (osz : Size) (t : Word) : Keeps R (callTo osz t) := h.seq (h.looks _) fun _ => h.seq (h.pushes _) fun _ => h.jumps _

theorem returnNear (p : Pfx) (imm : BitVec 16) : Keeps R (returnNear p imm) :=
  h.seq (h.pops _) fun _ => h.seq (h.targets ..) fun _ => h.seq (.update fun s => h.setStackTop s _) fun _ => h.jumps _

theorem pushFlags (osz : Size) : Keeps R (pushFlags osz) := by
  refine h.seq (h.looks _) fun _ => ?_
  cases osz with
  | w16 => exact h.pushes _
  | w32 => exact h.pushes _

theorem setByte (cc : Cond) (p : Pfx) (rm : RM) : Keeps R (setByte cc p rm) := h.seq (h.looks _) fun _ => h.writesRM ..

theorem storeWord (p : Pfx) (rm : RM) (v : BitVec 16) : Keeps R (storeWord p rm v) := by
  unfold Machine.storeWord
  split
  · exact h.seq (h.access (drawBits_touches _)) fun _ => h.writesReg ..
  · exact h.writesReg ..
  · exact h.writesRM ..

theorem readCr (cr : State → Word) (r : Reg) : Keeps R (readCr cr r) := h.seq h.checksPrivilege fun _ => .update fun s => h.setGpr s ..

end Routine

/-- The bodies of the instructions that do more than the updates of `Routine`: they load a segment register, transfer far, write IF, IOPL, a control
register or the TLB, or halt (spec/47_flags.md R617, R622; spec/48_segment_loads.md; spec/46_control_transfer.md R564 to R569;
spec/49_system.md). -/
def specialBody (p : Pfx) : Instr → Option (Act Unit)
  | .movSregRm16 rm r => some (moveToSeg p rm r)
  | .popEs => some (popSegReg p.osz .es)
  | .popSs => some (popSegReg p.osz .ss)
  | .popDs => some (popSegReg p.osz .ds)
  | .popFs => some (popSegReg p.osz .fs)
  | .popGs => some (popSegReg p.osz .gs)
  | .ldsRMemFar m r => some (loadFarPointer p m r .ds)
  | .lesRMemFar m r => some (loadFarPointer p m r .es)
  | .lssRMemFar m r => some (loadFarPointer p m r .ss)
  | .lfsRMemFar m r => some (loadFarPointer p m r .fs)
  | .lgsRMemFar m r => some (loadFarPointer p m r .gs)
  | .jmpPtr off sel => some (farJump p (pure (off, sel)))
  | .jmpMemFar m => some (farJump p (readFarPointer p m))
  | .callPtr off sel => some (farCall p (pure (off, sel)))
  | .callMemFar m => some (farCall p (readFarPointer p m))
  | .retf => some (returnFar p .ret 0#16)
  | .retfIw imm => some (returnFar p (.retfImm imm) imm)
  | .iret => some (interruptReturn p)
  | .popf => some (popFlags p.osz)
  | .cli => some clearInterrupt
  | .sti => some setInterrupt
  | .movCr0R32 r => some (writeCr0 r)
  | .movCr2R32 r => some (writeCr2 r)
  | .movCr3R32 r => some (writeCr3 r)
  | .lmswRm16 rm => some (loadStatusWord p rm)
  | .invlpgM m => some (invalidatePage m)
  | .clts => some clearTaskSwitched
  | .hlt => some halt
  | _ => none

/-- The instruction is a body behind its generation gate and its LOCK rule, and the body keeps the relation. -/
def BodyKeeps (R : State → State → Prop) (i : Instr) (s : State) : Prop :=
  ∃ (gen : CpuGen) (lockable : Bool) (body : Pfx → Act Unit), exec i s = perform gen lockable body s ∧ Keeps R (body s.pfx)

theorem BodyKeeps.of {i : Instr} {s : State} {gen : CpuGen} {lockable : Bool} {body : Pfx → Act Unit}
    (e : exec i s = perform gen lockable body s) (k : Keeps R (body s.pfx)) : BodyKeeps R i s := ⟨gen, lockable, body, e, k⟩

/-- A relation that holds of the updates of ordinary instructions, and of the bodies of the special ones, holds of every instruction's body. -/
theorem exec_bodyKeeps (h : Routine R) (i : Instr) (s : State) (hs : ∀ a, specialBody s.pfx i = some a → Keeps R a) : BodyKeeps R i s := by
  cases i with
  | addRm8R8 | addRmR | addR8Rm8 | addRRm | addAlIb | addEaxIz | addRm8Ib | addRmIz | addRmIbs
  | orRm8R8 | orRmR | orR8Rm8 | orRRm | orAlIb | orEaxIz | orRm8Ib | orRmIz | orRmIbs
  | adcRm8R8 | adcRmR | adcR8Rm8 | adcRRm | adcAlIb | adcEaxIz | adcRm8Ib | adcRmIz | adcRmIbs
  | sbbRm8R8 | sbbRmR | sbbR8Rm8 | sbbRRm | sbbAlIb | sbbEaxIz | sbbRm8Ib | sbbRmIz | sbbRmIbs
  | andRm8R8 | andRmR | andR8Rm8 | andRRm | andAlIb | andEaxIz | andRm8Ib | andRmIz | andRmIbs
  | subRm8R8 | subRmR | subR8Rm8 | subRRm | subAlIb | subEaxIz | subRm8Ib | subRmIz | subRmIbs
  | xorRm8R8 | xorRmR | xorR8Rm8 | xorRRm | xorAlIb | xorEaxIz | xorRm8Ib | xorRmIz | xorRmIbs
  | cmpRm8R8 | cmpRmR | cmpR8Rm8 | cmpRRm | cmpAlIb | cmpEaxIz | cmpRm8Ib | cmpRmIz | cmpRmIbs => exact .of (exec_alu rfl) (h.alu ..)
  | testRm8R8 | testRmR | testAlIb | testEaxIz | testRm8Ib | testRmIz => exact .of (exec_test rfl) (h.test ..)
  | incR | decR | incRm8 | incRm | decRm8 | decRm | notRm8 | notRm | negRm8 | negRm => exact .of (exec_unary rfl) (h.unary ..)
  | mulRm8 | mulRm | imulRm8 | imulRm => exact .of (exec_mul rfl) (h.multiply ..)
  | imulRRm | imulRRmIz | imulRRmIbs => exact .of (exec_imul rfl) (h.multiplyTo ..)
  | divRm8 | divRm | idivRm8 | idivRm => exact .of (exec_div rfl) (.ite (h.divideBy ..) (h.divideBy ..))
  | rolRm8Ib | rolRm8By1 | rolRm8Cl | rolRmIb | rolRmBy1 | rolRmCl | rorRm8Ib | rorRm8By1 | rorRm8Cl | rorRmIb | rorRmBy1 | rorRmCl
  | rclRm8Ib | rclRm8By1 | rclRm8Cl | rclRmIb | rclRmBy1 | rclRmCl | rcrRm8Ib | rcrRm8By1 | rcrRm8Cl | rcrRmIb | rcrRmBy1 | rcrRmCl
  | shlRm8Ib | shlRm8By1 | shlRm8Cl | shlRmIb | shlRmBy1 | shlRmCl | shrRm8Ib | shrRm8By1 | shrRm8Cl | shrRmIb | shrRmBy1 | shrRmCl
  | sarRm8Ib | sarRm8By1 | sarRm8Cl | sarRmIb | sarRmBy1 | sarRmCl => exact .of (exec_shift rfl) (h.shift ..)
  | shldRmRIb | shldRmRCl | shrdRmRIb | shrdRmRCl => exact .of (exec_double rfl) (h.doubleShift ..)
  | btRmR | btRmIb | btsRmR | btsRmIb | btrRmR | btrRmIb | btcRmR | btcRmIb => exact .of (exec_bit rfl) (h.bitTest ..)
  | movsb | movsw | cmpsb | cmpsw | stosb | stosw | lodsb | lodsw | scasb | scasw => exact .of (exec_string rfl) (h.repeated (h.element ..))
  | movRm8R8 | movRmR | movR8Rm8 | movRRm | movRm8Ib | movRmIz | movR8Ib | movRIz => exact .of (exec_mov rfl) (h.moves (h.getsSrc ..) fun _ => h.writesRM ..)
  | xchgRm8R8 | xchgRmR | xchgEaxR => exact .of (exec_xchg rfl) (h.exchange ..)
  | movzxRRm8 | movzxRRm16 | movsxRRm8 | movsxRRm16 => exact .of (exec_extend rfl) (h.seq (h.readsRM ..) fun _ => h.writesReg ..)
  | pushR | pushIz | pushIbs | pushRm => exact .of (exec_push rfl) (h.moves (h.getsSrc ..) fun _ => h.pushes _)
  | pushEs | pushCs | pushSs | pushDs | pushFs | pushGs => exact .of (exec_pushSeg rfl) (h.seq (h.looks _) fun _ => h.pushesSel ..)
  | movSregRm16 => exact .of (exec_movSregRm16_eq s _ _) (hs _ rfl)
  | popEs => exact .of (exec_popEs_eq s) (hs _ rfl)
  | popSs => exact .of (exec_popSs_eq s) (hs _ rfl)
  | popDs => exact .of (exec_popDs_eq s) (hs _ rfl)
  | popFs => exact .of (exec_popFs_eq s) (hs _ rfl)
  | popGs => exact .of (exec_popGs_eq s) (hs _ rfl)
  | ldsRMemFar => exact .of (exec_ldsRMemFar_eq s _ _) (hs _ rfl)
  | lesRMemFar => exact .of (exec_lesRMemFar_eq s _ _) (hs _ rfl)
  | lssRMemFar => exact .of (exec_lssRMemFar_eq s _ _) (hs _ rfl)
  | lfsRMemFar => exact .of (exec_lfsRMemFar_eq s _ _) (hs _ rfl)
  | lgsRMemFar => exact .of (exec_lgsRMemFar_eq s _ _) (hs _ rfl)
  | jmpPtr => exact .of (exec_jmpPtr_eq s _ _) (hs _ rfl)
  | jmpMemFar => exact .of (exec_jmpMemFar_eq s _) (hs _ rfl)
  | callPtr => exact .of (exec_callPtr_eq s _ _) (hs _ rfl)
  | callMemFar => exact .of (exec_callMemFar_eq s _) (hs _ rfl)
  | retf => exact .of (exec_retf_eq s) (hs _ rfl)
  | retfIw => exact .of (exec_retfIw_eq s _) (hs _ rfl)
  | iret => exact .of (exec_iret_eq s) (hs _ rfl)
  | popf => exact .of (exec_popf_eq s) (hs _ rfl)
  | cli => exact .of (exec_cli_eq s) (hs _ rfl)
  | sti => exact .of (exec_sti_eq s) (hs _ rfl)
  | movCr0R32 => exact .of (exec_movCr0R32_eq s _) (hs _ rfl)
  | movCr2R32 => exact .of (exec_movCr2R32_eq s _) (hs _ rfl)
  | movCr3R32 => exact .of (exec_movCr3R32_eq s _) (hs _ rfl)
  | lmswRm16 => exact .of (exec_lmswRm16_eq s _) (hs _ rfl)
  | invlpgM => exact .of (exec_invlpgM_eq s _) (hs _ rfl)
  | clts => exact .of (exec_clts_eq s) (hs _ rfl)
  | hlt => exact .of (exec_hlt_eq s) (hs _ rfl)
  | clc => exact .of (exec_clc_eq s) (.update fun s => h.flag s .cf _ (.inl rfl))
  | stc => exact .of (exec_stc_eq s) (.update fun s => h.flag s .cf _ (.inl rfl))
  | cmc => exact .of (exec_cmc_eq s) (.update fun s => h.flag s .cf _ (.inl rfl))
  | cld => exact .of (exec_cld_eq s) (.update fun s => h.flag s .df _ (.inr (.inr rfl)))
  | std => exact .of (exec_std_eq s) (.update fun s => h.flag s .df _ (.inr (.inr rfl)))
  | bsfRRm => exact .of (exec_bsfRRm_eq s _ _) (h.bitScan ..)
  | bsrRRm => exact .of (exec_bsrRRm_eq s _ _) (h.bitScan ..)
  | bswapR32 => exact .of (exec_bswapR32_eq s _) (h.byteSwap ..)
  | cmpxchgRm8R8 => exact .of (exec_cmpxchgRm8R8_eq s _ _) (h.compareExchange ..)
  | cmpxchgRmR => exact .of (exec_cmpxchgRmR_eq s _ _) (h.compareExchange ..)
  | xaddRm8R8 => exact .of (exec_xaddRm8R8_eq s _ _) (h.exchangeAdd ..)
  | xaddRmR => exact .of (exec_xaddRmR_eq s _ _) (h.exchangeAdd ..)
  | cmpxchg8bM64 => exact .of (exec_cmpxchg8bM64_eq s _) (h.compareExchange8 ..)
  | movAlMoffs => exact .of (exec_movAlMoffs_eq s _) (h.loadMoffs ..)
  | movEaxMoffs => exact .of (exec_movEaxMoffs_eq s _) (h.loadMoffs ..)
  | movMoffsAl => exact .of (exec_movMoffsAl_eq s _) (h.storeMoffs ..)
  | movMoffsEax => exact .of (exec_movMoffsEax_eq s _) (h.storeMoffs ..)
  | nop => exact .of (exec_nop_eq s) (h.value _)
  | leaRM => exact .of (exec_leaRM_eq s _ _) (h.seq (h.looks _) fun _ => h.writesReg ..)
  | cbw => exact .of (exec_cbw_eq s) (h.convertAcc _)
  | cwd => exact .of (exec_cwd_eq s) (h.seq (h.readsReg ..) fun _ => h.writesReg ..)
  | popR => exact .of (exec_popR_eq s _) (h.moves (h.pops _) fun _ => h.writesReg ..)
  | popRm => exact .of (exec_popRm_eq s _) (h.moves (h.pops _) fun _ => h.writesRM ..)
  | pusha => exact .of (exec_pusha_eq s) (h.pushAll _)
  | popa => exact .of (exec_popa_eq s) (h.popAll _)
  | xlat => exact .of (exec_xlat_eq s) (h.seq (h.looks _) fun _ => h.seq (h.reads ..) fun _ => h.writesReg ..)
  | leave => exact .of (exec_leave_eq s) (h.leaveFrame _)
  | jccRel8 => exact .of (exec_jccRel8_eq s _ _) (h.branchIf ..)
  | jccRelz => exact .of (exec_jccRelz_eq s _ _) (h.branchIf ..)
  | jmpRel8 => exact .of (exec_jmpRel8_eq s _) (h.branchIf ..)
  | jmpRelz => exact .of (exec_jmpRelz_eq s _) (h.branchIf ..)
  | jcxzRel8 => exact .of (exec_jcxzRel8_eq s _) (h.branchIf ..)
  | loopRel8 => exact .of (exec_loopRel8_eq s _) (h.loopIf ..)
  | loopeRel8 => exact .of (exec_loopeRel8_eq s _) (h.loopIf ..)
  | loopneRel8 => exact .of (exec_loopneRel8_eq s _) (h.loopIf ..)
  | jmpRm => exact .of (exec_jmpRm_eq s _) (h.seq (h.readsRM ..) fun _ => h.jumpsNear ..)
  | callRelz => exact .of (exec_callRelz_eq s _) (h.seq (h.looks _) fun _ => h.seq (h.targets ..) fun _ => h.callTo ..)
  | callRm => exact .of (exec_callRm_eq s _) (h.seq (h.readsRM ..) fun _ => h.seq (h.targets ..) fun _ => h.callTo ..)
  | ret => exact .of (exec_ret_eq s) (h.returnNear ..)
  | retIw => exact .of (exec_retIw_eq s _) (h.returnNear ..)
  | intIb => exact .of (exec_intIb_eq s _) (h.stops _)
  | int3 => exact .of (exec_int3_eq s) (h.stops _)
  | into => exact .of (exec_into_eq s) (h.seq (h.looks _) fun _ => .ite (h.stops _) (h.value _))
  | pushf => exact .of (exec_pushf_eq s) (h.pushFlags _)
  | sahf => exact .of (exec_sahf_eq s) (.update fun s => h.lowFlags s _)
  | lahf => exact .of (exec_lahf_eq s) (.update fun s => h.setGpr s ..)
  | setccRm8 => exact .of (exec_setccRm8_eq s _ _) (h.setByte ..)
  | movRm16Sreg => exact .of (exec_movRm16Sreg_eq s _ _) (h.moves (h.looks _) fun _ => h.storeWord ..)
  | smswRm16 => exact .of (exec_smswRm16_eq s _) (h.moves (h.looks _) fun _ => h.storeWord ..)
  | movR32Cr0 => exact .of (exec_movR32Cr0_eq s _) (h.readCr ..)
  | movR32Cr2 => exact .of (exec_movR32Cr2_eq s _) (h.readCr ..)
  | movR32Cr3 => exact .of (exec_movR32Cr3_eq s _) (h.readCr ..)
  | invd => exact .of (exec_invd_eq s) (h.checksPrivilege)
  | wbinvd => exact .of (exec_wbinvd_eq s) (h.checksPrivilege)
  | ud2 => exact .of (exec_ud2_eq s) (h.stops _)

/-- The relation holds of the updates of the special instructions too, and of every answer of a protected-mode parameter that counts. -/
structure Lax (R : State → State → Prop) : Prop extends Routine R where
  seg : ∀ (s : State) (r : SegReg) (c : SegCache), R s (s.setSeg r c)
  anyFlag : ∀ (s : State) (f : Flag) (b : Bool), R s (s.setFlag f b)
  eflags : ∀ (s : State) (v m : Word), R s (s.setEflags v m)
  shadow : ∀ (s : State) (x : Shadow), R s { s with shadow := x }
  halted : ∀ (s : State) (b : Bool), R s { s with halted := b }
  cr0 : ∀ (s : State) (v : Word), R s { s with cr0 := v }
  cr2 : ∀ (s : State) (v : Word), R s { s with cr2 := v }
  cr3 : ∀ (s : State) (v : Word), R s { s with cr3 := v }
  clearTlb : ∀ s : State, R s s.clearTlb
  pmFar : ∀ (kind : FarKind) (osz : Size) (sel : Sel) (off : Word) (s t : State), pmFarTransfer kind osz sel off s = .ok t → R s t
  pmIret : ∀ (osz : Size) (s t : State), pmIret osz s = .ok t → R s t

namespace Lax

variable (h : Lax R)
include h

theorem loadSeg (r : SegReg) (v : Sel) : Keeps R (loadSeg r v) := by
  refine ⟨?_, ?_⟩ <;> intro s x t e <;> unfold Machine.loadSeg at e <;> split at e
  · split at e <;> cases e
    exact h.seg s r _
  · cases e
    exact h.seg s r _
  · split at e <;> cases e
    · exact h.steady.refl s
    · exact h.steady.refl s
  · cases e

theorem ssShadow (r : SegReg) : Keeps R (ssShadow r) := .ite (.update fun s => h.shadow s _) (h.value _)

theorem moveToSeg (p : Pfx) (rm : RM) (r : SegReg) : Keeps R (moveToSeg p rm r) :=
  h.seq (h.readsRM ..) fun _ => h.seq (h.loadSeg ..) fun _ => h.ssShadow r

theorem popSegReg (osz : Size) (r : SegReg) : Keeps R (popSegReg osz r) :=
  h.seq (h.access (readTop_touches _)) fun _ => h.seq (h.looks _) fun _ => h.seq (h.loadSeg ..) fun _ =>
    h.seq (.update fun s => h.regs s _ _) fun _ => h.ssShadow r

theorem loadFarPointer (p : Pfx) (m : Mem) (q : Reg) (r : SegReg) : Keeps R (loadFarPointer p m q r) :=
  h.seq (h.readsFarPointer ..) fun _ => h.seq (h.loadSeg ..) fun _ => h.writesReg ..

theorem farLoadReal (osz : Size) (sel : Sel) (off : Word) : Keeps R (farLoadReal osz sel off) :=
  h.seq (h.targets ..) fun _ => .update fun s => h.steady.trans _ _ _ (h.seg s .cs _) (h.eip _ _)

theorem farTransferPm (kind : FarKind) (osz : Size) (sel : Sel) (off : Word) : Keeps R (farTransferPm kind osz sel off) := by
  refine ⟨?_, ?_⟩ <;> intro s x t e <;> unfold Machine.farTransferPm at e <;> split at e <;> cases e
  · exact h.pmFar _ _ _ _ s t ‹_›
  · exact h.steady.refl s
  · exact h.steady.refl s

theorem iretPm (osz : Size) : Keeps R (iretPm osz) := by
  refine ⟨?_, ?_⟩ <;> intro s x t e <;> unfold Machine.iretPm at e <;> split at e <;> cases e
  · exact h.pmIret _ s t ‹_›
  · exact h.steady.refl s
  · exact h.steady.refl s

theorem farJump (p : Pfx) {target : Act (Word × Sel)} (ht : Keeps R target) : Keeps R (farJump p target) :=
  h.seq ht fun _ => h.seq (h.looks _) fun _ => .ite (h.farTransferPm ..) (h.farLoadReal ..)

theorem farCall (p : Pfx) {target : Act (Word × Sel)} (ht : Keeps R target) : Keeps R (farCall p target) :=
  h.seq ht fun _ => h.seq (h.looks _) fun _ => .ite (h.farTransferPm ..) <| h.seq (h.targets ..) fun _ => h.seq (h.looks _) fun _ =>
    h.seq (h.looks _) fun _ => h.seq (h.pushesSel ..) fun _ => h.seq (h.pushes _) fun _ => h.farLoadReal ..

theorem returnFar (p : Pfx) (kind : FarKind) (imm : BitVec 16) : Keeps R (returnFar p kind imm) :=
  h.seq (h.looks _) fun _ => .ite
    (h.seq (h.access (readTop_touches _)) fun _ => h.seq (h.looks _) fun _ => h.seq (h.reads ..) fun _ => h.farTransferPm ..)
    (h.seq (h.pops _) fun _ => h.seq (h.pops _) fun _ => h.seq (h.farLoadReal ..) fun _ => .update fun s => h.setStackTop s _)

theorem interruptReturn (p : Pfx) : Keeps R (interruptReturn p) :=
  h.seq (h.looks _) fun _ => .ite (h.iretPm _) <| h.seq (h.pops _) fun _ => h.seq (h.pops _) fun _ => h.seq (h.pops _) fun _ =>
    h.seq (h.farLoadReal ..) fun _ => .update fun s => h.eflags s _ _

theorem popFlags (osz : Size) : Keeps R (popFlags osz) := by
  refine h.seq (h.pops _) fun _ => h.seq (h.looks _) fun _ => h.seq (.update fun s => h.eflags s _ _) fun _ => ?_
  cases osz with
  | w16 => exact h.value _
  | w32 => exact .update fun s => h.anyFlag s _ _

theorem ioplCheck : Keeps R ioplCheck := h.seq (h.looks _) fun _ => .ite (h.stops _) (h.value _)

theorem clearInterrupt : Keeps R clearInterrupt := h.seq h.ioplCheck fun _ => .update fun s => h.anyFlag s _ _

theorem setInterrupt : Keeps R setInterrupt := by
  refine h.seq h.ioplCheck fun _ => h.seq (.update fun s => ?_) fun _ => .update fun s => h.anyFlag s _ _
  split
  · exact h.steady.refl s
  · exact h.shadow s _

theorem writeCr0 (r : Reg) : Keeps R (writeCr0 r) := by
  refine h.seq h.checksPrivilege fun _ => h.seq (h.looks _) fun _ => h.seq (h.looks _) fun _ => .ite (h.stops _) (.update fun s => ?_)
  unfold State.putCr0
  simp only
  split
  · exact h.cr0 s _
  · exact h.steady.trans _ _ _ (h.cr0 s _) (h.clearTlb _)

theorem writeCr2 (r : Reg) : Keeps R (writeCr2 r) := h.seq h.checksPrivilege fun _ => .update fun s => h.cr2 s _

theorem writeCr3 (r : Reg) : Keeps R (writeCr3 r) :=
  h.seq h.checksPrivilege fun _ => .update fun s => h.steady.trans _ _ _ (h.cr3 s _) (h.clearTlb _)

theorem loadStatusWord (p : Pfx) (rm : RM) : Keeps R (loadStatusWord p rm) :=
  h.seq h.checksPrivilege fun _ => h.seq (h.readsRM ..) fun _ => .update fun s => h.cr0 s _

theorem invalidatePage (m : Mem) : Keeps R (invalidatePage m) :=
  h.seq h.checksPrivilege fun _ => h.seq (h.looks _) fun _ => .update h.clearTlb

theorem clearTaskSwitched : Keeps R clearTaskSwitched :=
  h.seq h.checksPrivilege fun _ => .update fun s => h.cr0 s (s.cr0 &&& ~~~0x8#32)

theorem halt : Keeps R halt := h.seq h.checksPrivilege fun _ => .update fun s => h.halted s true

/-- Every special body keeps the relation. -/
theorem specialBody (p : Pfx) (i : Instr) (a : Act Unit) (e : specialBody p i = some a) : Keeps R a := by
  cases i with
  | movSregRm16 => cases e; exact h.moveToSeg ..
  | popEs | popSs | popDs | popFs | popGs => cases e; exact h.popSegReg ..
  | ldsRMemFar | lesRMemFar | lssRMemFar | lfsRMemFar | lgsRMemFar => cases e; exact h.loadFarPointer ..
  | jmpPtr => cases e; exact h.farJump p (h.value _)
  | jmpMemFar => cases e; exact h.farJump p (h.readsFarPointer ..)
  | callPtr => cases e; exact h.farCall p (h.value _)
  | callMemFar => cases e; exact h.farCall p (h.readsFarPointer ..)
  | retf | retfIw => cases e; exact h.returnFar ..
  | iret => cases e; exact h.interruptReturn p
  | popf => cases e; exact h.popFlags _
  | cli => cases e; exact h.clearInterrupt
  | sti => cases e; exact h.setInterrupt
  | movCr0R32 => cases e; exact h.writeCr0 _
  | movCr2R32 => cases e; exact h.writeCr2 _
  | movCr3R32 => cases e; exact h.writeCr3 _
  | lmswRm16 => cases e; exact h.loadStatusWord ..
  | invlpgM => cases e; exact h.invalidatePage _
  | clts => cases e; exact h.clearTaskSwitched
  | hlt => cases e; exact h.halt
  | _ => cases e

/-- Every instruction's body keeps the relation. -/
theorem bodyKeeps (i : Instr) (s : State) : BodyKeeps R i s := exec_bodyKeeps h.toRoutine i s fun a e => h.specialBody s.pfx i a e

/-- A real-mode delivery keeps the relation (spec/60_exceptions.md R714). -/
theorem deliverReal (v : Byte) (ret : Word) : Keeps R (deliverReal v ret) := by
  have clear : Keeps R (update fun s => ((s.setFlag .intr false).setFlag .tf false).setFlag .ac false) := .update fun s =>
    h.steady.trans _ _ _ (h.steady.trans _ _ _ (h.anyFlag s .intr false) (h.anyFlag _ .tf false)) (h.anyFlag _ .ac false)
  exact h.seq (h.looks _) fun _ => h.seq (h.pushes _) fun _ => h.seq clear fun _ => h.seq (h.looks _) fun _ => h.seq (h.pushes _) fun _ =>
    h.seq (h.pushes _) fun _ => h.seq (h.access (linRead_touches ..)) fun _ => h.seq (h.access (linRead_touches ..)) fun _ =>
      .update fun s => h.steady.trans _ _ _ (h.seg s .cs _) (h.eip _ _)

end Lax

end Sys2Proof.Machine
end

section
/-! SUPPORT. What taking an event, executing an instruction and one step can answer, said once each: the cases an invariant of the step has to
look at. -/

namespace Sys2Proof.Machine

variable {R : State → State → Prop}

/-- The run ends at `s` with a mark and its outcome. -/
def EndsRun (s t : State) : Prop := (∃ f, t = s.endFault f) ∨ ∃ r, t = s.endRefused r

theorem EndsRun.outcome {s t : State} (h : EndsRun s t) :
    (∃ r, t.refused = some r ∧ t.outcome = .refused r) ∨ ∃ f, t.faulted = some f ∧ t.outcome = .fault f := by
  rcases h with ⟨f, rfl⟩ | ⟨r, rfl⟩
  · exact .inr ⟨f, rfl, rfl⟩
  · exact .inl ⟨r, rfl, rfl⟩

theorem EndsRun.marked {s t : State} (h : EndsRun s t) : t.unmarked = false := by
  rcases h with ⟨f, rfl⟩ | ⟨r, rfl⟩
  · exact Bool.and_false _
  · rfl

/-- An ended run differs from where it ended in the marks and the outcome alone. -/
theorem EndsRun.rest {s t : State} (h : EndsRun s t) : t = { s with refused := t.refused, faulted := t.faulted, outcome := t.outcome } := by
  rcases h with ⟨f, rfl⟩ | ⟨r, rfl⟩
  · rfl
  · rfl

/-- No mark is set exactly when both are absent. -/
theorem unmarked_iff {s : State} : s.unmarked = true ↔ s.refused = none ∧ s.faulted = none := by
  simp [State.unmarked]

/-- What PM_DELIVER answers, when it answers, is one of the states R24 and R25 allow. -/
theorem pmDeliver_allowed {v : Byte} {err : Option Word} {kind : EventKind} {s t : State} (h : pmDeliver v err kind s = .ok t) :
    answerAllowed s t = true := by
  unfold pmDeliver at h
  split at h
  · cases h
  · split at h <;> cases h
    exact checked_wf ‹_›

theorem pmFarTransfer_allowed {kind : FarKind} {osz : Size} {sel : Sel} {off : Word} {s t : State}
    (h : pmFarTransfer kind osz sel off s = .ok t) : answerAllowed s t = true := by
  unfold pmFarTransfer at h
  split at h
  · cases h
  · exact checked_wf h

theorem pmIret_allowed {osz : Size} {s t : State} (h : pmIret osz s = .ok t) : answerAllowed s t = true := by
  unfold pmIret at h
  split at h
  · cases h
  · exact checked_wf h

/-- An allowed answer carries no mark and keeps the events recorded. -/
theorem answerAllowed_keeps {s t : State} (h : answerAllowed s t = true) : t.unmarked = true ∧ s.history <:+ t.history := by
  simp only [answerAllowed, Bool.and_eq_true] at h
  obtain ⟨⟨⟨⟨⟨⟨_, history⟩, _⟩, unmarked⟩, _⟩, _⟩, _⟩ := h
  exact ⟨unmarked, List.isSuffixOf_iff_suffix.1 history⟩

/-- Taking an event goes on from what PM_DELIVER or the vector table gave, or ends the run with the registers it began with (spec/60_exceptions.md
R712 to R715). -/
theorem deliver_cases (v : Byte) (err : Option Word) (kind : EventKind) (ret : Word) (s : State) :
    let s0 := s.record (.delivered v kind)
    (∃ t, deliver v err kind ret s = t.afterDelivery (deliveredOutcome v err kind) ∧
      (pmDeliver v err kind { s0 with eip := ret } = .ok t ∨ deliverReal v ret s0 = .ok () t)) ∨
    ∃ t, EndsRun (keepMemory s0 t) (deliver v err kind ret s) ∧ (t = s0 ∨ ∃ e, deliverReal v ret s0 = .error e t) := by
  intro s0
  unfold deliver
  simp only
  split
  · split
    · next t ht => exact .inl ⟨t, rfl, .inl ht⟩
    · refine .inr ⟨s0, ?_, .inl rfl⟩
      cases kind with
      | fault => exact .inl ⟨_, rfl⟩
      | trap | software | external => exact .inr ⟨_, rfl⟩
    · refine .inr ⟨s0, ?_, .inl rfl⟩
      cases kind with
      | fault => exact .inl ⟨_, rfl⟩
      | trap | software | external => exact .inr ⟨_, rfl⟩
  · split
    · next t ht => exact .inl ⟨t, rfl, .inr ht⟩
    · next t ht => exact .inr ⟨t, .inl ⟨_, rfl⟩, .inr ⟨_, ht⟩⟩
    · next t ht => exact .inr ⟨t, .inl ⟨_, rfl⟩, .inr ⟨_, ht⟩⟩
    · next t ht => exact .inr ⟨t, .inl ⟨_, rfl⟩, .inr ⟨_, ht⟩⟩
    · next t ht => exact .inr ⟨t, .inl ⟨_, rfl⟩, .inr ⟨_, ht⟩⟩

/-- A body's outcome is the state it reached, an event delivered from the registers it began with, or the end of the run there (R700, R706,
R716). -/
theorem finish_cases {s t : State} {r : EStateM.Result Stop State Unit} (h : finish s r = .next t) :
    r = .ok () t ∨ ∃ e u, r = .error e u ∧
      ((∃ v err kind ret, t = deliver v err kind ret (rollback s u)) ∨ EndsRun (rollback s u) t) := by
  unfold finish at h
  split at h <;> cases h
  · exact .inl rfl
  · exact .inr ⟨_, _, rfl, .inl ⟨_, _, _, _, rfl⟩⟩
  · exact .inr ⟨_, _, rfl, .inl ⟨_, _, _, _, rfl⟩⟩
  · exact .inr ⟨_, _, rfl, .inr (.inl ⟨_, rfl⟩)⟩
  · exact .inr ⟨_, _, rfl, .inr (.inr ⟨_, rfl⟩)⟩

/-- What an instruction answers, when its body keeps a relation. -/
theorem exec_cases (h : Routine R) {i : Instr} {s t : State} (k : BodyKeeps R i s) (e : exec i s = .next t) :
    R s t ∨ ∃ u, R s u ∧ ((∃ v err kind ret, t = deliver v err kind ret (rollback s u)) ∨ EndsRun (rollback s u) t) := by
  obtain ⟨gen, lockable, body, hb, k⟩ := k
  have gated : Keeps R (do requireGen gen; requireLock lockable s.pfx; body s.pfx) :=
    h.seq (h.seq (h.looks _) fun _ => .ite (h.stops _) (h.value _)) fun _ => h.seq (.ite (h.stops _) (h.value _)) fun _ => k
  rw [hb] at e
  rcases finish_cases e with ok | ⟨err, u, error, hu⟩
  · exact .inl (gated.1 _ _ _ ok)
  · exact .inr ⟨u, gated.2 _ _ _ error, hu⟩

/-- Fetching an instruction makes accesses and moves eip. -/
theorem fetchDec_keeps (hR : Steady R) (ht : ∀ s t, Touches s t → R s t) (he : ∀ (s : State) (v : Word), R s { s with eip := v }) (d : Dec)
    (seen : List Byte) : Keeps R (fetchDec d seen) := by
  have fetch : Keeps R fetchByte := by
    refine .bind hR (.look hR _) fun _ => .bind hR (.look hR _) fun _ => .bind hR (.look hR _) fun _ => .ite (.stop hR _) (.ite (.stop hR _) ?_)
    exact .bind hR ((linRead_touches _ _).mono ht) fun _ => .bind hR (.update fun s => he s _) fun _ => .pure hR _
  induction d generalizing seen with
  | done r => exact .pure hR _
  | byte k ih => exact .bind hR fetch fun b => ih b _

/-- What `runInstr` answers: the outcome of a fault or refusal while fetching, or that of the instruction fetched (spec/30_encoding.md R200,
R230 to R232). -/
theorem runInstr_cases (run : Instr → State → Host.Outcome State Fault Refusal) (s : State) :
    (∃ e u, runInstr run s = finish s (.error e u) ∧ (fetchInstr s = .error e u ∨ ∃ d, fetchInstr s = .ok d u)) ∨
    ∃ p i bs u, fetchInstr s = .ok (.instr p i, bs) u ∧ runInstr run s = run i (withDecoded p bs u) := by
  unfold runInstr
  split
  · next ht => exact .inl ⟨_, _, rfl, .inl ht⟩
  · next ht => exact .inr ⟨_, _, _, _, ht, rfl⟩
  · next ht => exact .inl ⟨_, _, rfl, .inr ⟨_, ht⟩⟩
  · next ht => exact .inl ⟨_, _, rfl, .inr ⟨_, ht⟩⟩
  · next ht => exact .inl ⟨_, _, rfl, .inr ⟨_, ht⟩⟩
  · next ht => exact .inl ⟨_, _, rfl, .inr ⟨_, ht⟩⟩

/-- With no mark, no event to accept and no halt a step executes an instruction (spec/60_exceptions.md R731). -/
theorem step_executes {s : State} (hm : s.unmarked = true) (ha : acceptable s = none) (hh : s.halted = false) :
    step s = endInstr s (runInstr exec (startInstr s)) := by
  obtain ⟨hr, hf⟩ := unmarked_iff.1 hm
  unfold step cycle
  rw [hr, hf]
  simp only [ha, hh, Bool.false_eq_true, if_false]

theorem step_accepts {s : State} {v : Byte} (hm : s.unmarked = true) (ha : acceptable s = some v) : step s = .next (acceptIntr v s) := by
  obtain ⟨hr, hf⟩ := unmarked_iff.1 hm
  unfold step cycle
  rw [hr, hf]
  simp only [ha]

theorem step_waits {s : State} (hm : s.unmarked = true) (ha : acceptable s = none) (hh : s.halted = true) :
    step s = .next { s with outcome := .halted } := by
  obtain ⟨hr, hf⟩ := unmarked_iff.1 hm
  unfold step cycle
  rw [hr, hf]
  simp only [ha, hh, if_true]

theorem step_refused {s : State} {r : Refusal} (h : s.refused = some r) : step s = .refused r := by
  unfold step cycle
  rw [h]

theorem step_faulted {s : State} {f : Fault} (hr : s.refused = none) (h : s.faulted = some f) : step s = .fault f := by
  unfold step cycle
  rw [hr, h]

/-- A step that answers a state accepts an interrupt, waits, or executes an instruction and then takes the single-step trap that is due. -/
theorem step_cases {s t : State} (h : step s = .next t) :
    s.unmarked = true ∧ ((∃ v, acceptable s = some v ∧ t = acceptIntr v s) ∨ (s.halted = true ∧ t = { s with outcome := .halted }) ∨
      ∃ u, runInstr exec (startInstr s) = .next u ∧ t = reportHalt (singleStep s u)) := by
  have hm : s.unmarked = true := by
    rw [unmarked_iff]
    cases hr : s.refused with
    | some r => rw [step_refused hr] at h; cases h
    | none =>
      cases hf : s.faulted with
      | some f => rw [step_faulted hr hf] at h; cases h
      | none => exact ⟨rfl, rfl⟩
  refine ⟨hm, ?_⟩
  cases ha : acceptable s with
  | some v =>
    rw [step_accepts hm ha] at h
    cases h
    exact .inl ⟨v, rfl, rfl⟩
  | none =>
    cases hh : s.halted with
    | true =>
      rw [step_waits hm ha hh] at h
      cases h
      exact .inr (.inl ⟨rfl, by rw [hh]⟩)
    | false =>
      rw [step_executes hm ha hh] at h
      unfold endInstr at h
      split at h <;> cases h
      exact .inr (.inr ⟨_, ‹_›, rfl⟩)

/-- The single-step trap is the state itself or a delivered #DB. -/
theorem singleStep_cases (s t : State) : singleStep s t = t ∨ singleStep s t = deliver 1#8 none .trap t.eip t := by
  unfold singleStep
  split
  · exact .inr rfl
  · exact .inl rfl

/-- Reporting a halt changes the outcome alone. -/
theorem reportHalt_cases (t : State) : reportHalt t = t ∨ reportHalt t = { t with outcome := .halted } := by
  unfold reportHalt
  split
  · exact .inr rfl
  · exact .inl rfl

/-- Accepting an interrupt delivers it and may clear the line. -/
theorem acceptIntr_cases (v : Byte) (s : State) :
    acceptIntr v s = deliver v none .external s.eip s ∨ acceptIntr v s = { deliver v none .external s.eip s with intr := none } := by
  unfold acceptIntr
  simp only
  split
  · exact .inr rfl
  · exact .inl rfl

end Sys2Proof.Machine
end

section
/-! PROOFS. The scope of a step (spec/00_scope.md): what no step changes, what is no instruction, how a run ends, and what the protected-mode
parameters decide. -/

namespace Sys2Proof.Machine

/-! What no step changes. -/

/-- The launch parameters, the maps, the capability flags and the privilege level are the same, and the history only grew. -/
structure Fixed (s t : State) : Prop where
  cfg : t.cfg = s.cfg
  fmap : t.fmap = s.fmap
  handlers : t.handlers = s.handlers
  caps : t.caps = s.caps
  cpl : t.cpl = s.cpl
  history : s.history <:+ t.history

theorem fixed_steady : Steady Fixed where
  refl _ := ⟨rfl, rfl, rfl, rfl, rfl, List.suffix_refl _⟩
  trans _ _ _ h k := ⟨k.cfg.trans h.cfg, k.fmap.trans h.fmap, k.handlers.trans h.handlers, k.caps.trans h.caps, k.cpl.trans h.cpl,
    h.history.trans k.history⟩

/-- The fields of `Fixed`. -/
abbrev State.fixedPart (s : State) := (s.cfg, s.fmap, s.handlers, s.caps, s.cpl, s.history)

/-- An update of other fields. -/
theorem fixed_of_same {s t : State} (h : t.fixedPart = s.fixedPart) : Fixed s t := by
  simp only [State.fixedPart, Prod.mk.injEq] at h
  obtain ⟨cfg, fmap, handlers, caps, cpl, history⟩ := h
  exact ⟨cfg, fmap, handlers, caps, cpl, history ▸ List.suffix_refl _⟩

theorem Touches.fixed {s t : State} (h : Touches s t) : Fixed s t := ⟨h.cfg, h.fmap, h.handlers, h.caps, h.cpl, h.history⟩

theorem Fixed.rollback {s t : State} (h : Fixed s t) : Fixed s (rollback s t) := ⟨rfl, rfl, rfl, rfl, rfl, h.history⟩

theorem Fixed.keepMemory {s t : State} (h : Fixed s t) : Fixed s (keepMemory s t) := ⟨rfl, rfl, rfl, rfl, rfl, h.history⟩

theorem EndsRun.fixed {s t : State} (h : EndsRun s t) : Fixed s t := by
  rw [h.rest]
  exact fixed_of_same rfl

theorem Fixed.pmRefuses {s t : State} (h : Fixed s t) (hs : s.pmRefuses) : t.pmRefuses := by
  unfold State.pmRefuses
  rw [h.cfg]
  exact hs

/-- With no parameter supplied the change is `Fixed`. -/
def FixedIfRefusing (s t : State) : Prop := s.pmRefuses → Fixed s t

theorem pmFarTransfer_refuses {s : State} (h : s.pmRefuses) (kind : FarKind) (osz : Size) (sel : Sel) (off : Word) :
    pmFarTransfer kind osz sel off s = .refuse := by
  obtain ⟨_, far, _, _⟩ := h
  simp only [pmFarTransfer, far]

theorem pmIret_refuses {s : State} (h : s.pmRefuses) (osz : Size) : pmIret osz s = .refuse := by
  obtain ⟨_, _, iret, _⟩ := h
  simp only [pmIret, iret]

theorem pmDeliver_refuses {s u : State} (h : s.cfg.pmDeliver = .refuse) (hu : u.cfg = s.cfg) (v : Byte) (err : Option Word)
    (kind : EventKind) (t : State) : pmDeliver v err kind u ≠ .ok t := by
  simp only [pmDeliver, hu, h]
  exact nofun

/-- No update of an instruction's body changes a `Fixed` field, and no parameter answers. -/
theorem fixedIfRefusing_lax : Lax FixedIfRefusing where
  steady := ⟨fun s _ => fixed_steady.refl s, fun s t u h k hs => fixed_steady.trans s t u (h hs) (k ((h hs).pmRefuses hs))⟩
  touches _ _ h _ := h.fixed
  regs _ _ _ _ := fixed_of_same rfl
  eip _ _ _ := fixed_of_same rfl
  status _ _ _ := fixed_of_same rfl
  flag _ _ _ _ _ := fixed_of_same rfl
  lowFlags _ _ _ := fixed_of_same rfl
  seg _ _ _ _ := fixed_of_same rfl
  anyFlag _ _ _ _ := fixed_of_same rfl
  eflags _ _ _ _ := fixed_of_same rfl
  shadow _ _ _ := fixed_of_same rfl
  halted _ _ _ := fixed_of_same rfl
  cr0 _ _ _ := fixed_of_same rfl
  cr2 _ _ _ := fixed_of_same rfl
  cr3 _ _ _ := fixed_of_same rfl
  clearTlb _ _ := fixed_of_same rfl
  pmFar kind osz sel off s t h hs := by
    rw [pmFarTransfer_refuses hs] at h
    cases h
  pmIret osz s t h hs := by
    rw [pmIret_refuses hs] at h
    cases h

/-- Taking an event changes no `Fixed` field. -/
theorem deliver_fixed {s : State} (hs : s.pmRefuses) (v : Byte) (err : Option Word) (kind : EventKind) (ret : Word) :
    Fixed s (deliver v err kind ret s) := by
  have recorded : Fixed s (s.record (.delivered v kind)) := ⟨rfl, rfl, rfl, rfl, rfl, List.suffix_cons _ _⟩
  have real := fixedIfRefusing_lax.deliverReal v ret
  have ⟨_, _, _, unsupplied⟩ := hs
  rcases deliver_cases v err kind ret s with ⟨t, e, answer | ht⟩ | ⟨t, ended, ht⟩
  · exact absurd answer (pmDeliver_refuses unsupplied (by rfl) v err kind t)
  · have reached : Fixed s t := fixed_steady.trans _ _ _ recorded (real.1 _ _ _ ht hs)
    rw [e]
    exact fixed_steady.trans _ _ _ reached (fixed_of_same rfl)
  · have reached : Fixed (s.record (.delivered v kind)) t := by
      rcases ht with rfl | ⟨err, ht⟩
      · exact fixed_steady.refl _
      · exact real.2 _ _ _ ht hs
    exact fixed_steady.trans _ _ _ recorded (fixed_steady.trans _ _ _ reached.keepMemory ended.fixed)

theorem exec_fixed {i : Instr} {s t : State} (hs : s.pmRefuses) (h : exec i s = .next t) : Fixed s t := by
  rcases exec_cases fixedIfRefusing_lax.toRoutine (fixedIfRefusing_lax.bodyKeeps i s) h with k | ⟨u, k, ⟨v, err, kind, ret, rfl⟩ | ended⟩
  · exact k hs
  · have rolled := (k hs).rollback
    exact fixed_steady.trans _ _ _ rolled (deliver_fixed (rolled.pmRefuses hs) ..)
  · exact fixed_steady.trans _ _ _ (k hs).rollback ended.fixed

theorem runInstr_fixed {s t : State} (hs : s.pmRefuses) (h : runInstr exec s = .next t) : Fixed s t := by
  have fetched := fetchDec_keeps fixed_steady (fun _ _ => Touches.fixed) (fun _ _ => fixed_of_same rfl)
    (decInstr s.cfg.gen s.codeBig s.prefixes) []
  rcases runInstr_cases exec s with ⟨e, u, hr, hu⟩ | ⟨p, i, bs, u, hu, hr⟩
  · have rolled : Fixed s (rollback s u) := by
      rcases hu with hu | ⟨d, hu⟩
      · exact (fetched.2 _ _ _ hu).rollback
      · exact (fetched.1 _ _ _ hu).rollback
    rw [hr] at h
    rcases finish_cases h with ok | ⟨_, _, error, ⟨v, err, kind, ret, rfl⟩ | ended⟩
    · cases ok
    · cases error
      exact fixed_steady.trans _ _ _ rolled (deliver_fixed (rolled.pmRefuses hs) ..)
    · cases error
      exact fixed_steady.trans _ _ _ rolled ended.fixed
  · have k : Fixed s (withDecoded p bs u) := fixed_steady.trans s u _ (fetched.1 _ _ _ hu) (fixed_of_same rfl)
    rw [hr] at h
    exact fixed_steady.trans _ _ _ k (exec_fixed (k.pmRefuses hs) h)

theorem step_fixed {s t : State} (hs : s.pmRefuses) (h : step s = .next t) : Fixed s t := by
  obtain ⟨_, ⟨v, _, rfl⟩ | ⟨_, rfl⟩ | ⟨u, hu, rfl⟩⟩ := step_cases h
  · have d : Fixed s (deliver v none .external s.eip s) := deliver_fixed hs ..
    rcases acceptIntr_cases v s with e | e <;> rw [e]
    · exact d
    · exact fixed_steady.trans _ _ _ d (fixed_of_same rfl)
  · exact fixed_of_same rfl
  · have k : Fixed s u := fixed_steady.trans s (startInstr s) u (fixed_of_same rfl) (runInstr_fixed hs hu)
    have trapped : Fixed s (singleStep s u) := by
      rcases singleStep_cases s u with e | e <;> rw [e]
      · exact k
      · exact fixed_steady.trans _ _ _ k (deliver_fixed (k.pmRefuses hs) ..)
    rcases reportHalt_cases (singleStep s u) with e | e <;> rw [e]
    · exact trapped
    · exact fixed_steady.trans _ _ _ trapped (fixed_of_same rfl)

/-- Settles O11: every update of every instruction's body, of a fetch and of a delivery is `Fixed` while the parameters refuse. -/
theorem stepKeepsMapsAndPrivilege : Obligations.StepKeepsMapsAndPrivilege := by
  intro s t hs h
  obtain ⟨cfg, fmap, handlers, caps, cpl, history⟩ := step_fixed hs h
  exact ⟨cfg, fmap, handlers, caps, cpl, history⟩

/-! What is no instruction. -/

/-- The change of a fetch: accesses, and eip. -/
def Fetches (s t : State) : Prop := t = { keepMemory s t with eip := t.eip }

theorem fetches_steady : Steady Fetches where
  refl _ := rfl
  trans s t u h k := by
    unfold Fetches at *
    rw [k, h]
    rfl

theorem Touches.fetches {s t : State} (h : Touches s t) : Fetches s t := by
  unfold Fetches
  rw [h.same]
  rfl

theorem fetchInstr_fetches {s t : State} {d : Decoded × List Byte} (h : fetchInstr s = .ok d t) : Fetches s t :=
  (fetchDec_keeps fetches_steady (fun _ _ => Touches.fetches) (fun _ _ => rfl) _ []).1 s d t h

/-- After a fetch alone, what a fault keeps is everything but eip (spec/60_exceptions.md R700). -/
theorem Fetches.rollback {s t : State} (h : Fetches s t) : rollback s t = { t with eip := s.eipStart } := by
  unfold Fetches at h
  conv_rhs => rw [h]
  rfl

/-- The length rule and the CS limit (spec/30_encoding.md R203, R204). -/
theorem fetchByte_gp {s : State} (h : s.segs.cs.limit.toNat < s.eip.toNat ∨ s.eip - s.eipStart = 15#32) :
    fetchByte s = .error (.fault 13#8 (some 0#32)) s := by
  unfold fetchByte
  rw [bind_ok (look_apply _ _), bind_ok (look_apply _ _), bind_ok (look_apply _ _)]
  by_cases length : s.eip - s.eipStart = 15#32
  · rw [if_pos length]
    rfl
  · rw [if_neg length, if_pos (h.resolve_right length)]
    rfl

/-- An instruction that ends the run has no single-step trap and no halt to report (R707, R731). -/
theorem endInstr_endsRun {s u t : State} (h : EndsRun u t) : endInstr s (.next t) = .next t := by
  have untrapped : singleStep s t = t := by simp [singleStep, h.marked]
  have unreported : reportHalt t = t := by
    unfold reportHalt
    rcases h.outcome with ⟨r, _, e⟩ | ⟨f, _, e⟩ <;> simp [e]
  show Host.Outcome.next (reportHalt (singleStep s t)) = _
  rw [untrapped, unreported]

/-- Settles O7: a fetch changes memory, CR2, the TLB, the history, the draws and eip alone, so what it leaves is what a fault or a refusal keeps. -/
theorem whatIsNoInstruction : Obligations.WhatIsNoInstruction := by
  refine ⟨fun s h => fetchByte_gp h, fun s t bs hm ha hh => ⟨fun hf => ?_, fun stage hf => ?_⟩⟩
  · have kept : rollback (startInstr s) t = { t with eip := s.eip } := (fetchInstr_fetches hf).rollback
    rw [step_executes hm ha hh]
    unfold runInstr
    rw [hf]
    simp only
    rw [finish_fault, kept]
    rfl
  · have kept : rollback (startInstr s) t = { t with eip := s.eip } := (fetchInstr_fetches hf).rollback
    rw [step_executes hm ha hh]
    unfold runInstr
    rw [hf]
    simp only
    rw [finish_refuse, endInstr_endsRun (.inr ⟨_, rfl⟩), kept]
    rfl

/-! How a run ends. -/

/-- A state without a mark stays without one. -/
def KeepsUnmarked (s t : State) : Prop := s.unmarked = true → t.unmarked = true

theorem Touches.unmarked {s t : State} (h : Touches s t) : t.unmarked = s.unmarked := by rw [h.same]; rfl

/-- No body sets a mark, and no answer of a parameter that counts carries one. -/
theorem keepsUnmarked_lax : Lax KeepsUnmarked where
  steady := ⟨fun _ => id, fun _ _ _ h k => k ∘ h⟩
  touches _ _ h hs := h.unmarked.trans hs
  regs _ _ _ := id
  eip _ _ := id
  status _ _ := id
  flag _ _ _ _ := id
  lowFlags _ _ := id
  seg _ _ _ := id
  anyFlag _ _ _ := id
  eflags _ _ _ := id
  shadow _ _ := id
  halted _ _ := id
  cr0 _ _ := id
  cr2 _ _ := id
  cr3 _ _ := id
  clearTlb _ := id
  pmFar _ _ _ _ _ _ h _ := (answerAllowed_keeps (pmFarTransfer_allowed h)).1
  pmIret _ _ _ h _ := (answerAllowed_keeps (pmIret_allowed h)).1

/-- A delivery that leaves a mark ended the run with the registers it began with (spec/60_exceptions.md R713, R715). -/
theorem deliver_marked {v : Byte} {err : Option Word} {kind : EventKind} {ret : Word} {s : State} (hs : s.unmarked = true)
    (h : (deliver v err kind ret s).unmarked = false) : ∃ t, EndsRun (keepMemory s t) (deliver v err kind ret s) := by
  rcases deliver_cases v err kind ret s with ⟨t, e, ht⟩ | ⟨t, ended, _⟩
  · have clean : t.unmarked = true := by
      rcases ht with answer | ht
      · exact (answerAllowed_keeps (pmDeliver_allowed answer)).1
      · exact (keepsUnmarked_lax.deliverReal v ret).1 _ _ _ ht hs
    rw [e] at h
    exact absurd (clean.symm.trans h) (by decide)
  · exact ⟨t, ended⟩

/-- An instruction that leaves a mark ended the run at its first byte, with the registers it found. -/
theorem exec_marked {i : Instr} {s t : State} (hs : s.unmarked = true) (h : exec i s = .next t) (ht : t.unmarked = false) :
    ∃ u, EndsRun (rollback s u) t := by
  rcases exec_cases keepsUnmarked_lax.toRoutine (keepsUnmarked_lax.bodyKeeps i s) h with k | ⟨u, _, ⟨v, err, kind, ret, rfl⟩ | ended⟩
  · exact absurd ((k hs).symm.trans ht) (by decide)
  · obtain ⟨x, ended⟩ := deliver_marked (s := rollback s u) hs ht
    exact ⟨x, ended⟩
  · exact ⟨u, ended⟩

/-- Settles O13: the marks are set on the state a fault or refusal rolled back alone. -/
theorem anEndedRunKeepsRegisters : Obligations.AnEndedRunKeepsRegisters := by
  intro i s t hs h ht
  obtain ⟨u, ended⟩ := exec_marked hs h ht
  have outcome := ended.outcome
  rw [ended.rest]
  exact ⟨rfl, rfl, rfl, rfl, rfl, rfl, rfl, rfl, outcome⟩

/-- A guest fault on the way of a real-mode delivery (spec/60_exceptions.md R715). -/
theorem deliver_double_fault {v w : Byte} {err e : Option Word} {kind : EventKind} {ret : Word} {s t : State} (hpe : s.pe = false)
    (h : deliverReal v ret (s.record (.delivered v kind)) = .error (.fault w e) t) :
    deliver v err kind ret s = (keepMemory (s.record (.delivered v kind)) t).endFault (.guest 8#8 (some 0#32)) := by
  unfold deliver
  simp only
  rw [if_neg (by simp [hpe]), h]

/-- What a delivery that PM_DELIVER refuses leaves (R713). -/
def refusedDelivery (v : Byte) (err : Option Word) (kind : EventKind) (s : State) : State :=
  if kind = .fault then (s.record (.delivered v kind)).endFault (.guest v err)
  else (s.record (.delivered v kind)).endRefused (.pmDeliver v kind (if kind = .external then [] else s.fetched))

theorem deliver_answered {v : Byte} {err : Option Word} {kind : EventKind} {ret : Word} {s t : State} (hpe : s.pe = true)
    (h : pmDeliver v err kind { s.record (.delivered v kind) with eip := ret } = .ok t) :
    deliver v err kind ret s = t.afterDelivery (deliveredOutcome v err kind) := by
  unfold deliver
  simp only
  rw [if_pos hpe, h]

theorem deliver_unanswered {v : Byte} {err : Option Word} {kind : EventKind} {ret : Word} {s : State} (hpe : s.pe = true)
    (h : ∀ t, pmDeliver v err kind { s.record (.delivered v kind) with eip := ret } ≠ .ok t) :
    deliver v err kind ret s = refusedDelivery v err kind s := by
  unfold deliver
  simp only
  rw [if_pos hpe]
  split
  · exact absurd ‹_› (h _)
  · cases kind with
    | fault | trap | software | external => rfl
  · cases kind with
    | fault | trap | software | external => rfl

/-- Settles O17: the three ways a delivery can fail, and the one in which PM_DELIVER answers. -/
theorem deliveryThatFails : Obligations.DeliveryThatFails := by
  intro v err kind ret s refused ended
  refine ⟨fun hpe w e t h => ?_, fun hpe hcfg => ?_, fun hpe => ?_⟩
  · rw [deliver_double_fault hpe h]
    exact ⟨rfl, rfl, rfl, rfl, rfl, rfl⟩
  · exact deliver_unanswered hpe (pmDeliver_refuses hcfg (by rfl) v err kind)
  · cases h : pmDeliver v err kind { s.record (.delivered v kind) with eip := ret } with
    | ok t =>
      rw [deliver_answered hpe h]
      cases kind with
      | fault | trap | software | external => rfl
    | fault w e => exact deliver_unanswered hpe fun t => by rw [h]; exact nofun
    | refuse => exact deliver_unanswered hpe fun t => by rw [h]; exact nofun

end Sys2Proof.Machine
end

section
/-! PROOFS. What the protected-mode parameters decide (spec/00_scope.md R23, R24), and the steps that execute nothing. -/

namespace Sys2Proof.Machine

variable {s s1 : State}

/-! Far transfers in protected mode. -/

/-- An instruction's outcome when a parameter answered a state, a fault or `Refuse` at `t` (spec/46_control_transfer.md R552, R568, R569). -/
def pmOutcome (s t : State) (why : Refusal) (a : PmAnswer) : State :=
  match a with
  | .ok u => u
  | .fault v err => deliver v err .fault s.eipStart (rollback s t)
  | .refuse => (rollback s t).endRefused why

theorem finish_farTransferPm (hf : s1.fetched = s.fetched) (kind : FarKind) (osz : Size) (sel : Sel) (off : Word) :
    finish s (farTransferPm kind osz sel off s1) =
      .next (pmOutcome s s1 (.pmFarTransfer sel off s.fetched) (pmFarTransfer kind osz sel off s1)) := by
  unfold farTransferPm
  rw [hf]
  cases pmFarTransfer kind osz sel off s1 with
  | ok | fault | refuse => rfl

theorem finish_iretPm (osz : Size) : finish s (iretPm osz s) = .next (pmOutcome s s (.pmIret s.fetched) (pmIret osz s)) := by
  unfold iretPm
  cases pmIret osz s with
  | ok | fault | refuse => rfl

theorem readFarPointer_touches (p : Pfx) (m : Mem) : Keeps Touches (readFarPointer p m) := by
  have st := touches_steady
  exact .bind st (.look st _) fun _ => .bind st (memReadBits_touches ..) fun _ => .bind st (memReadBits_touches ..) fun _ => .pure st _

/-- A far JMP or CALL reads its target by accesses alone. -/
theorem farParts_target {p : Pfx} {i : Instr} {kind : FarKind} {target : Act (Word × Sel)} (h : farParts p i = some (kind, target)) :
    (kind = .jmp ∨ kind = .call) ∧ Keeps Touches target := by
  cases i with
  | jmpPtr => cases h; exact ⟨.inl rfl, .pure touches_steady _⟩
  | jmpMemFar => cases h; exact ⟨.inl rfl, readFarPointer_touches ..⟩
  | callPtr => cases h; exact ⟨.inr rfl, .pure touches_steady _⟩
  | callMemFar => cases h; exact ⟨.inr rfl, readFarPointer_touches ..⟩
  | _ => cases h

theorem farJump_pm {p : Pfx} {target : Act (Word × Sel)} {off : Word} {sel : Sel} (ht : target s = .ok (off, sel) s1) (hpe : s1.pe = true) :
    farJump p target s = farTransferPm .jmp p.osz sel off s1 := by
  unfold farJump
  rw [bind_ok ht, bind_ok (look_apply _ _), if_pos hpe]

theorem farCall_pm {p : Pfx} {target : Act (Word × Sel)} {off : Word} {sel : Sel} (ht : target s = .ok (off, sel) s1) (hpe : s1.pe = true) :
    farCall p target s = farTransferPm .call p.osz sel off s1 := by
  unfold farCall
  rw [bind_ok ht, bind_ok (look_apply _ _), if_pos hpe]

/-- A far JMP or CALL in protected mode is what PM_FAR_TRANSFER answers (R552). -/
theorem exec_far_pm (ha : s.allows .g386 false) (hpe : s.pe = true) {i : Instr} {kind : FarKind} {target : Act (Word × Sel)} {off : Word}
    {sel : Sel} (hi : farParts s.pfx i = some (kind, target)) (ht : target s = .ok (off, sel) s1) :
    exec i s = .next (pmOutcome s s1 (.pmFarTransfer sel off s.fetched) (pmFarTransfer kind s.pfx.osz sel off s1)) := by
  obtain ⟨hk, touches⟩ := farParts_target hi
  have read := touches.1 _ _ _ ht
  rw [exec_far hi, perform_allowed ha, ← finish_farTransferPm read.fetched]
  rcases hk with rfl | rfl
  · exact congrArg (finish s) (farJump_pm ht (read.pe.trans hpe))
  · exact congrArg (finish s) (farCall_pm ht (read.pe.trans hpe))

/-- RETF in protected mode reads the far pointer at the stack top and leaves the rest to the parameter (R568). -/
theorem returnFar_pm (hpe : s.pe = true) {s2 : State} {p : Pfx} {off sel : BitVec p.osz.width.bits}
    (h1 : memReadBits p.osz.width.bits .ss s.stackTop s = .ok off s1)
    (h2 : memReadBits p.osz.width.bits .ss (stackWrap s.stackBig (s.stackTop + BitVec.ofNat 32 p.osz.bytes)) s1 = .ok sel s2)
    (kind : FarKind) (imm : BitVec 16) :
    finish s (returnFar p kind imm s) = .next (pmOutcome s s2 (.pmFarTransfer (sel.setWidth 16) (off.setWidth 32) s.fetched)
      (pmFarTransfer kind p.osz (sel.setWidth 16) (off.setWidth 32) s2)) := by
  have first := (memReadBits_touches ..).1 _ _ _ h1
  have second := (memReadBits_touches ..).1 _ _ _ h2
  have top : readTop p.osz.width.bits s = .ok off s1 := by
    unfold readTop
    rw [bind_ok (look_apply _ _)]
    exact h1
  rw [← first.stackBig, ← first.stackTop] at h2
  unfold returnFar
  rw [bind_ok (look_apply _ _), if_pos hpe, bind_ok top, bind_ok (look_apply _ _), bind_ok h2]
  exact finish_farTransferPm (second.fetched.trans first.fetched) ..

theorem exec_iret_pm (ha : s.allows .g386 false) (hpe : s.pe = true) :
    exec .iret s = .next (pmOutcome s s (.pmIret s.fetched) (pmIret s.pfx.osz s)) := by
  rw [exec_iret_eq, perform_allowed ha, ← finish_iretPm]
  unfold interruptReturn
  rw [bind_ok (look_apply _ _), if_pos hpe]

/-! Segment loads in protected mode. -/

/-- An instruction's outcome when PM_LOAD_SEG answered a cache, a fault or `Refuse` at `t`, and the load is followed by `after`
(spec/48_segment_loads.md R640). -/
def segOutcome (s t : State) (r : SegReg) (sel : Sel) (after : State → State) : State :=
  match pmLoadSeg r sel t with
  | .ok c => after (t.setSeg r c)
  | .fault v err => deliver v err .fault s.eipStart (rollback s t)
  | .refuse => (rollback s t).endRefused (.pmLoadSeg r sel s.fetched)

/-- A segment load after accesses, and what follows it. -/
theorem finish_loadSeg (read : Touches s s1) (hpe : s.pe = true) {r : SegReg} {v : Sel} {next : Unit → Act Unit} {after : State → State}
    (hn : ∀ t, next () t = .ok () (after t)) : finish s ((loadSeg r v >>= next) s1) = .next (segOutcome s s1 r v after) := by
  rw [bind_apply]
  unfold loadSeg segOutcome
  rw [if_pos (read.pe.trans hpe), read.fetched]
  cases pmLoadSeg r v s1 with
  | ok c => exact congrArg (finish s) (hn _)
  | fault | refuse => rfl

/-- The shadow a load of SS by MOV or POP leaves (R641). -/
def ssMark (r : SegReg) (t : State) : State := if r = .ss then { t with shadow := .movss } else t

theorem ssShadow_apply (r : SegReg) (t : State) : ssShadow r t = .ok () (ssMark r t) := by
  unfold ssShadow ssMark
  split
  · rfl
  · rfl

theorem exec_movSreg_pm (ha : s.allows .g386 false) (hpe : s.pe = true) {rm : RM} {r : SegReg} {v : Sel}
    (h : readRM .b16 s.pfx rm s = .ok v s1) : exec (.movSregRm16 rm r) s = .next (segOutcome s s1 r v (ssMark r)) := by
  have read := (readRM_touches ..).1 _ _ _ h
  rw [exec_movSregRm16_eq, perform_allowed ha]
  unfold moveToSeg
  rw [bind_ok h]
  exact finish_loadSeg read hpe (ssShadow_apply r)

theorem exec_popSeg_pm (ha : s.allows .g386 false) (hpe : s.pe = true) {i : Instr} {r : SegReg} {v : BitVec s.pfx.osz.width.bits}
    (hi : popSegParts i = some r) (h : memReadBits s.pfx.osz.width.bits .ss s.stackTop s = .ok v s1) :
    exec i s = .next (segOutcome s s1 r (v.setWidth 16) fun t =>
      let moved := s1.setStackTop (s.stackTop + BitVec.ofNat 32 s.pfx.osz.width.bytes)
      ssMark r { t with regs := moved.regs, written := moved.written }) := by
  have read := (memReadBits_touches ..).1 _ _ _ h
  have top : readTop s.pfx.osz.width.bits s = .ok v s1 := by
    unfold readTop
    rw [bind_ok (look_apply _ _)]
    exact h
  have moved : s1.dropStack (BitVec.ofNat 32 s.pfx.osz.bytes) = s1.setStackTop (s.stackTop + BitVec.ofNat 32 s.pfx.osz.width.bytes) := by
    unfold State.dropStack
    rw [read.stackTop]
    cases s.pfx.osz with
    | w16 | w32 => rfl
  rw [exec_popSeg hi, perform_allowed ha]
  unfold popSegReg
  rw [bind_ok top, bind_ok (look_apply _ _), moved]
  exact finish_loadSeg read hpe fun t => (bind_ok (update_apply _ _)).trans (ssShadow_apply r _)

theorem exec_farLoad_pm (ha : s.allows .g386 false) (hpe : s.pe = true) {i : Instr} {m : Mem} {q : Reg} {r : SegReg} {off : Word} {sel : Sel}
    (hi : farLoadParts i = some (m, q, r)) (h : readFarPointer s.pfx m s = .ok (off, sel) s1) :
    exec i s = .next (segOutcome s s1 r sel fun t => t.setGpr s.pfx.osz.width q (off.setWidth s.pfx.osz.width.bits)) := by
  have read := (readFarPointer_touches ..).1 _ _ _ h
  rw [exec_farLoad hi, perform_allowed ha]
  unfold loadFarPointer
  rw [bind_ok h]
  exact finish_loadSeg read hpe fun t => rfl

/-- Settles O46: each transfer and each load reaches its parameter by accesses alone, and `finish` does with the answer what the statement says. -/
theorem protectedModeParametersDecide : Obligations.ProtectedModeParametersDecide := by
  refine ⟨?_, ?_⟩
  · intro s s1 p outcome ha hpe
    refine ⟨?_, ?_, exec_iret_pm ha hpe⟩
    · intro i kind target off sel hi ht
      exact exec_far_pm ha hpe hi ht
    · intro s2 off sel h1 h2 far why
      refine ⟨?_, fun imm => ?_⟩
      · rw [exec_retf_eq, perform_allowed ha]
        exact returnFar_pm hpe h1 h2 .ret 0#16
      · rw [exec_retfIw_eq, perform_allowed ha]
        exact returnFar_pm hpe h1 h2 (.retfImm imm) imm
  · intro s s1 p w outcome mark ha hpe
    refine ⟨?_, ?_, ?_⟩
    · intro rm r v h
      exact exec_movSreg_pm ha hpe h
    · intro i r v hi h
      exact exec_popSeg_pm ha hpe hi h
    · intro i m q r off sel hi h
      exact exec_farLoad_pm ha hpe hi h

/-! The steps that execute nothing. -/

/-- An event is recorded, however its delivery ends (spec/60_exceptions.md R712). -/
theorem deliver_records (v : Byte) (err : Option Word) (kind : EventKind) (ret : Word) (s : State) :
    .delivered v kind ∈ (deliver v err kind ret s).history := by
  have real := deliverReal_fine v ret
  have recorded : .delivered v kind ∈ (s.record (.delivered v kind)).history := List.mem_cons_self
  rcases deliver_cases v err kind ret s with ⟨t, e, answer | ht⟩ | ⟨t, ended, rfl | ⟨x, ht⟩⟩
  · rw [e]
    exact (answerAllowed_keeps (pmDeliver_allowed answer)).2.subset recorded
  · rw [e]
    exact (real.1 _ _ _ ht).history.subset recorded
  · rw [ended.rest]
    exact recorded
  · rw [ended.rest]
    exact (real.2 _ _ _ ht).history.subset recorded

/-- A delivery that leaves no mark ended halt and shadow (R712, R716). -/
theorem deliver_unmarked {v : Byte} {err : Option Word} {kind : EventKind} {ret : Word} {s : State}
    (h : (deliver v err kind ret s).unmarked = true) :
    (deliver v err kind ret s).halted = false ∧ (deliver v err kind ret s).outcome = deliveredOutcome v err kind := by
  rcases deliver_cases v err kind ret s with ⟨t, e, _⟩ | ⟨t, ended, _⟩
  · rw [e]
    exact ⟨rfl, rfl⟩
  · exact absurd (h.symm.trans ended.marked) (by decide)

/-- Which external interrupt a step accepts (R720). -/
theorem acceptable_iff {s : State} {v : Byte} : acceptable s = some v ↔ s.intr = some v ∧ s.flag .intr = true ∧ s.shadow = .none := by
  unfold acceptable
  by_cases h : s.flag .intr = true ∧ s.shadow = .none
  · simp [h]
  · simp only [Bool.and_eq_true, beq_iff_eq, h, if_false, and_false, iff_false]
    exact nofun

/-- Settles O14, one clause of the step at a time. -/
theorem stepsThatExecuteNothing : Obligations.StepsThatExecuteNothing := by
  refine fun s => ⟨fun r => step_refused, fun f => step_faulted, fun hm => ⟨fun v => acceptable_iff, ?_, ?_, ?_⟩⟩
  · intro v ha
    refine ⟨_, step_accepts hm ha, ?_, ?_⟩
    · have recorded := deliver_records v none .external s.eip s
      rcases acceptIntr_cases v s with e | e <;> rw [e] <;> exact recorded
    · intro ht
      have delivered : (deliver v none .external s.eip s).unmarked = true := by
        rcases acceptIntr_cases v s with e | e <;> rw [e] at ht <;> exact ht
      have accepted : acceptIntr v s = { deliver v none .external s.eip s with intr := none } := if_pos delivered
      obtain ⟨halted, outcome⟩ := deliver_unmarked delivered
      exact ⟨accepted, (congrArg State.halted accepted).trans halted, (congrArg State.outcome accepted).trans outcome⟩
  · exact fun hh ha => step_waits hm ha hh
  · intro hh hf
    have ha : acceptable s = none := by simp [acceptable, hf]
    exact step_waits hm ha hh

end Sys2Proof.Machine
end

section
/-! PROOFS. The invariant of the machine: the state after reset has it, and every step keeps it (spec/10_state.md R38, R39, R44, R48, R49). -/

namespace Sys2Proof.Machine

/-! Reset. -/

/-- Settles O8: all but the other segment registers and CR0, which depend on the register and the generation, is `State.resetWith` read off. -/
theorem resetValues : Obligations.ResetValues := by
  intro c s
  have otherSegs (r : SegReg) (h : r ≠ .cs) :
      s.seg r = { sel := 0#16, base := 0#32, limit := 0xFFFF#32, big := false, null := false } := by
    cases r with
    | cs => exact absurd rfl h
    | es | ss | ds | fs | gs => rfl
  have cr0 : s.cr0 = (if c.gen = .g386 then 0x10#32 else 0x60000010#32) := by
    show resetCr0 c.gen = _
    cases c.gen with
    | g386 | g486 | g586 => rfl
  exact ⟨rfl, rfl, rfl, rfl, otherSegs, cr0, rfl, rfl, rfl, rfl, rfl, rfl, fun _ => rfl, fun _ => rfl, rfl, rfl, rfl, rfl, rfl, rfl⟩

/-- Settles O9: the tables are empty, and EFLAGS and CR0 hold their reset values in each generation. -/
theorem resetIsWellFormed : Obligations.ResetIsWellFormed := by
  intro c
  have bits : eflagsWf c.gen 0x2#32 = true ∧ cr0Of c.gen (resetCr0 c.gen) = resetCr0 c.gen ∧ (resetCr0 c.gen).getLsbD 31 = false := by
    cases c.gen with
    | g386 | g486 | g586 => decide
  obtain ⟨eflags, cr0, paging⟩ := bits
  exact (wf_iff _).2 ⟨⟨rfl, rfl, rfl, rfl, rfl, rfl⟩, eflags, cr0, fun pg => absurd (paging.symm.trans pg) (by decide), .inr rfl, .inr ⟨rfl, rfl⟩⟩

/-! The ordinary bodies keep the invariant whatever they end in. -/

theorem fine_routine : Routine Fine where
  steady := fine_steady
  touches _ _ := Touches.fine
  regs _ _ _ := fine_of_same rfl id
  eip := fine_setEip
  status := fine_setStatus
  flag s f b hf := fine_setFlag s f b (.inl (by rcases hf with rfl | rfl | rfl <;> decide))
  lowFlags s v := fine_setEflags s v _ (by decide)

/-! The special bodies. A far transfer, IRET and MOV CR0 may change the paging mode, but they do so last, so that a fault on the way still finds the
mode it began in. -/

theorem BodyFine.of_ok {s t : State} (h : t.wf = true) : BodyFine s (.ok () t) :=
  ⟨fun u e => (by cases e; exact h), fun err u e => (by cases e)⟩

theorem BodyFine.of_error {s t : State} {err : Stop} (h : Fine s t) : BodyFine s (.error err t) :=
  ⟨fun u e => (by cases e), fun err u e => (by cases e; exact h)⟩

/-- From a well-formed state the body completes in one, and stops after a change that `Fine` allows. -/
structure BodyWf (a : Act Unit) : Prop where
  ends : ∀ s : State, s.wf = true → BodyFine s (a s)

theorem BodyWf.of_fine {a : Act Unit} (h : Keeps Fine a) : BodyWf a where
  ends s w := ⟨fun t e => (h.1 s () t e).wf w, fun err t e => h.2 s err t e⟩

theorem BodyWf.seq {α : Type} {a : Act α} {f : α → Act Unit} (ha : Keeps Fine a) (hf : ∀ v, BodyWf (f v)) : BodyWf (a >>= f) where
  ends s w := by
    rw [bind_apply]
    cases e : a s with
    | ok v t =>
      have reached := ha.1 s v t e
      have last := (hf v).ends t (reached.wf w)
      exact ⟨last.ok, fun err u h => fine_steady.trans s t u reached (last.error err u h)⟩
    | error err t => exact .of_error (ha.2 s err t e)

theorem BodyWf.ite {c : Bool} {a b : Act Unit} (ha : BodyWf a) (hb : BodyWf b) : BodyWf (if c then a else b) := by
  split
  · exact ha
  · exact hb

theorem answerAllowed_wf {s t : State} (h : answerAllowed s t = true) : t.wf = true := by
  simp only [answerAllowed, Bool.and_eq_true] at h
  exact h.2

theorem farTransferPm_wf (kind : FarKind) (osz : Size) (sel : Sel) (off : Word) : BodyWf (farTransferPm kind osz sel off) where
  ends s _ := by
    unfold farTransferPm
    split
    · exact .of_ok (answerAllowed_wf (pmFarTransfer_allowed ‹_›))
    · exact .of_error (fine_steady.refl s)
    · exact .of_error (fine_steady.refl s)

theorem iretPm_wf (osz : Size) : BodyWf (iretPm osz) where
  ends s _ := by
    unfold iretPm
    split
    · exact .of_ok (answerAllowed_wf (pmIret_allowed ‹_›))
    · exact .of_error (fine_steady.refl s)
    · exact .of_error (fine_steady.refl s)

theorem farJump_wf (p : Pfx) {target : Act (Word × Sel)} (ht : Keeps Fine target) : BodyWf (farJump p target) :=
  .seq ht fun _ => .seq (.look fine_steady _) fun _ => .ite (farTransferPm_wf ..) (.of_fine (farLoadReal_fine ..))

theorem farCall_wf (p : Pfx) {target : Act (Word × Sel)} (ht : Keeps Fine target) : BodyWf (farCall p target) :=
  .seq ht fun _ => .seq (.look fine_steady _) fun _ => .ite (farTransferPm_wf ..) <| .seq (nearTarget_fine ..) fun _ =>
    .seq (.look fine_steady _) fun _ => .seq (.look fine_steady _) fun _ => .seq (pushSel_fine ..) fun _ => .seq (push_fine _) fun _ =>
      .of_fine (farLoadReal_fine ..)

theorem returnFar_wf (p : Pfx) (kind : FarKind) (imm : BitVec 16) : BodyWf (returnFar p kind imm) :=
  .seq (.look fine_steady _) fun _ => .ite
    (.seq (readTop_touches _).fine fun _ => .seq (.look fine_steady _) fun _ => .seq (memReadBits_touches ..).fine fun _ => farTransferPm_wf ..)
    (.seq (pop_fine _) fun _ => .seq (pop_fine _) fun _ => .seq (farLoadReal_fine ..) fun _ => .of_fine (.update fun _ => fine_dropStack _ _))

/-- The mask of IRET leaves VM out (spec/46_control_transfer.md R569). -/
theorem iretMask_vm (osz : Size) : (iretMask osz).getLsbD 17 = false := by
  cases osz with
  | w16 | w32 => rfl

theorem interruptReturn_wf (p : Pfx) : BodyWf (interruptReturn p) :=
  .seq (.look fine_steady _) fun _ => .ite (iretPm_wf _) <| .seq (pop_fine _) fun _ => .seq (pop_fine _) fun _ => .seq (pop_fine _) fun _ =>
    .seq (farLoadReal_fine ..) fun _ => .of_fine (.update fun _ => fine_setEflags _ _ _ (iretMask_vm _))

/-- A value CR0 has held once is held as it is (R44). -/
theorem cr0Of_cr0Of (gen : CpuGen) (v : Word) : cr0Of gen (cr0Of gen v) = cr0Of gen v := by
  unfold cr0Of
  ext i hi
  simp only [BitVec.getElem_or, BitVec.getElem_and]
  cases v[i] <;> cases (cr0Mask gen)[i] <;> cases (0x10#32)[i] <;> rfl

/-- Clearing bits of CR0 other than ET, and setting bits that exist, keeps the reserved bits. -/
theorem cr0Of_replace {gen : CpuGen} {c keep set : Word} (h : cr0Of gen c = c) (hk : 0x10#32 &&& keep = 0x10#32) (hs : set &&& cr0Mask gen = set) :
    cr0Of gen (c &&& keep ||| set) = c &&& keep ||| set := by
  have bit : ∀ c k s m e : Bool, (c && m || e) = c → (e && k) = e → (s && m) = s → ((c && k || s) && m || e) = (c && k || s) := by decide
  unfold cr0Of at *
  ext i hi
  have hc := congrArg (·[i]) h
  have hk := congrArg (·[i]) hk
  have hs := congrArg (·[i]) hs
  simp only [BitVec.getElem_or, BitVec.getElem_and] at hc hk hs ⊢
  exact bit _ _ _ _ _ hc hk hs

/-- PE and PG are bits of every generation. -/
theorem cr0Of_pePg (gen : CpuGen) (v : Word) : (cr0Of gen v).getLsbD 0 = v.getLsbD 0 ∧ (cr0Of gen v).getLsbD 31 = v.getLsbD 31 := by
  cases gen with
  | g386 | g486 | g586 => simp [cr0Of, cr0Mask]

/-- MOV CR0 keeps the relations of PE, PG, CPL and the TLB: PG without PE is rejected, and only CPL 0 gets so far (spec/49_system.md R670). -/
theorem putCr0_wf {s : State} {v : Word} (w : s.wf = true) (hv : v.getLsbD 31 = true → v.getLsbD 0 = true) (hcpl : s.cpl = 0#2) :
    (s.putCr0 v).wf = true := by
  obtain ⟨⟨mem, tlbR, tlbW, fmap, handlers, caps⟩, eflags, -, -, -, tlb⟩ := (wf_iff s).1 w
  obtain ⟨pe, pg⟩ := cr0Of_pePg s.cfg.gen v
  have reserved := cr0Of_cr0Of s.cfg.gen v
  have needsPe : (cr0Of s.cfg.gen v).getLsbD 31 = true → (cr0Of s.cfg.gen v).getLsbD 0 = true := by rw [pe, pg]; exact hv
  unfold State.putCr0
  simp only
  split
  · next same => exact (wf_iff _).2 ⟨⟨mem, tlbR, tlbW, fmap, handlers, caps⟩, eflags, reserved, needsPe, .inr hcpl, by rw [same]; exact tlb⟩
  · exact (wf_iff _).2 ⟨⟨mem, rfl, rfl, fmap, handlers, caps⟩, eflags, reserved, needsPe, .inr hcpl, .inr ⟨rfl, rfl⟩⟩

/-- A privileged instruction goes on at CPL 0 alone (R682). -/
theorem privCheck_cases {s : State} (w : s.wf = true) : privCheck s = .error (.fault 13#8 (some 0#32)) s ∨ privCheck s = .ok () s ∧ s.cpl = 0#2 := by
  obtain ⟨-, -, -, -, realCpl, -⟩ := (wf_iff s).1 w
  unfold privCheck
  rw [bind_ok (look_apply _ _)]
  by_cases hcpl : s.cpl = 0#2
  · exact .inr ⟨by simp [hcpl], hcpl⟩
  · exact .inl (by simp [hcpl, realCpl.resolve_right hcpl])

theorem writeCr0_wf (r : Reg) : BodyWf (writeCr0 r) where
  ends s w := by
    unfold writeCr0
    rcases privCheck_cases w with h | ⟨h, hcpl⟩
    · rw [bind_error h]
      exact .of_error (fine_steady.refl s)
    · rw [bind_ok h, bind_ok (look_apply _ _), bind_ok (look_apply _ _)]
      split
      · exact .of_error (fine_steady.refl s)
      · next accepted =>
        refine .of_ok (putCr0_wf w (fun pg => ?_) hcpl)
        simp only [cr0Rejected, pg, Bool.true_and, Bool.or_eq_true, Bool.not_eq_true', not_or, Bool.not_eq_false] at accepted
        exact accepted.1

/-- LMSW and CLTS change none of PG, the reserved bits and, but to set it, PE (R675, R678). -/
theorem fine_setCr0 {s : State} {v : Word} (reserved : cr0Of s.cfg.gen s.cr0 = s.cr0 → cr0Of s.cfg.gen v = v)
    (pg : v.getLsbD 31 = s.cr0.getLsbD 31) (pe : s.cr0.getLsbD 0 = true → v.getLsbD 0 = true) : Fine s { s with cr0 := v } := by
  refine ⟨rfl, pg, ⟨rfl, rfl, rfl⟩, ⟨rfl, rfl⟩, List.suffix_refl _, le_refl _, fun w => ?_⟩
  obtain ⟨tables, eflags, cr0, needsPe, realCpl, tlb⟩ := (wf_iff s).1 w
  refine (wf_iff _).2 ⟨tables, eflags, reserved cr0, fun h => pe (needsPe (pg.symm.trans h)), realCpl.imp_left pe, ?_⟩
  exact tlb.imp_left fun h => pg.trans h

theorem loadStatusWord_fine (p : Pfx) (rm : RM) : Keeps Fine (loadStatusWord p rm) := by
  refine fine_routine.seq privCheck_fine fun _ => fine_routine.seq (fine_routine.readsRM ..) fun v => .update fun s => fine_setCr0 ?_ ?_ ?_
  · refine fun h => cr0Of_replace h rfl ?_
    cases s.cfg.gen with
    | g386 | g486 | g586 => rw [BitVec.and_assoc]; rfl
  · simp [lmswValue]
  · intro h
    simp [lmswValue, h]

theorem clearTaskSwitched_fine : Keeps Fine clearTaskSwitched := by
  refine fine_routine.seq privCheck_fine fun _ => .update fun s => fine_setCr0 ?_ ?_ ?_
  · exact fun h => by simpa using cr0Of_replace (set := 0#32) h rfl (by simp)
  · simp
  · intro h
    simp [h]

/-- The mask of POPF leaves VM out (spec/47_flags.md R617). -/
theorem popfMask_vm (osz : Size) (pe : Bool) (cpl iopl : BitVec 2) : (popfMask osz pe cpl iopl).getLsbD 17 = false := by
  unfold popfMask
  cases osz with
  | w16 | w32 =>
    simp only
    split
    · rfl
    · split <;> rfl

/-- The end of POPF: the masked write, and the clear RF of POPFD (R617). -/
def popfWrite (osz : Size) (v : Word) (s : State) : State :=
  let t := s.setEflags v (popfMask osz s.pe s.cpl s.iopl)
  match osz with
  | .w16 => t
  | .w32 => t.setFlag .rf false

theorem popFlags_eq (osz : Size) : popFlags osz = (do let v ← pop osz.width.bits; update (popfWrite osz (v.setWidth 32))) := by
  funext s
  unfold popFlags
  rw [bind_apply, bind_apply]
  cases pop osz.width.bits s with
  | ok v t =>
    cases osz with
    | w16 | w32 => rfl
  | error => rfl

theorem popFlags_fine (osz : Size) : Keeps Fine (popFlags osz) := by
  rw [popFlags_eq]
  refine fine_routine.seq (pop_fine _) fun v => .update fun s => ?_
  have masked := fine_setEflags s (v.setWidth 32) _ (popfMask_vm osz s.pe s.cpl s.iopl)
  cases osz with
  | w16 => exact masked
  | w32 => exact fine_steady.trans _ _ _ masked (fine_setFlag _ .rf false (.inr rfl))

theorem ssShadow_fine (r : SegReg) : Keeps Fine (ssShadow r) := .ite (.update fun s => fine_setShadow s _) (.pure fine_steady _)

theorem ioplCheck_fine : Keeps Fine ioplCheck := fine_routine.seq (fine_routine.looks _) fun _ => .ite (fine_routine.stops _) (fine_routine.value _)

theorem setInterrupt_fine : Keeps Fine setInterrupt := by
  refine fine_routine.seq ioplCheck_fine fun _ => fine_routine.seq (.update fun s => ?_) fun _ => .update fun s => fine_setFlag s _ _ (.inl (by decide))
  split
  · exact fine_steady.refl s
  · exact fine_setShadow s _

theorem fine_setCr3 (s : State) (v : Word) : Fine s { s with cr3 := v } :=
  ⟨rfl, rfl, ⟨rfl, rfl, rfl⟩, ⟨rfl, rfl⟩, List.suffix_refl _, le_refl _, id⟩

/-- Every special body completes in a well-formed state. -/
theorem specialBody_wf (p : Pfx) (i : Instr) (a : Act Unit) (e : specialBody p i = some a) : BodyWf a := by
  have h := fine_routine
  cases i with
  | jmpPtr => cases e; exact farJump_wf p (h.value _)
  | jmpMemFar => cases e; exact farJump_wf p (h.readsFarPointer ..)
  | callPtr => cases e; exact farCall_wf p (h.value _)
  | callMemFar => cases e; exact farCall_wf p (h.readsFarPointer ..)
  | retf | retfIw => cases e; exact returnFar_wf ..
  | iret => cases e; exact interruptReturn_wf p
  | movCr0R32 => cases e; exact writeCr0_wf _
  | movSregRm16 => cases e; exact .of_fine (h.seq (h.readsRM ..) fun _ => h.seq (loadSeg_fine ..) fun _ => ssShadow_fine _)
  | popEs | popSs | popDs | popFs | popGs =>
    cases e
    exact .of_fine <| h.seq (readTop_touches _).fine fun _ => h.seq (h.looks _) fun _ => h.seq (loadSeg_fine ..) fun _ =>
      h.seq (.update fun s => h.regs s _ _) fun _ => ssShadow_fine _
  | ldsRMemFar | lesRMemFar | lssRMemFar | lfsRMemFar | lgsRMemFar =>
    cases e
    exact .of_fine <| h.seq (h.readsFarPointer ..) fun _ => h.seq (loadSeg_fine ..) fun _ => h.writesReg ..
  | popf => cases e; exact .of_fine (popFlags_fine _)
  | cli => cases e; exact .of_fine (h.seq ioplCheck_fine fun _ => .update fun s => fine_setFlag s _ _ (.inr rfl))
  | sti => cases e; exact .of_fine setInterrupt_fine
  | movCr2R32 => cases e; exact .of_fine (h.seq h.checksPrivilege fun _ => .update fun s => fine_setCr2 s _)
  | movCr3R32 =>
    cases e
    exact .of_fine <| h.seq h.checksPrivilege fun _ => .update fun s => fine_steady.trans _ _ _ (fine_setCr3 s _) (clearTlb_fine _)
  | lmswRm16 => cases e; exact .of_fine (loadStatusWord_fine ..)
  | invlpgM => cases e; exact .of_fine (h.seq h.checksPrivilege fun _ => h.seq (h.looks _) fun _ => .update clearTlb_fine)
  | clts => cases e; exact .of_fine clearTaskSwitched_fine
  | hlt => cases e; exact .of_fine (h.seq h.checksPrivilege fun _ => .update fun s => fine_setHalted s true)
  | _ => cases e

/-! Every step keeps the invariant. -/

/-- A special instruction is its special body behind its generation gate and its LOCK rule. -/
theorem exec_special {i : Instr} {s : State} {a : Act Unit} (h : specialBody s.pfx i = some a) :
    ∃ gen body, exec i s = perform gen false body s ∧ body s.pfx = a := by
  cases i with
  | movSregRm16 => exact ⟨_, _, exec_movSregRm16_eq s _ _, Option.some.inj h⟩
  | popEs => exact ⟨_, _, exec_popEs_eq s, Option.some.inj h⟩
  | popSs => exact ⟨_, _, exec_popSs_eq s, Option.some.inj h⟩
  | popDs => exact ⟨_, _, exec_popDs_eq s, Option.some.inj h⟩
  | popFs => exact ⟨_, _, exec_popFs_eq s, Option.some.inj h⟩
  | popGs => exact ⟨_, _, exec_popGs_eq s, Option.some.inj h⟩
  | ldsRMemFar => exact ⟨_, _, exec_ldsRMemFar_eq s _ _, Option.some.inj h⟩
  | lesRMemFar => exact ⟨_, _, exec_lesRMemFar_eq s _ _, Option.some.inj h⟩
  | lssRMemFar => exact ⟨_, _, exec_lssRMemFar_eq s _ _, Option.some.inj h⟩
  | lfsRMemFar => exact ⟨_, _, exec_lfsRMemFar_eq s _ _, Option.some.inj h⟩
  | lgsRMemFar => exact ⟨_, _, exec_lgsRMemFar_eq s _ _, Option.some.inj h⟩
  | jmpPtr => exact ⟨_, _, exec_jmpPtr_eq s _ _, Option.some.inj h⟩
  | jmpMemFar => exact ⟨_, _, exec_jmpMemFar_eq s _, Option.some.inj h⟩
  | callPtr => exact ⟨_, _, exec_callPtr_eq s _ _, Option.some.inj h⟩
  | callMemFar => exact ⟨_, _, exec_callMemFar_eq s _, Option.some.inj h⟩
  | retf => exact ⟨_, _, exec_retf_eq s, Option.some.inj h⟩
  | retfIw => exact ⟨_, _, exec_retfIw_eq s _, Option.some.inj h⟩
  | iret => exact ⟨_, _, exec_iret_eq s, Option.some.inj h⟩
  | popf => exact ⟨_, _, exec_popf_eq s, Option.some.inj h⟩
  | cli => exact ⟨_, _, exec_cli_eq s, Option.some.inj h⟩
  | sti => exact ⟨_, _, exec_sti_eq s, Option.some.inj h⟩
  | movCr0R32 => exact ⟨_, _, exec_movCr0R32_eq s _, Option.some.inj h⟩
  | movCr2R32 => exact ⟨_, _, exec_movCr2R32_eq s _, Option.some.inj h⟩
  | movCr3R32 => exact ⟨_, _, exec_movCr3R32_eq s _, Option.some.inj h⟩
  | lmswRm16 => exact ⟨_, _, exec_lmswRm16_eq s _, Option.some.inj h⟩
  | invlpgM => exact ⟨_, _, exec_invlpgM_eq s _, Option.some.inj h⟩
  | clts => exact ⟨_, _, exec_clts_eq s, Option.some.inj h⟩
  | hlt => exact ⟨_, _, exec_hlt_eq s, Option.some.inj h⟩
  | _ => cases h

theorem exec_wf {i : Instr} {s t : State} (w : s.wf = true) (e : exec i s = .next t) : t.wf = true := by
  have body : ∃ (gen : CpuGen) (lockable : Bool) (body : Pfx → Act Unit), exec i s = perform gen lockable body s ∧ BodyWf (body s.pfx) := by
    cases hs : specialBody s.pfx i with
    | some a =>
      obtain ⟨gen, body, hb, rfl⟩ := exec_special hs
      exact ⟨gen, false, body, hb, specialBody_wf _ i _ hs⟩
    | none =>
      obtain ⟨gen, lockable, body, hb, k⟩ := exec_bodyKeeps fine_routine i s fun a ha => by rw [hs] at ha; cases ha
      exact ⟨gen, lockable, body, hb, .of_fine k⟩
  obtain ⟨gen, lockable, body, hb, k⟩ := body
  have gated : BodyWf (do requireGen gen; requireLock lockable s.pfx; body s.pfx) :=
    .seq (requireGen_fine gen) fun _ => .seq (requireLock_fine ..) fun _ => k
  rw [hb] at e
  exact wf_finish w (gated.ends s w) e

theorem runInstr_wf {s t : State} (w : s.wf = true) (h : runInstr exec s = .next t) : t.wf = true := by
  have fetched := fetchDec_keeps fine_steady (fun _ _ => Touches.fine) fine_setEip (decInstr s.cfg.gen s.codeBig s.prefixes) []
  rcases runInstr_cases exec s with ⟨err, u, hr, hu⟩ | ⟨p, i, bs, u, hu, hr⟩
  · have kept : Fine s u := by
      rcases hu with hu | ⟨d, hu⟩
      · exact fetched.2 _ _ _ hu
      · exact fetched.1 _ _ _ hu
    rw [hr] at h
    exact wf_finish w (.of_error kept) h
  · rw [hr] at h
    have decoded : (withDecoded p bs u).wf = true := (fetched.1 _ _ _ hu).wf w
    exact exec_wf decoded h

/-- Settles O10: the body of every instruction, a fetch, a delivery, and what a step does around them keep the invariant. -/
theorem stepKeepsWellFormed : Obligations.StepKeepsWellFormed := by
  intro s t w h
  obtain ⟨-, ⟨v, -, rfl⟩ | ⟨-, rfl⟩ | ⟨u, hu, rfl⟩⟩ := step_cases h
  · have delivered := wf_deliver v none .external s.eip s w
    rcases acceptIntr_cases v s with e | e <;> rw [e] <;> exact delivered
  · exact w
  · have executed : u.wf = true := runInstr_wf (s := startInstr s) w hu
    have trapped : (singleStep s u).wf = true := by
      rcases singleStep_cases s u with e | e <;> rw [e]
      · exact executed
      · exact wf_deliver _ _ _ _ _ executed
    rcases reportHalt_cases (singleStep s u) with e | e <;> rw [e] <;> exact trapped

end Sys2Proof.Machine
end

section
/-! PROOFS. What a write of a register or of the flags leaves alone, bit for bit (spec/10_state.md R31, R32, R34, R37, R38; spec/47_flags.md
R615). -/

namespace Sys2Proof.Machine

/-! Registers. -/

/-- A byte register is its parent and the half of it (R31). -/
theorem byteReg_ext {q r : Reg} (hp : byteParent q = byteParent r) (hh : byteIsHigh q = byteIsHigh r) : q = r := by
  revert hp hh
  cases q <;> cases r <;> decide

/-- A field above the byte that a write of a low byte register replaces. -/
theorem extract_above_byte (x : Word) (v : Byte) {k n : Nat} (hk : 8 ≤ k) (hn : k + n ≤ 32) :
    (x.extractLsb' 8 24 ++ v).extractLsb' k n = x.extractLsb' k n := by
  apply BitVec.eq_of_getLsbD_eq
  intro i hi
  have above : ¬k + i < 8 := by omega
  have field : k + i - 8 < 24 := by omega
  have place : 8 + (k + i - 8) = k + i := by omega
  simp only [BitVec.getLsbD_extractLsb', BitVec.getLsbD_append, above, if_false, field, place, decide_true, Bool.true_and]

/-- The upper half of a register of which a high byte register is replaced. -/
theorem extract_above_high (x : Word) (v : Byte) : (x.extractLsb' 16 16 ++ v ++ x.extractLsb' 0 8).extractLsb' 16 16 = x.extractLsb' 16 16 := by
  apply BitVec.eq_of_getLsbD_eq
  intro i hi
  have above : ¬16 + i < 8 ∧ ¬16 + i - 8 < 8 := by omega
  have place : 16 + (16 + i - 8 - 8) = 16 + i := by omega
  have field : 16 + i - 8 - 8 < 16 := by omega
  simp only [BitVec.getLsbD_extractLsb', BitVec.getLsbD_append, above, if_false, field, place, decide_true, Bool.true_and]

theorem RegFile.get8_set8_ne (f : RegFile) {q r : Reg} (v : Byte) (h : q ≠ r) : (f.set8 r v).get8 q = f.get8 q := by
  by_cases hp : byteParent q = byteParent r
  · cases hr : byteIsHigh r <;> cases hq : byteIsHigh q
    · exact absurd (byteReg_ext hp (hq.trans hr.symm)) h
    · simp only [RegFile.get8, RegFile.set8, hp, hq, hr, RegFile.get_set, if_true, Bool.false_eq_true, if_false]
      exact extract_above_byte _ v (by decide) (by decide)
    · simp only [RegFile.get8, RegFile.set8, hp, hq, hr, RegFile.get_set, if_true, Bool.false_eq_true, if_false]
      exact extract_low (n := 24) (m := 8) _ _
    · exact absurd (byteReg_ext hp (hq.trans hr.symm)) h
  · cases hr : byteIsHigh r <;> simp [RegFile.get8, RegFile.set8, hr, hp]

theorem RegFile.upper_set8 (f : RegFile) (r : Reg) (v : Byte) :
    ((f.set8 r v).get (byteParent r)).extractLsb' 16 16 = (f.get (byteParent r)).extractLsb' 16 16 := by
  cases hr : byteIsHigh r
  · simp only [RegFile.set8, hr, RegFile.get_set, if_true, Bool.false_eq_true, if_false]
    exact extract_above_byte _ v (by decide) (by decide)
  · simp only [RegFile.set8, hr, RegFile.get_set, if_true]
    exact extract_above_high _ v

theorem RegFile.upper_set16 (f : RegFile) (r : Reg) (v : BitVec 16) :
    ((f.set16 r v).get r).extractLsb' 16 16 = (f.get r).extractLsb' 16 16 := by
  simp only [RegFile.set16, RegFile.get_set, if_true]
  exact extract_high (n := 16) (m := 16) _ _

/-- A write of any width changes one 32-bit register alone (R32). -/
theorem RegFile.get_setW_ne (f : RegFile) (w : Width) {r q : Reg} (v : BitVec w.bits) (h : q ∉ destRegs w (.reg r)) :
    (f.setW w r v).get q = f.get q := by
  cases w with
  | b8 =>
    have hq : q ≠ byteParent r := by simpa [destRegs] using h
    cases hr : byteIsHigh r <;> simp [RegFile.setW, RegFile.set8, hr, hq]
  | b16 =>
    have hq : q ≠ r := by simpa [destRegs] using h
    simp [RegFile.setW, RegFile.set16, hq]
  | b32 =>
    have hq : q ≠ r := by simpa [destRegs] using h
    exact (RegFile.get_set ..).trans (if_neg hq)

theorem State.gpr32_setGpr_ne (s : State) (w : Width) {r q : Reg} (v : BitVec w.bits) (h : q ∉ destRegs w (.reg r)) :
    (s.setGpr w r v).gpr32 q = s.gpr32 q := RegFile.get_setW_ne s.regs w v h

/-- No write takes a written bit back (R34). -/
theorem State.written_setGpr (s : State) (w : Width) (r : Reg) (v : BitVec w.bits) : (s.setGpr w r v).written &&& s.written = s.written := by
  rw [State.setGpr_written]
  ext i hi
  simp only [BitVec.getElem_and, BitVec.getElem_or]
  cases s.written[i] <;> simp

/-- Settles O26, one view at a time. -/
theorem registerViews : Obligations.RegisterViews := by
  refine fun s w r v => ⟨s.gpr_setGpr w r v, fun q h => s.gpr32_setGpr_ne w v h, ?_, ?_, ?_, s.written_setGpr w r v⟩
  · rintro rfl
    exact s.regs.upper_set16 r v
  · rintro rfl q h
    exact s.regs.get8_set8_ne v h
  · rintro rfl
    exact s.regs.upper_set8 r v

/-! The status flags. -/

theorem getLsbD_flagBit (f : Flag) {k : Nat} (hk : k < 32) : (1#32 <<< f.bit).getLsbD k = decide (k = f.bit) := by
  revert k
  cases f <;> decide

theorem getLsbD_putFlag (v : Word) (f : Flag) (b : Bool) {k : Nat} (hk : k < 32) :
    (putFlag v f b).getLsbD k = if k = f.bit then b else v.getLsbD k := by
  unfold putFlag
  cases b
  · rw [if_neg Bool.false_ne_true, BitVec.getLsbD_and, BitVec.getLsbD_not, getLsbD_flagBit f hk]
    by_cases h : k = f.bit <;> simp [h, hk]
  · rw [if_pos rfl, BitVec.getLsbD_or, getLsbD_flagBit f hk]
    by_cases h : k = f.bit <;> simp [h]

/-- The places of the status flags in the word they are put into (R37). -/
theorem Status.getLsbD_put (st : Status) (v : Word) {k : Nat} (hk : k < 32) : (st.put v).getLsbD k =
    if k = 11 then st.of else if k = 7 then st.sf else if k = 6 then st.zf else if k = 4 then st.af else if k = 2 then st.pf
    else if k = 0 then st.cf else v.getLsbD k := by
  simp only [Status.put, getLsbD_putFlag _ _ _ hk]
  rfl

theorem Status.of32_put (st : Status) (v : Word) : Status.of32 (st.put v) = st := by
  have flag (f : Flag) : getFlag (st.put v) f = (st.put v).getLsbD f.bit := rfl
  have bit (k : Nat) (hk : k < 32) := st.getLsbD_put v hk
  simp only [Status.of32, flag, Flag.bit, bit 0 (by decide), bit 2 (by decide), bit 4 (by decide), bit 6 (by decide), bit 7 (by decide),
    bit 11 (by decide)]
  rfl

/-- Writing status flags keeps every bit outside a mask that covers those that change. -/
theorem Status.put_frame {st : Status} {v m : Word} (cf : m.getLsbD 0 = true ∨ st.cf = v.getLsbD 0) (pf : m.getLsbD 2 = true ∨ st.pf = v.getLsbD 2)
    (af : m.getLsbD 4 = true ∨ st.af = v.getLsbD 4) (zf : m.getLsbD 6 = true ∨ st.zf = v.getLsbD 6)
    (sf : m.getLsbD 7 = true ∨ st.sf = v.getLsbD 7) (of : m.getLsbD 11 = true ∨ st.of = v.getLsbD 11) :
    st.put v &&& ~~~m = v &&& ~~~m := by
  apply BitVec.eq_of_getLsbD_eq
  intro k hk
  rw [BitVec.getLsbD_and, BitVec.getLsbD_and, Status.getLsbD_put st v hk, BitVec.getLsbD_not]
  simp only [hk, decide_true, Bool.true_and]
  by_cases masked : m.getLsbD k = true
  · simp [masked]
  · grind

/-- Writing status flags keeps every bit but the six (R37). -/
theorem Status.put_keeps (st : Status) (v : Word) : st.put v &&& ~~~0x8D5#32 = v &&& ~~~0x8D5#32 :=
  Status.put_frame (.inl rfl) (.inl rfl) (.inl rfl) (.inl rfl) (.inl rfl) (.inl rfl)

/-! Writes under a mask. -/

/-- What forcing the fixed bits leaves in a bit (R38). -/
theorem getLsbD_forceFixed (gen : CpuGen) (v : Word) {k : Nat} (hk : k < 32) :
    (forceFixed gen v).getLsbD k = (decide (k = 1) || !(fixedZero gen).getLsbD k && v.getLsbD k) := by
  have one : ∀ k < 32, (0x2#32).getLsbD k = decide (k = 1) := by decide
  rw [forceFixed, BitVec.getLsbD_or, BitVec.getLsbD_and, BitVec.getLsbD_not, one k hk]
  simp only [hk, decide_true, Bool.true_and]
  rw [Bool.or_comm, Bool.and_comm]

/-- The bits a generation leaves out of a mask are fixed bits. -/
theorem getLsbD_writableMask {gen : CpuGen} (mask : Word) {k : Nat} (hk : k < 32) (hz : (fixedZero gen).getLsbD k = false) :
    (writableMask gen mask).getLsbD k = mask.getLsbD k := by
  have absent386 : ∀ k < 32, (0xFFFC8028#32).getLsbD k = false → (~~~0x00240000#32).getLsbD k = true := by decide
  have absent486 : ∀ k < 32, (0xFFF88028#32).getLsbD k = false → (~~~0x00200000#32).getLsbD k = true := by decide
  cases gen with
  | g386 => rw [writableMask, BitVec.getLsbD_and, absent386 k hk hz, Bool.and_true]
  | g486 => rw [writableMask, BitVec.getLsbD_and, absent486 k hk hz, Bool.and_true]
  | g586 => rfl

/-- Bit 1 reads 1 (R38). -/
theorem getLsbD_mergeFlags_one (gen : CpuGen) (old v mask : Word) : (mergeFlags gen old v mask).getLsbD 1 = true := by
  rw [mergeFlags, getLsbD_forceFixed _ _ (by decide)]
  rfl

/-- The other fixed bits read 0 (R38). -/
theorem getLsbD_mergeFlags_fixed {gen : CpuGen} (old v mask : Word) {k : Nat} (hk : k < 32) (hz : (fixedZero gen).getLsbD k = true) :
    (mergeFlags gen old v mask).getLsbD k = false := by
  have notOne : k ≠ 1 := by
    rintro rfl
    cases gen <;> exact absurd hz (by decide)
  rw [mergeFlags, getLsbD_forceFixed _ _ hk, hz]
  simp [notOne]

/-- The bits that are not fixed are the new or the old ones, as the mask says (R615). -/
theorem getLsbD_mergeFlags_free {gen : CpuGen} (old v mask : Word) {k : Nat} (hk : k < 32) (h1 : k ≠ 1)
    (hz : (fixedZero gen).getLsbD k = false) :
    (mergeFlags gen old v mask).getLsbD k = if mask.getLsbD k then v.getLsbD k else old.getLsbD k := by
  simp only [mergeFlags]
  rw [getLsbD_forceFixed _ _ hk, hz, BitVec.getLsbD_or, BitVec.getLsbD_and, BitVec.getLsbD_and, BitVec.getLsbD_not,
    getLsbD_writableMask mask hk hz]
  cases mask.getLsbD k <;> simp [h1, hk]

/-- Settles O29, from what each write leaves in each bit. -/
theorem flagWritesKeepTheRest : Obligations.FlagWritesKeepTheRest := fun s st v mask =>
  ⟨rfl, st.of32_put v, st.put_keeps v, fun _ hk hz => getLsbD_mergeFlags_fixed s.eflags v mask hk hz,
    getLsbD_mergeFlags_one s.cfg.gen s.eflags v mask, fun _ hk h1 hz => getLsbD_mergeFlags_free s.eflags v mask hk h1 hz, rfl⟩

end Sys2Proof.Machine
end

section
/-! PROOFS. A fetch with paging off reads the bytes that stand at the program counter (spec/30_encoding.md R200 to R204; spec/20_memory.md R121,
R140), and the segment instructions of real mode (spec/48_segment_loads.md R640 to R647). -/

namespace Sys2Proof.Machine

/-! Fetching with paging off. -/

theorem translate_off {s : State} (hpg : s.pg = false) (la : Word) (write : Bool) : translate la write s = .ok (translateOff s la) s := by
  unfold translate
  rw [if_neg (by simp [hpg])]

/-- The byte that a fetch at an offset reads stands there: the CS limit lets it through, and it lies in RAM or ROM. -/
def State.byteAt (s : State) (off : Word) (b : Byte) : Prop :=
  let pa := inPage (translateOff s (s.segs.cs.base + off)).1 (s.segs.cs.base + off)
  off.toNat ≤ s.segs.cs.limit.toNat ∧ (s.handler (pageOf pa) = .ram ∨ s.handler (pageOf pa) = .rom) ∧ memByte s.mem pa.toNat = b

theorem handlerRead_byte {s : State} {pa : Word} {ro : Bool} (h : s.handler (pageOf pa) = .ram ∨ s.handler (pageOf pa) = .rom) :
    handlerRead ⟨pa, 1, ro⟩ s = .ok [memByte s.mem pa.toNat] s := by
  unfold handlerRead
  rcases h with h | h <;> simp only [h] <;> rfl

theorem linRead_byte {s : State} {la : Word} (hpg : s.pg = false)
    (h : s.handler (pageOf (inPage (translateOff s la).1 la)) = .ram ∨ s.handler (pageOf (inPage (translateOff s la).1 la)) = .rom) :
    linRead la 1 s = .ok [memByte s.mem (inPage (translateOff s la).1 la).toNat] s := by
  have resolved : resolveLin la 1 false s = .ok [⟨inPage (translateOff s la).1 la, 1, (translateOff s la).2⟩] s := by
    unfold resolveLin
    simp only [Nat.sub_self, BitVec.add_zero, if_true]
    rw [bind_ok (translate_off hpg la false)]
    simp [physSpan]
  unfold linRead
  rw [bind_ok resolved, readSpan, bind_ok (handlerRead_byte h)]
  rfl

theorem fetchByte_at {s : State} {b : Byte} (hpg : s.pg = false) (hlen : s.eip - s.eipStart ≠ 15#32) (h : s.byteAt s.eip b) :
    fetchByte s = .ok b { s with eip := s.eip + 1#32 } := by
  obtain ⟨limit, handler, rfl⟩ := h
  unfold fetchByte
  rw [bind_ok (look_apply _ _), bind_ok (look_apply _ _), bind_ok (look_apply _ _), if_neg hlen, if_neg (by omega),
    bind_ok (linRead_byte hpg handler)]
  rfl

theorem Dec.run_done (n : Nat) (r : Decoded) (bs : List Byte) : (Dec.done r).run n bs = (r, bs) := by
  cases n <;> rfl

/-- The decoder reads the same from the bytes fetched as from a list of them: `n` bytes are still allowed (R204). -/
theorem fetchDec_run {p : Pfx} {i : Instr} (bs : List Byte) (n : Nat) (d : Dec) (seen : List Byte) (s : State) (hpg : s.pg = false) (hn : n ≤ 15)
    (hlen : s.eip - s.eipStart = BitVec.ofNat 32 (15 - n)) (hd : d.run n bs = (.instr p i, []))
    (h : ∀ k, (hk : k < bs.length) → s.byteAt (s.eip + BitVec.ofNat 32 k) bs[k]) :
    fetchDec d seen s = .ok (.instr p i, seen ++ bs) { s with eip := s.eip + BitVec.ofNat 32 bs.length } := by
  induction bs generalizing n d seen s with
  | nil =>
    cases d with
    | done r =>
      rw [Dec.run_done] at hd
      cases hd
      simp [fetchDec]
    | byte k => cases n <;> cases hd
  | cons b bs ih =>
    cases d with
    | done r =>
      rw [Dec.run_done] at hd
      cases hd
    | byte k =>
      cases n with
      | zero => cases hd
      | succ n =>
        have more : s.eip - s.eipStart ≠ 15#32 := by
          rw [hlen]
          intro e
          have := congrArg BitVec.toNat e
          simp at this
          omega
        have first : s.byteAt s.eip b := by
          have zero := h 0 (by simp)
          rw [BitVec.add_zero] at zero
          exact zero
        have next (k : Nat) : s.eip + 1#32 + BitVec.ofNat 32 k = s.eip + BitVec.ofNat 32 (k + 1) := by
          rw [Nat.add_comm k 1, BitVec.ofNat_add, BitVec.add_assoc]
        have gone : s.eip + 1#32 - s.eipStart = BitVec.ofNat 32 (15 - n) := by
          have count : 15 - n = 15 - (n + 1) + 1 := by omega
          rw [count, BitVec.ofNat_add, ← hlen]
          bv_omega
        have rest := ih n (k b) (seen ++ [b]) { s with eip := s.eip + 1#32 } hpg (by omega) gone hd fun j hj => by
          rw [next j]
          exact h (j + 1) (by simpa using hj)
        rw [fetchDec, bind_ok (fetchByte_at hpg more first), rest, List.append_assoc, next bs.length]
        rfl

/-- The single-step trap and the halt report look at nothing that the start of the instruction changes. -/
theorem endInstr_startInstr (s : State) (o : Host.Outcome State Fault Refusal) : endInstr (startInstr s) o = endInstr s o := by
  cases o <;> rfl

/-- Settles O6: the fetch reads the bytes that the decoder was given. -/
theorem stepRunsTheBytesAtEip : Obligations.StepRunsTheBytesAtEip := by
  intro s bs p i hm ha hh hpg hd h
  have fetched : fetchInstr (startInstr s) = .ok (.instr p i, bs) { startInstr s with eip := s.eip + BitVec.ofNat 32 bs.length } :=
    fetchDec_run bs 15 _ [] (startInstr s) hpg (le_refl _) (BitVec.sub_self _) hd h
  rw [step_executes hm ha hh]
  unfold runInstr
  rw [fetched, endInstr_startInstr]


/-! Segment loads in real mode. -/

variable {s s1 : State}

theorem loadSeg_real (hpe : s.pe = false) (r : SegReg) (v : Sel) : loadSeg r v s = .ok () (s.setSeg r ((s.seg r).loadReal v)) := by
  unfold loadSeg
  rw [if_neg (by simp [hpe])]

theorem exec_movSreg_real (ha : s.allows .g386 false) (hpe : s.pe = false) {rm : RM} {r : SegReg} {v : Sel}
    (h : readRM .b16 s.pfx rm s = .ok v s1) :
    exec (.movSregRm16 rm r) s = .next (ssMark r (s1.setSeg r ((s1.seg r).loadReal v))) := by
  have real : s1.pe = false := ((readRM_touches ..).1 _ _ _ h).pe.trans hpe
  rw [exec_movSregRm16_eq, perform_allowed ha]
  unfold moveToSeg
  rw [bind_ok h, bind_ok (loadSeg_real real r v), ssShadow_apply]
  rfl

theorem setSeg_setStackTop (t : State) (x : Word) (r : SegReg) (c : SegCache) :
    { t.setSeg r c with regs := (t.setStackTop x).regs, written := (t.setStackTop x).written } = (t.setStackTop x).setSeg r c := by
  unfold State.setStackTop
  split <;> rfl

theorem exec_popSeg_real (ha : s.allows .g386 false) (hpe : s.pe = false) {i : Instr} {r : SegReg} {v : BitVec s.pfx.osz.width.bits}
    (hi : popSegParts i = some r) (h : memReadBits s.pfx.osz.width.bits .ss s.stackTop s = .ok v s1) :
    exec i s = .next (ssMark r
      (let t := s1.setStackTop (s.stackTop + BitVec.ofNat 32 s.pfx.osz.width.bytes)
       t.setSeg r ((t.seg r).loadReal (v.setWidth 16)))) := by
  have read := (memReadBits_touches ..).1 _ _ _ h
  have real : s1.pe = false := read.pe.trans hpe
  have top : readTop s.pfx.osz.width.bits s = .ok v s1 := by
    unfold readTop
    rw [bind_ok (look_apply _ _)]
    exact h
  have moved : s1.dropStack (BitVec.ofNat 32 s.pfx.osz.bytes) = s1.setStackTop (s.stackTop + BitVec.ofNat 32 s.pfx.osz.width.bytes) := by
    unfold State.dropStack
    rw [read.stackTop]
    cases s.pfx.osz with
    | w16 | w32 => rfl
  have same : (s1.setStackTop (s.stackTop + BitVec.ofNat 32 s.pfx.osz.width.bytes)).seg r = s1.seg r := by simp [State.seg]
  rw [exec_popSeg hi, perform_allowed ha]
  unfold popSegReg
  rw [bind_ok top, bind_ok (look_apply _ _), moved, bind_ok (loadSeg_real real r _), bind_ok (update_apply _ _), setSeg_setStackTop,
    ssShadow_apply]
  simp only [same]
  rfl

theorem exec_farLoad_real (ha : s.allows .g386 false) (hpe : s.pe = false) {i : Instr} {m : Mem} {q : Reg} {r : SegReg} {off : Word} {sel : Sel}
    (hi : farLoadParts i = some (m, q, r)) (h : readFarPointer s.pfx m s = .ok (off, sel) s1) :
    exec i s = .next ((s1.setSeg r ((s1.seg r).loadReal sel)).setGpr s.pfx.osz.width q (off.setWidth s.pfx.osz.width.bits)) := by
  have real : s1.pe = false := ((readFarPointer_touches ..).1 _ _ _ h).pe.trans hpe
  rw [exec_farLoad hi, perform_allowed ha]
  unfold loadFarPointer
  rw [bind_ok h, bind_ok (loadSeg_real real r sel)]
  rfl

/-- Settles O49: each instruction reads its operand by accesses alone, and real mode loads the register whatever the selector is. -/
theorem segmentInstructionsCompleteInRealMode : Obligations.SegmentInstructionsCompleteInRealMode := by
  intro s s1 p w load mark ha hpe
  refine ⟨?_, ?_, ?_⟩
  · intro rm r v h
    exact exec_movSreg_real ha hpe h
  · intro i r v hi h
    exact exec_popSeg_real ha hpe hi h
  · intro i m q r off sel hi h
    exact exec_farLoad_real ha hpe hi h

end Sys2Proof.Machine
end

section
/-! PROOFS. The frame of an instruction: what it may write is one record, its footprint, and each body is shown to stay within one (the Flags lines
and the Operation parts of spec/40 to spec/49). -/

namespace Sys2Proof.Machine

/-! Footprints. -/

/-- What an instruction may write beside memory, the TLB, the history and the draws; CR2 with paging off. -/
structure Footprint where
  flags : Word
  regs : List Reg
  eip : Bool
  segs : List SegReg
  cr0 : Bool
  pg : Bool
  cr2 : Bool
  cr3 : Bool
  halted : Bool
  shadow : Bool

/-- What belongs to the step and no instruction writes. -/
abbrev State.ofStep (s : State) := (s.eipStart, s.prefixes, s.fetched, s.outcome, s.intr)

/-- The second state differs from the first within a footprint. Without the fixed bits of EFLAGS a masked write may also mend one. -/
structure Within (F : Footprint) (s t : State) : Prop where
  cfg : t.cfg = s.cfg
  history : s.history <:+ t.history
  ofStep : t.ofStep = s.ofStep
  flags : eflagsWf s.cfg.gen s.eflags = true →
    eflagsWf s.cfg.gen t.eflags = true ∧ t.eflags &&& ~~~F.flags = s.eflags &&& ~~~F.flags
  regs : ∀ r, r ∉ F.regs → t.gpr32 r = s.gpr32 r
  written : t.written &&& s.written = s.written
  eip : F.eip = false → t.eip = s.eip
  segs : ∀ r, r ∉ F.segs → t.seg r = s.seg r
  cr0 : F.cr0 = false → t.cr0 = s.cr0
  pg : F.pg = false → t.pg = s.pg
  cr2 : F.pg = false → F.cr2 = false → s.pg = false → t.cr2 = s.cr2
  cr3 : F.cr3 = false → t.cr3 = s.cr3
  halted : F.halted = false → t.halted = s.halted
  shadow : F.shadow = false → t.shadow = s.shadow

variable {F : Footprint} {α β : Type}

theorem Within.refl (F : Footprint) (s : State) : Within F s s where
  cfg := rfl
  history := List.suffix_refl _
  ofStep := rfl
  flags h := ⟨h, rfl⟩
  regs _ _ := rfl
  written := BitVec.and_self
  eip _ := rfl
  segs _ _ := rfl
  cr0 _ := rfl
  pg _ := rfl
  cr2 _ _ _ := rfl
  cr3 _ := rfl
  halted _ := rfl
  shadow _ := rfl

theorem Within.trans {s t u : State} (h : Within F s t) (k : Within F t u) : Within F s u where
  cfg := k.cfg.trans h.cfg
  history := h.history.trans k.history
  ofStep := k.ofStep.trans h.ofStep
  flags w := by
    obtain ⟨wt, frame⟩ := h.flags w
    have next := k.flags
    rw [h.cfg] at next
    exact ⟨(next wt).1, (next wt).2.trans frame⟩
  regs r hr := (k.regs r hr).trans (h.regs r hr)
  written := by rw [← h.written, ← BitVec.and_assoc, k.written]
  eip e := (k.eip e).trans (h.eip e)
  segs r hr := (k.segs r hr).trans (h.segs r hr)
  cr0 e := (k.cr0 e).trans (h.cr0 e)
  pg e := (k.pg e).trans (h.pg e)
  cr2 e e' off := (k.cr2 e e' ((h.pg e).trans off)).trans (h.cr2 e e' off)
  cr3 e := (k.cr3 e).trans (h.cr3 e)
  halted e := (k.halted e).trans (h.halted e)
  shadow e := (k.shadow e).trans (h.shadow e)

theorem Touches.within {s t : State} (h : Touches s t) : Within F s t where
  cfg := h.cfg
  history := h.history
  ofStep := by rw [h.same]; rfl
  flags w := by rw [h.eflags]; exact ⟨w, rfl⟩
  regs r _ := h.gpr32 r
  written := by rw [h.written]; exact BitVec.and_self
  eip _ := h.eip
  segs r _ := h.seg r
  cr0 _ := h.cr0
  pg _ := h.pg
  cr2 _ _ off := (h.off off).2.2
  cr3 _ := h.cr3
  halted _ := h.halted
  shadow _ := h.shadow

/-! The single updates. -/

theorem denied {b : Bool} {p : Prop} (h : b = true) (e : b = false) : p := by
  rw [h] at e
  cases e

/-- A register written at a width of 16 or 32 bits is the register named. -/
theorem destRegs_sized (osz : Size) (rm : RM) : destRegs osz.width rm = destRegs .b32 rm := by
  cases rm <;> cases osz <;> rfl

namespace Within

theorem setGpr (s : State) {w : Width} {r : Reg} (v : BitVec w.bits) (h : destRegs w (.reg r) ⊆ F.regs) : Within F s (s.setGpr w r v) :=
  { Within.refl F s with
    regs := fun _ hq => s.gpr32_setGpr_ne w v fun hr => hq (h hr)
    written := s.written_setGpr w r v }

theorem setEip (s : State) (v : Word) (h : F.eip = true) : Within F s { s with eip := v } :=
  { Within.refl F s with eip := fun e => denied h e }

theorem setEflags (s : State) (v : Word) (h : eflagsWf s.cfg.gen s.eflags = true →
    eflagsWf s.cfg.gen v = true ∧ v &&& ~~~F.flags = s.eflags &&& ~~~F.flags) : Within F s { s with eflags := v } :=
  { Within.refl F s with flags := h }

theorem setSeg (s : State) {r : SegReg} (c : SegCache) (h : r ∈ F.segs) : Within F s (s.setSeg r c) :=
  { Within.refl F s with
    segs := fun q hq => by
      have : q ≠ r := fun e => hq (e ▸ h)
      simp [State.seg, this] }

theorem setCr0 (s : State) (v : Word) (h : F.cr0 = true) (hp : F.pg = true ∨ v.getLsbD 31 = s.cr0.getLsbD 31) :
    Within F s { s with cr0 := v } :=
  { Within.refl F s with
    cr0 := fun e => denied h e
    pg := fun e => hp.resolve_left fun t => denied t e }

theorem setCr2 (s : State) (v : Word) (h : F.cr2 = true) : Within F s { s with cr2 := v } :=
  { Within.refl F s with cr2 := fun _ e => denied h e }

theorem setCr3 (s : State) (v : Word) (h : F.cr3 = true) : Within F s { s with cr3 := v } :=
  { Within.refl F s with cr3 := fun e => denied h e }

theorem setHalted (s : State) (b : Bool) (h : F.halted = true) : Within F s { s with halted := b } :=
  { Within.refl F s with halted := fun e => denied h e }

theorem setShadow (s : State) (x : Shadow) (h : F.shadow = true) : Within F s { s with shadow := x } :=
  { Within.refl F s with shadow := fun e => denied h e }

theorem clearTlb (s : State) : Within F s s.clearTlb := { Within.refl F s with }

theorem setStackTop (s : State) (v : Word) (h : .esp ∈ F.regs) : Within F s (s.setStackTop v) := by
  have esp {w : Width} (hw : w ≠ .b8) : destRegs w (.reg .esp) ⊆ F.regs := by simpa [destRegs, hw] using h
  unfold State.setStackTop
  split
  · exact setGpr (w := .b32) s v (esp (by decide))
  · exact setGpr (w := .b16) s _ (esp (by decide))

theorem setStatus (s : State) (st : Status) (h : st.put s.eflags &&& ~~~F.flags = s.eflags &&& ~~~F.flags) : Within F s (s.setStatus st) :=
  setEflags s _ fun w => ⟨eflagsWf_putStatus _ _ _ w, h⟩

theorem setFlag (s : State) (f : Flag) (b : Bool) (hf : f ≠ .ac ∨ b = false) (h : 1#32 <<< f.bit &&& ~~~F.flags = 0#32) :
    Within F s (s.setFlag f b) := by
  refine setEflags s _ fun w => ⟨eflagsWf_putFlag _ _ _ _ w hf, ?_⟩
  apply BitVec.eq_of_getLsbD_eq
  intro k hk
  have masked := congrArg (BitVec.getLsbD · k) h
  simp only [BitVec.getLsbD_and, getLsbD_flagBit f hk, BitVec.getLsbD_zero] at masked
  rw [BitVec.getLsbD_and, BitVec.getLsbD_and, getLsbD_putFlag _ _ _ hk]
  by_cases e : k = f.bit
  · simp only [e, decide_true, Bool.true_and] at masked
    simp [e, masked]
  · rw [if_neg e]

/-- A masked write of a word that holds its fixed bits keeps the bits outside the mask (spec/47_flags.md R615). -/
theorem mergeFlags_frame {gen : CpuGen} {old m c : Word} (v : Word) (w : eflagsWf gen old = true) (h : m &&& ~~~c = 0#32) :
    mergeFlags gen old v m &&& ~~~c = old &&& ~~~c := by
  apply BitVec.eq_of_getLsbD_eq
  intro k hk
  rw [BitVec.getLsbD_and, BitVec.getLsbD_and, BitVec.getLsbD_not]
  cases hc : c.getLsbD k with
  | true => simp
  | false =>
    have unmasked : m.getLsbD k = false := by
      have masked := congrArg (BitVec.getLsbD · k) h
      simp only [BitVec.getLsbD_and, BitVec.getLsbD_not, hk, hc, BitVec.getLsbD_zero, decide_true, Bool.not_false, Bool.and_true] at masked
      exact masked
    have fixed : forceFixed gen old = old := by
      unfold eflagsWf at w
      simp only [Bool.and_eq_true, beq_iff_eq] at w
      exact w.1
    have held := getLsbD_forceFixed gen old hk
    rw [fixed] at held
    by_cases h1 : k = 1
    · subst h1
      rw [getLsbD_mergeFlags_one, held]
      rfl
    · cases hz : (fixedZero gen).getLsbD k with
      | true =>
        rw [getLsbD_mergeFlags_fixed _ _ _ hk hz, held, hz]
        simp [h1]
      | false =>
        rw [getLsbD_mergeFlags_free _ _ _ hk h1 hz, unmasked, if_neg Bool.false_ne_true]

theorem setEflagsMasked (s : State) (v m : Word) (hvm : m.getLsbD 17 = false) (h : m &&& ~~~F.flags = 0#32) : Within F s (s.setEflags v m) :=
  setEflags s _ fun w => ⟨eflagsWf_mergeFlags _ _ _ _ w hvm, mergeFlags_frame v w h⟩

end Within

end Sys2Proof.Machine
end

section
/-! PROOFS. Each body stays within any footprint that allows what it writes. -/

namespace Sys2Proof.Machine

variable {F : Footprint} {α β : Type}

/-- With no parameter supplied the change stays within the footprint. -/
def Stays (F : Footprint) (s t : State) : Prop := s.pmRefuses → Within F s t

theorem stays_steady : Steady (Stays F) where
  refl s _ := .refl F s
  trans s t u h k hs := by
    have first := h hs
    refine first.trans (k ?_)
    unfold State.pmRefuses
    rw [first.cfg]
    exact hs

/-- A body keeps a relation when the outcome it has from each state does. -/
theorem Keeps.of_apply {R : State → State → Prop} {a : Act α}
    (h : ∀ s, (∃ v t, a s = .ok v t ∧ R s t) ∨ ∃ e t, a s = .error e t ∧ R s t) : Keeps R a := by
  refine ⟨?_, ?_⟩
  · intro s v t e
    rcases h s with ⟨v', t', e', r⟩ | ⟨err, t', e', r⟩ <;> rw [e'] at e <;> cases e
    exact r
  · intro s err t e
    rcases h s with ⟨v', t', e', r⟩ | ⟨err', t', e', r⟩ <;> rw [e'] at e <;> cases e
    exact r

/-- The first part of a sequence answers only values that meet a condition, so the second may assume it. -/
theorem Keeps.bind_of {R : State → State → Prop} (hR : Steady R) {P : α → Prop} {a : Act α} {f : α → Act β} (ha : Keeps R a)
    (hp : ∀ s v t, a s = .ok v t → P v) (hf : ∀ v, P v → Keeps R (f v)) : Keeps R (a >>= f) := by
  refine ⟨?_, ?_⟩
  · intro s w u e
    rw [bind_eq_ok] at e
    obtain ⟨v, t, first, second⟩ := e
    exact hR.trans _ _ _ (ha.1 _ _ _ first) ((hf v (hp _ _ _ first)).1 _ _ _ second)
  · intro s err u e
    rw [bind_apply] at e
    cases first : a s with
    | ok v t =>
      rw [first] at e
      exact hR.trans _ _ _ (ha.1 _ _ _ first) ((hf v (hp _ _ _ first)).2 _ _ _ e)
    | error err' t =>
      rw [first] at e
      cases e
      exact ha.2 _ _ _ first

/-- The 32-bit register a resolved operand of a width names. -/
def Place.regs (w : Width) : Place → List Reg
  | .reg r => destRegs w (.reg r)
  | .mem _ => []

theorem resolveRM_regs {w : Width} {b : Bool} {p : Pfx} {rm : RM} {s t : State} {pl : Place} (h : resolveRM w b p rm s = .ok pl t) :
    pl.regs w = destRegs w rm := by
  cases rm with
  | reg r => cases h; rfl
  | mem m =>
    unfold resolveRM at h
    obtain ⟨off, u, -, h⟩ := bind_eq_ok.1 h
    obtain ⟨sp, x, -, h⟩ := bind_eq_ok.1 h
    cases h
    rfl

namespace Stays

/-! The parts of a body. -/

theorem access {a : Act α} (ha : Keeps Touches a) : Keeps (Stays F) a := ha.mono fun _ _ h _ => h.within

theorem seq {a : Act α} {f : α → Act β} (ha : Keeps (Stays F) a) (hf : ∀ v, Keeps (Stays F) (f v)) : Keeps (Stays F) (a >>= f) :=
  ha.bind stays_steady hf

theorem value (v : α) : Keeps (Stays F) (pure v : Act α) := .pure stays_steady v

theorem looks (f : State → α) : Keeps (Stays F) (look f) := .look stays_steady f

theorem stops (e : Stop) : Keeps (Stays F) (stop e : Act α) := .stop stays_steady e

theorem updates {f : State → State} (h : ∀ s, Within F s (f s)) : Keeps (Stays F) (update f) := .update fun s _ => h s

theorem onlyIf {c : Bool} {a : Act Unit} (ha : c = true → Keeps (Stays F) a) : Keeps (Stays F) (onlyIf c a) := by
  unfold Machine.onlyIf
  split
  · exact ha ‹_›
  · exact value _

theorem drawsIf (c : Bool) : Keeps (Stays F) (drawIf c) := .ite (access drawBit_touches) (value _)

theorem drawStatus_touches : Keeps Touches drawStatus := by
  have st := touches_steady
  have bit := drawBit_touches
  exact bit.bind st fun _ => bit.bind st fun _ => bit.bind st fun _ => bit.bind st fun _ => bit.bind st fun _ => bit.bind st fun _ => .pure st _

theorem draws : Keeps (Stays F) drawStatus := access drawStatus_touches

theorem settles (b : Option Bool) : Keeps (Stays F) (settle b) := by
  cases b with
  | some b => exact value b
  | none => exact access drawBit_touches

theorem readsReg (w : Width) (r : Reg) : Keeps (Stays F) (readReg w r) := looks _

theorem writesReg {w : Width} {r : Reg} (v : BitVec w.bits) (h : destRegs w (.reg r) ⊆ F.regs) : Keeps (Stays F) (writeReg w r v) :=
  updates fun s => .setGpr s v h

theorem writesPlace {w : Width} {pl : Place} (v : BitVec w.bits) (h : pl.regs w ⊆ F.regs) : Keeps (Stays F) (writePlace w pl v) := by
  cases pl with
  | reg r => exact writesReg v h
  | mem sp => exact access (writeSpan_touches sp _)

/-- An operand that is resolved first names the register of its syntax. -/
theorem resolves {w : Width} {b : Bool} {p : Pfx} {rm : RM} {f : Place → Act β}
    (hf : ∀ pl : Place, pl.regs w = destRegs w rm → Keeps (Stays F) (f pl)) : Keeps (Stays F) (resolveRM w b p rm >>= f) :=
  .bind_of stays_steady (access (resolveRM_touches ..)) (fun _ _ _ => resolveRM_regs) hf

theorem readsPlace (w : Width) (pl : Place) : Keeps (Stays F) (readPlace w pl) := access (readPlace_touches w pl)

theorem readsRM (w : Width) (p : Pfx) (rm : RM) : Keeps (Stays F) (readRM w p rm) := access (readRM_touches w p rm)

theorem writesRM {w : Width} {p : Pfx} {rm : RM} (v : BitVec w.bits) (h : destRegs w rm ⊆ F.regs) : Keeps (Stays F) (writeRM w p rm v) :=
  resolves fun _ hp => writesPlace v (hp ▸ h)

theorem getsSrc (w : Width) (p : Pfx) (x : Src) : Keeps (Stays F) (x.get w p) := access (Src.get_touches w p x)

theorem reads (n : Nat) (r : SegReg) (off : Word) : Keeps (Stays F) (memReadBits n r off) := access (memReadBits_touches n r off)

theorem writes {n : Nat} (r : SegReg) (off : Word) (v : BitVec n) : Keeps (Stays F) (memWriteBits r off v) := access (memWriteBits_touches r off v)

theorem pushes {n : Nat} (v : BitVec n) (h : .esp ∈ F.regs) : Keeps (Stays F) (push v) :=
  seq (looks _) fun _ => seq (writes ..) fun _ => updates fun s => .setStackTop s _ h

theorem pops (n : Nat) (h : .esp ∈ F.regs) : Keeps (Stays F) (pop n) :=
  seq (access (readTop_touches n)) fun _ => seq (updates fun s => .setStackTop s _ h) fun _ => value _

theorem pushesSel (sz : Size) (v : Sel) (h : .esp ∈ F.regs) : Keeps (Stays F) (pushSel sz v) := by
  cases sz with
  | w16 => exact pushes v h
  | w32 =>
    refine seq (looks _) fun _ => seq (access (resolveMem_touches ..)) fun _ => seq (access drawBit_touches) fun _ => seq ?_ fun _ =>
      updates fun s => .setStackTop s _ h
    exact .ite (access (writeSpan_touches ..)) (access (writeSpan_touches ..))

theorem targets (osz : Size) (v : Word) : Keeps (Stays F) (nearTarget osz v) := seq (looks _) fun _ => .ite (stops _) (value _)

theorem jumps (t : Word) (h : F.eip = true) : Keeps (Stays F) (jumpTo t) := updates fun s => .setEip s t h

theorem checksPrivilege : Keeps (Stays F) privCheck := seq (looks _) fun _ => .ite (stops _) (value _)

/-- The six status flags may be written. -/
theorem setsStatus (st : State → Status) (h : F.flags = 0x8D5#32) : Keeps (Stays F) (update fun s => s.setStatus (st s)) :=
  updates fun s => .setStatus s _ (by rw [h]; exact Status.put_keeps ..)

theorem setsFlag {f : Flag} {m : Word} (b : State → Bool) (hf : F.flags = m) (hm : 1#32 <<< f.bit &&& ~~~m = 0#32) (hac : f ≠ .ac) :
    Keeps (Stays F) (update fun s => s.setFlag f (b s)) := updates fun s => .setFlag s f _ (.inl hac) (by rw [hf]; exact hm)

/-! The arithmetic bodies. -/

theorem alu {op : AluOp} {w : Width} {p : Pfx} {dst : RM} {src : Src} (hf : F.flags = 0x8D5#32)
    (hd : op.writes = true → destRegs w dst ⊆ F.regs) : Keeps (Stays F) (alu op w p dst (src.get w p)) :=
  resolves fun _ hp => seq (readsPlace ..) fun _ => seq (getsSrc ..) fun _ => seq (looks _) fun _ =>
    seq (onlyIf fun hw => writesPlace _ (hp ▸ hd hw)) fun _ => seq (drawsIf _) fun _ => setsStatus _ hf

theorem test {w : Width} {p : Pfx} {dst : RM} {src : Src} (hf : F.flags = 0x8D5#32) : Keeps (Stays F) (test w p dst (src.get w p)) :=
  seq (readsRM ..) fun _ => seq (getsSrc ..) fun _ => seq (access drawBit_touches) fun _ => setsStatus _ hf

/-- The flags that INC, DEC, NOT and NEG may write. -/
def unaryFlags : UnaryOp → Word
  | .inc | .dec => 0x8D4#32
  | .not => 0#32
  | .neg => 0x8D5#32

theorem unary {op : UnaryOp} {w : Width} {p : Pfx} {rm : RM} (hf : F.flags = unaryFlags op) (hd : destRegs w rm ⊆ F.regs) :
    Keeps (Stays F) (unaryBody op w p rm) := by
  have modifies (f : BitVec w.bits → BitVec w.bits) (st : Status → BitVec w.bits → Status)
      (h : ∀ (v : Word) a, (st (Status.of32 v) a).put v &&& ~~~F.flags = v &&& ~~~F.flags) : Keeps (Stays F) (modify w p rm f st) :=
    resolves fun _ hp => seq (readsPlace ..) fun _ => seq (writesPlace _ (hp ▸ hd)) fun _ => updates fun s => .setStatus s _ (h s.eflags _)
  have keepsCf (x : Status) (v : Word) : { x with cf := (Status.of32 v).cf }.put v &&& ~~~0x8D4#32 = v &&& ~~~0x8D4#32 :=
    Status.put_frame (.inr rfl) (.inl rfl) (.inl rfl) (.inl rfl) (.inl rfl) (.inl rfl)
  cases op with
  | inc =>
    refine modifies (fun a => addResult a 1#w.bits false) (fun old a => { flagsAdd a 1#w.bits false with cf := old.cf }) fun v a => ?_
    rw [hf]
    exact keepsCf _ v
  | dec =>
    refine modifies (fun a => subResult a 1#w.bits false) (fun old a => { flagsSub a 1#w.bits false with cf := old.cf }) fun v a => ?_
    rw [hf]
    exact keepsCf _ v
  | not =>
    exact modifies (fun a => ~~~a) (fun old _ => old) fun v _ =>
      Status.put_frame (.inr rfl) (.inr rfl) (.inr rfl) (.inr rfl) (.inr rfl) (.inr rfl)
  | neg =>
    refine modifies (fun a => subResult 0#w.bits a false) (fun _ a => flagsSub 0#w.bits a false) fun v a => ?_
    rw [hf]
    exact Status.put_keeps ..

theorem setsAccPair {w : Width} (hi lo : BitVec w.bits) (h : destRegs w (.reg .eax) ++ destRegs w (.reg (highReg w)) ⊆ F.regs) :
    Keeps (Stays F) (update (setAccPair w hi lo)) :=
  updates fun s => (Within.setGpr s lo (List.append_subset.1 h).1).trans (Within.setGpr _ hi (List.append_subset.1 h).2)

theorem multiply {signed : Bool} {w : Width} {p : Pfx} {rm : RM} (hf : F.flags = 0x8D5#32)
    (hr : destRegs w (.reg .eax) ++ destRegs w (.reg (highReg w)) ⊆ F.regs) : Keeps (Stays F) (if signed then imul w p rm else mul w p rm) := by
  refine .ite ?_ ?_
  · exact seq (readsRM ..) fun _ => seq (readsReg ..) fun _ => seq (setsAccPair _ _ hr) fun _ => seq draws fun _ => setsStatus _ hf
  · exact seq (readsRM ..) fun _ => seq (readsReg ..) fun _ => seq (setsAccPair _ _ hr) fun _ => seq draws fun _ => setsStatus _ hf

theorem multiplyTo {w : Width} {p : Pfx} {r : Reg} {x y : Src} (hf : F.flags = 0x8D5#32) (hr : destRegs w (.reg r) ⊆ F.regs) :
    Keeps (Stays F) (imulTo w r (x.get w p) (y.get w p)) :=
  seq (getsSrc ..) fun _ => seq (getsSrc ..) fun _ => seq (writesReg _ hr) fun _ => seq draws fun _ => setsStatus _ hf

theorem divideBy {w : Width} {p : Pfx} {rm : RM}
    {f : BitVec (w.bits + w.bits) → BitVec w.bits → Option (BitVec w.bits × BitVec w.bits)} (hf : F.flags = 0x8D5#32)
    (hr : destRegs w (.reg .eax) ++ destRegs w (.reg (highReg w)) ⊆ F.regs) : Keeps (Stays F) (divideBy w p rm f) := by
  refine seq (readsRM ..) fun s => seq (looks _) fun n => ?_
  split
  · exact stops _
  · exact seq (setsAccPair _ _ hr) fun _ => seq draws fun _ => setsStatus _ hf

/-! Shifts, bit tests and scans, compare and exchange. -/

/-- The flags that a shift or a rotate may write (spec/42_shift_rotate.md R423). -/
def shiftFlags (rotate : Bool) : Word := if rotate then 0x801#32 else 0x8D5#32

theorem shiftsWrite {w : Width} {rotate : Bool} {pl : Place} {out : ShiftOut w.bits} {c : Nat} (hf : F.flags = shiftFlags rotate)
    (hp : pl.regs w ⊆ F.regs) : Keeps (Stays F) (shiftWrite w rotate pl out c) := by
  refine seq (settles _) fun cf => seq (settles _) fun of => seq (drawsIf _) fun af => seq (writesPlace _ hp) fun _ => updates fun s =>
    .setStatus s _ ?_
  rw [hf]
  cases rotate with
  | true => exact Status.put_frame (.inl rfl) (.inr rfl) (.inr rfl) (.inr rfl) (.inr rfl) (.inl rfl)
  | false => exact Status.put_keeps ..

theorem shift {op : ShiftOp} {w : Width} {p : Pfx} {rm : RM} {count : State → Byte} (hf : F.flags = shiftFlags op.isRotate)
    (hd : destRegs w rm ⊆ F.regs) : Keeps (Stays F) (shift op w p rm (look count)) :=
  seq (looks _) fun _ => resolves fun _ hp => seq (readsPlace ..) fun _ => seq (looks _) fun _ =>
    .ite (value _) (shiftsWrite hf (hp ▸ hd))

theorem doubleShift {left : Bool} {w : Width} {p : Pfx} {rm : RM} {r : Reg} {count : State → Byte} (hf : F.flags = 0x8D5#32)
    (hd : destRegs w rm ⊆ F.regs) : Keeps (Stays F) (doubleShift left w p rm r (look count)) := by
  refine seq (looks _) fun _ => resolves fun _ hp => seq (readsPlace ..) fun _ => seq (readsReg ..) fun _ =>
    .ite (value _) (.ite ?_ (shiftsWrite hf (hp ▸ hd)))
  exact seq (access (drawBits_touches _)) fun _ => seq draws fun _ => seq (writesPlace _ (hp ▸ hd)) fun _ => setsStatus _ hf

theorem bitTarget_regs {op : BitOp} {w : Width} {p : Pfx} {rm : RM} {k : Reg ⊕ Byte} {s t : State} {x : Place × Nat}
    (h : bitTarget op w p rm k s = .ok x t) : x.1.regs w = destRegs w rm := by
  cases k with
  | inl r =>
    obtain ⟨n, u, -, h⟩ := bind_eq_ok.1 h
    cases rm with
    | reg q => cases h; rfl
    | mem m =>
      obtain ⟨off, y, -, h⟩ := bind_eq_ok.1 h
      obtain ⟨sp, z, -, h⟩ := bind_eq_ok.1 h
      cases h
      rfl
  | inr imm =>
    obtain ⟨pl, u, resolved, h⟩ := bind_eq_ok.1 h
    cases h
    exact resolveRM_regs resolved

theorem bitTarget_touches (op : BitOp) (w : Width) (p : Pfx) (rm : RM) (k : Reg ⊕ Byte) : Keeps Touches (bitTarget op w p rm k) := by
  have st := touches_steady
  cases k with
  | inl r =>
    refine .bind st (.look st _) fun _ => ?_
    cases rm with
    | reg q => exact .pure st _
    | mem m => exact .bind st (.look st _) fun _ => .bind st (resolveMem_touches ..) fun _ => .pure st _
  | inr imm => exact .bind st (resolveRM_touches ..) fun _ => .pure st _

theorem bitTest {op : BitOp} {w : Width} {p : Pfx} {rm : RM} {k : Reg ⊕ Byte} (hf : F.flags = 0x895#32)
    (hd : op.writes = true → destRegs w rm ⊆ F.regs) : Keeps (Stays F) (bitTest op w (bitTarget op w p rm k)) := by
  refine .bind_of stays_steady (access (bitTarget_touches ..)) (fun _ _ _ => bitTarget_regs) fun x hp => ?_
  refine seq (readsPlace ..) fun v => seq (onlyIf fun hw => writesPlace _ (hp ▸ hd hw)) fun _ => seq draws fun d => updates fun s =>
    .setStatus s _ ?_
  rw [hf]
  exact Status.put_frame (.inl rfl) (.inl rfl) (.inl rfl) (.inr rfl) (.inl rfl) (.inl rfl)

theorem bitScan {w : Width} {p : Pfx} {rm : RM} {r : Reg} {find : BitVec w.bits → Option Nat} (hf : F.flags = 0x8D5#32)
    (hr : destRegs w (.reg r) ⊆ F.regs) : Keeps (Stays F) (bitScan w p rm r find) := by
  refine seq (readsRM ..) fun _ => seq draws fun _ => ?_
  split
  · exact seq (access (drawBits_touches _)) fun _ => seq (writesReg _ hr) fun _ => setsStatus _ hf
  · exact seq (writesReg _ hr) fun _ => setsStatus _ hf

theorem byteSwap {osz : Size} {r : Reg} (hr : destRegs osz.width (.reg r) ⊆ F.regs) : Keeps (Stays F) (byteSwap osz r) := by
  cases osz with
  | w16 => exact seq (access (drawBits_touches _)) fun _ => writesReg _ hr
  | w32 => exact updates fun s => .setGpr s _ hr

theorem compareExchange {w : Width} {p : Pfx} {rm : RM} {r : Reg} (hf : F.flags = 0x8D5#32)
    (hr : destRegs w (.reg .eax) ++ destRegs w rm ⊆ F.regs) : Keeps (Stays F) (compareExchange w p rm r) := by
  obtain ⟨acc, dst⟩ := List.append_subset.1 hr
  exact resolves fun _ hp => seq (readsPlace ..) fun _ => seq (readsReg ..) fun _ => seq (readsReg ..) fun _ => seq (setsStatus _ hf) fun _ =>
    .ite (writesPlace _ (hp ▸ dst)) (seq (writesPlace _ (hp ▸ dst)) fun _ => writesReg _ acc)

theorem exchangeAdd {w : Width} {p : Pfx} {rm : RM} {r : Reg} (hf : F.flags = 0x8D5#32)
    (hr : destRegs w (.reg r) ++ destRegs w rm ⊆ F.regs) : Keeps (Stays F) (exchangeAdd w p rm r) := by
  obtain ⟨src, dst⟩ := List.append_subset.1 hr
  exact resolves fun _ hp => seq (readsPlace ..) fun _ => seq (readsReg ..) fun _ => seq (writesReg _ src) fun _ =>
    seq (writesPlace _ (hp ▸ dst)) fun _ => setsStatus _ hf

theorem compareExchange8 {p : Pfx} {m : Mem} (hf : F.flags = 0x40#32) (hr : F.regs = [.eax, .edx]) : Keeps (Stays F) (compareExchange8 p m) := by
  have setZf (b : Bool) : Keeps (Stays F) (update fun s => s.setFlag .zf b) := setsFlag _ hf (by decide) (by decide)
  refine seq (looks _) fun _ => seq (access (resolveMem_touches ..)) fun _ => seq (access (readSpan_touches _)) fun _ =>
    seq (looks _) fun _ => seq (looks _) fun _ => .ite ?_ ?_
  · exact seq (setZf true) fun _ => access (writeSpan_touches ..)
  · refine seq (setZf false) fun _ => seq (access (writeSpan_touches ..)) fun _ => updates fun s => ?_
    exact (Within.setGpr (w := .b32) s _ (by rw [hr]; decide)).trans (Within.setGpr (w := .b32) _ _ (by rw [hr]; decide))

/-! Strings. -/

/-- The registers that one element of a string operation writes (spec/44_string.md R497 to R501). -/
def elementRegs : StringOp → List Reg
  | .mov | .cmp => [.esi, .edi]
  | .sto | .sca => [.edi]
  | .lod => [.eax, .esi]

theorem setsAddrReg {asz : Size} {r : Reg} (v : State → Word) (h : r ∈ F.regs) : Keeps (Stays F) (update fun s => setAddrReg asz r (v s) s) := by
  refine updates fun s => .setGpr s _ ?_
  rw [destRegs_sized]
  simpa [destRegs] using h

theorem advances (w : Width) (p : Pfx) (r : Reg) (h : r ∈ F.regs) : Keeps (Stays F) (update (advance w p r)) := setsAddrReg _ h

theorem element {op : StringOp} {w : Width} {p : Pfx} (hf : op.compares = true → F.flags = 0x8D5#32) (hr : elementRegs op ⊆ F.regs) :
    Keeps (Stays F) (op.element w p) := by
  have source : Keeps (Stays F) (readSource w p) := seq (looks _) fun _ => reads ..
  have dest : Keeps (Stays F) (readDest w p) := seq (looks _) fun _ => reads ..
  have store (v : BitVec w.bits) : Keeps (Stays F) (writeDest w p v) := seq (looks _) fun _ => writes ..
  have advance {r : Reg} (h : r ∈ elementRegs op) := advances w p r (hr h)
  cases op with
  | mov => exact seq source fun _ => seq (store _) fun _ => seq (advance (by decide)) fun _ => advance (by decide)
  | cmp =>
    exact seq source fun _ => seq dest fun _ => seq (setsStatus _ (hf rfl)) fun _ => seq (advance (by decide)) fun _ => advance (by decide)
  | sto => exact seq (readsReg ..) fun _ => seq (store _) fun _ => advance (by decide)
  | lod =>
    have acc : destRegs w (.reg .eax) ⊆ F.regs := by
      have eax : .eax ∈ F.regs := hr (by decide)
      cases w <;> simpa [destRegs, byteParent] using eax
    exact seq source fun _ => seq (writesReg _ acc) fun _ => advance (by decide)
  | sca => exact seq (readsReg ..) fun _ => seq dest fun _ => seq (setsStatus _ (hf rfl)) fun _ => advance (by decide)

theorem repeated {p : Pfx} {stopNow : State → Bool} {a : Act Unit} (ha : Keeps (Stays F) a)
    (hc : p.rep ≠ .none → .ecx ∈ F.regs ∧ F.eip = true) : Keeps (Stays F) (repeated p stopNow a) := by
  have step (h : p.rep ≠ .none) : Keeps (Stays F) (do
      let cnt ← look (addrReg p.asz .ecx)
      if cnt = 0#32 then pure ()
      else do
        a
        update (setAddrReg p.asz .ecx (cnt - 1#32))
        update fun s => if cnt = 1#32 ∨ stopNow s then s else { s with eip := s.eipStart }) := by
    obtain ⟨ecx, eip⟩ := hc h
    refine seq (looks _) fun _ => .ite (value _) (seq ha fun _ => seq (setsAddrReg _ ecx) fun _ => updates fun s => ?_)
    split
    · exact .refl F s
    · exact .setEip s _ eip
  unfold Machine.repeated
  cases hp : p.rep with
  | none => exact ha
  | repe | repne => exact step (by rw [hp]; decide)

/-! Moves and the stack. -/

theorem moves {a : Act α} {f : α → Act Unit} (ha : Keeps (Stays F) a) (hf : ∀ v, Keeps (Stays F) (f v)) : Keeps (Stays F) (movRead a f) :=
  seq ha hf

theorem exchange {w : Width} {p : Pfx} {rm : RM} {r : Reg} (hr : destRegs w (.reg r) ++ destRegs w rm ⊆ F.regs) :
    Keeps (Stays F) (exchange w p rm r) := by
  obtain ⟨src, dst⟩ := List.append_subset.1 hr
  exact resolves fun _ hp => seq (readsPlace ..) fun _ => seq (readsReg ..) fun _ => seq (writesPlace _ (hp ▸ dst)) fun _ => writesReg _ src

theorem pushAll (w : Width) (h : .esp ∈ F.regs) : Keeps (Stays F) (pushAll w) := by
  have one (r : Reg) : Keeps (Stays F) (movRead (readReg w r) push) := moves (readsReg w r) fun v => pushes v h
  exact seq (readsReg ..) fun _ => seq (one _) fun _ => seq (one _) fun _ => seq (one _) fun _ => seq (one _) fun _ =>
    seq (pushes _ h) fun _ => seq (one _) fun _ => seq (one _) fun _ => one _

theorem popAll (osz : Size) (hr : F.regs = [.eax, .ecx, .edx, .ebx, .esp, .ebp, .esi, .edi]) : Keeps (Stays F) (popAll osz.width) := by
  have h (r : Reg) : r ∈ F.regs := by
    rw [hr]
    cases r <;> decide
  have one (r : Reg) : Keeps (Stays F) (movRead (pop osz.width.bits) (writeReg osz.width r)) :=
    moves (pops _ (h _)) fun v => writesReg v fun r _ => h r
  exact seq (one _) fun _ => seq (one _) fun _ => seq (one _) fun _ => seq (moves (pops _ (h _)) fun _ => value _) fun _ =>
    seq (one _) fun _ => seq (one _) fun _ => seq (one _) fun _ => one _

theorem leaveFrame {w : Width} (h : .esp ∈ F.regs) (hb : destRegs w (.reg .ebp) ⊆ F.regs) : Keeps (Stays F) (leaveFrame w) :=
  seq (updates fun s => .setStackTop s _ h) fun _ => seq (pops _ h) fun _ => writesReg _ hb

theorem pushFlags (osz : Size) (h : .esp ∈ F.regs) : Keeps (Stays F) (pushFlags osz) := by
  refine seq (looks _) fun _ => ?_
  cases osz with
  | w16 | w32 => exact pushes _ h

theorem storeWord {p : Pfx} {rm : RM} {v : BitVec 16} (hd : destRegs .b32 rm ⊆ F.regs) : Keeps (Stays F) (storeWord p rm v) := by
  unfold Machine.storeWord
  split
  · exact seq (access (drawBits_touches _)) fun _ => writesReg _ hd
  · exact writesReg (w := .b16) _ hd
  · exact writesRM (w := .b16) _ hd

/-! Transfers within the code segment. -/

theorem jumpsNear (osz : Size) (v : Word) (h : F.eip = true) : Keeps (Stays F) (jumpNear osz v) := seq (targets ..) fun _ => jumps _ h

theorem branchIf {osz : Size} {cond : State → Bool} {rel : Word} (h : F.eip = true) : Keeps (Stays F) (branchIf osz cond rel) :=
  seq (looks _) fun _ => seq (looks _) fun _ => .ite (jumpsNear _ _ h) (value _)

theorem loopIf {p : Pfx} {cond : State → Bool} {rel : Word} (h : F.eip = true) (hc : .ecx ∈ F.regs) : Keeps (Stays F) (loopIf p cond rel) :=
  seq (setsAddrReg _ hc) fun _ => branchIf h

theorem callTo (osz : Size) (t : Word) (h : F.eip = true) (hs : .esp ∈ F.regs) : Keeps (Stays F) (callTo osz t) :=
  seq (looks _) fun _ => seq (pushes _ hs) fun _ => jumps _ h

theorem returnNear {p : Pfx} {imm : BitVec 16} (h : F.eip = true) (hs : .esp ∈ F.regs) : Keeps (Stays F) (returnNear p imm) :=
  seq (pops _ hs) fun _ => seq (targets ..) fun _ => seq (updates fun s => .setStackTop s _ hs) fun _ => jumps _ h

end Stays

end Sys2Proof.Machine
end

section
/-! PROOFS. The bodies that load segment registers, transfer far or write control state stay within footprints too, and so every instruction stays
within its own: nothing else is written by an instruction that delivers no event. -/

namespace Sys2Proof.Machine

variable {F : Footprint} {α β : Type}

/-! The special bodies. -/

namespace Stays

theorem loadSeg {r : SegReg} (v : Sel) (h : r ∈ F.segs) : Keeps (Stays F) (loadSeg r v) := by
  refine .of_apply fun s => ?_
  unfold Machine.loadSeg
  split
  · split
    · exact .inl ⟨_, _, rfl, fun _ => .setSeg s _ h⟩
    · exact .inr ⟨_, _, rfl, stays_steady.refl s⟩
    · exact .inr ⟨_, _, rfl, stays_steady.refl s⟩
  · exact .inl ⟨_, _, rfl, fun _ => .setSeg s _ h⟩

theorem ssShadow {r : SegReg} (h : r = .ss → F.shadow = true) : Keeps (Stays F) (ssShadow r) := by
  unfold Machine.ssShadow
  split
  · next ss => exact updates fun s => .setShadow s _ (h ss)
  · exact value _

theorem moveToSeg {p : Pfx} {rm : RM} {r : SegReg} (hs : r ∈ F.segs) (hx : r = .ss → F.shadow = true) : Keeps (Stays F) (moveToSeg p rm r) :=
  seq (readsRM ..) fun _ => seq (loadSeg _ hs) fun _ => ssShadow hx

/-- What a load of a segment register answers is the same state or one with that register replaced. -/
theorem loadSeg_cases (r : SegReg) (v : Sel) (s : State) :
    (∃ c, Machine.loadSeg r v s = .ok () (s.setSeg r c)) ∨ ∃ e, Machine.loadSeg r v s = .error e s := by
  unfold Machine.loadSeg
  split
  · split
    · exact .inl ⟨_, rfl⟩
    · exact .inr ⟨_, rfl⟩
    · exact .inr ⟨_, rfl⟩
  · exact .inl ⟨_, rfl⟩

/-- The stack pointer that POP Sreg writes is the one of the state before the load, which has changed the segment register alone. -/
theorem popSegReg {osz : Size} {r : SegReg} (hr : .esp ∈ F.regs) (hs : r ∈ F.segs) (hx : r = .ss → F.shadow = true) :
    Keeps (Stays F) (popSegReg osz r) := by
  refine seq (access (readTop_touches _)) fun v => .of_apply fun s => ?_
  rw [bind_ok (look_apply _ _)]
  rcases loadSeg_cases r (v.setWidth 16) s with ⟨c, e⟩ | ⟨e, h⟩
  · rw [bind_ok e, bind_ok (update_apply _ _), State.dropStack, setSeg_setStackTop, ssShadow_apply]
    refine .inl ⟨_, _, rfl, fun _ => ?_⟩
    have loaded := (Within.setStackTop s (s.stackTop + BitVec.ofNat 32 osz.bytes) hr).trans (.setSeg _ c hs)
    unfold ssMark
    split
    · next ss => exact loaded.trans (.setShadow _ _ (hx ss))
    · exact loaded
  · rw [bind_error h]
    exact .inr ⟨_, _, rfl, stays_steady.refl s⟩

theorem loadFarPointer {p : Pfx} {m : Mem} {q : Reg} {r : SegReg} (hs : r ∈ F.segs) (hr : destRegs p.osz.width (.reg q) ⊆ F.regs) :
    Keeps (Stays F) (loadFarPointer p m q r) :=
  seq (access (readFarPointer_touches ..)) fun _ => seq (loadSeg _ hs) fun _ => writesReg _ hr

theorem farLoadReal {osz : Size} {sel : Sel} {off : Word} (h : F.eip = true) (hs : .cs ∈ F.segs) : Keeps (Stays F) (farLoadReal osz sel off) :=
  seq (targets ..) fun _ => updates fun s => (Within.setSeg s _ hs).trans (.setEip _ _ h)

theorem farTransferPm (kind : FarKind) (osz : Size) (sel : Sel) (off : Word) : Keeps (Stays F) (farTransferPm kind osz sel off) := by
  refine .of_apply fun s => ?_
  unfold Machine.farTransferPm
  split
  · next answer => exact .inl ⟨_, _, rfl, fun hs => by rw [pmFarTransfer_refuses hs] at answer; cases answer⟩
  · exact .inr ⟨_, _, rfl, stays_steady.refl s⟩
  · exact .inr ⟨_, _, rfl, stays_steady.refl s⟩

theorem iretPm (osz : Size) : Keeps (Stays F) (iretPm osz) := by
  refine .of_apply fun s => ?_
  unfold Machine.iretPm
  split
  · next answer => exact .inl ⟨_, _, rfl, fun hs => by rw [pmIret_refuses hs] at answer; cases answer⟩
  · exact .inr ⟨_, _, rfl, stays_steady.refl s⟩
  · exact .inr ⟨_, _, rfl, stays_steady.refl s⟩

theorem farJump {p : Pfx} {target : Act (Word × Sel)} (ht : Keeps (Stays F) target) (h : F.eip = true) (hs : .cs ∈ F.segs) :
    Keeps (Stays F) (farJump p target) :=
  seq ht fun _ => seq (looks _) fun _ => .ite (farTransferPm ..) (farLoadReal h hs)

theorem farCall {p : Pfx} {target : Act (Word × Sel)} (ht : Keeps (Stays F) target) (h : F.eip = true) (hs : .cs ∈ F.segs)
    (hr : .esp ∈ F.regs) : Keeps (Stays F) (farCall p target) :=
  seq ht fun _ => seq (looks _) fun _ => .ite (farTransferPm ..) <| seq (targets ..) fun _ => seq (looks _) fun _ => seq (looks _) fun _ =>
    seq (pushesSel _ _ hr) fun _ => seq (pushes _ hr) fun _ => farLoadReal h hs

theorem returnFar {p : Pfx} {kind : FarKind} {imm : BitVec 16} (h : F.eip = true) (hs : .cs ∈ F.segs) (hr : .esp ∈ F.regs) :
    Keeps (Stays F) (returnFar p kind imm) :=
  seq (looks _) fun _ => .ite
    (seq (access (readTop_touches _)) fun _ => seq (looks _) fun _ => seq (reads ..) fun _ => farTransferPm ..)
    (seq (pops _ hr) fun _ => seq (pops _ hr) fun _ => seq (farLoadReal h hs) fun _ => updates fun s => .setStackTop s _ hr)

theorem interruptReturn {p : Pfx} (hf : F.flags = 0x257FD5#32) (h : F.eip = true) (hs : .cs ∈ F.segs) (hr : .esp ∈ F.regs) :
    Keeps (Stays F) (interruptReturn p) := by
  have masked : iretMask p.osz &&& ~~~F.flags = 0#32 := by
    rw [hf]
    cases p.osz with
    | w16 | w32 => decide
  exact seq (looks _) fun _ => .ite (iretPm _) <| seq (pops _ hr) fun _ => seq (pops _ hr) fun _ => seq (pops _ hr) fun _ =>
    seq (farLoadReal h hs) fun _ => updates fun s => .setEflagsMasked s _ _ (iretMask_vm _) masked

/-- POPF writes no bit that IRET may not write (spec/47_flags.md R617). -/
theorem popfMask_frame (osz : Size) (pe : Bool) (cpl iopl : BitVec 2) : popfMask osz pe cpl iopl &&& ~~~0x257FD5#32 = 0#32 := by
  unfold popfMask
  cases osz with
  | w16 | w32 =>
    simp only
    split
    · decide
    · split <;> decide

theorem popFlags {osz : Size} (hf : F.flags = 0x257FD5#32) (hr : .esp ∈ F.regs) : Keeps (Stays F) (popFlags osz) := by
  rw [popFlags_eq]
  refine seq (pops _ hr) fun v => updates fun s => ?_
  have masked : Within F s (s.setEflags (v.setWidth 32) (popfMask osz s.pe s.cpl s.iopl)) :=
    .setEflagsMasked s _ _ (popfMask_vm ..) (by rw [hf]; exact popfMask_frame ..)
  cases osz with
  | w16 => exact masked
  | w32 => exact masked.trans (.setFlag _ .rf false (.inr rfl) (by rw [hf]; decide))

theorem storeAh (hf : F.flags = 0xD5#32) : Keeps (Stays F) storeAh := updates fun s => .setEflagsMasked s _ _ rfl (by rw [hf]; decide)

theorem ioplCheck : Keeps (Stays F) ioplCheck := seq (looks _) fun _ => .ite (stops _) (value _)

theorem clearInterrupt (hf : F.flags = 0x200#32) : Keeps (Stays F) clearInterrupt := seq ioplCheck fun _ => setsFlag _ hf (by decide) (by decide)

theorem setInterrupt (hf : F.flags = 0x200#32) (hx : F.shadow = true) : Keeps (Stays F) setInterrupt := by
  refine seq ioplCheck fun _ => seq (updates fun s => ?_) fun _ => setsFlag _ hf (by decide) (by decide)
  split
  · exact .refl F s
  · exact .setShadow s _ hx

theorem writeCr0 {r : Reg} (h : F.cr0 = true) (hp : F.pg = true) : Keeps (Stays F) (writeCr0 r) := by
  refine seq checksPrivilege fun _ => seq (looks _) fun _ => seq (looks _) fun _ => .ite (stops _) (updates fun s => ?_)
  unfold State.putCr0
  simp only
  split
  · exact .setCr0 s _ h (.inl hp)
  · exact (Within.setCr0 s _ h (.inl hp)).trans (.clearTlb _)

theorem loadStatusWord {p : Pfx} {rm : RM} (h : F.cr0 = true) : Keeps (Stays F) (loadStatusWord p rm) :=
  seq checksPrivilege fun _ => seq (readsRM ..) fun v => updates fun s => .setCr0 s _ h (.inr (by simp [lmswValue]))

theorem clearTaskSwitched (h : F.cr0 = true) : Keeps (Stays F) clearTaskSwitched :=
  seq checksPrivilege fun _ => updates fun s => .setCr0 s _ h (.inr (by simp))

theorem convertAcc {osz : Size} (hr : F.regs = [.eax]) : Keeps (Stays F) (convertAcc osz) := by
  cases osz with
  | w16 => exact updates fun s => .setGpr (w := .b16) s _ (by rw [hr]; decide)
  | w32 => exact updates fun s => .setGpr (w := .b32) s _ (by rw [hr]; decide)

end Stays

/-! The footprint of an instruction. -/

/-- A string instruction without a repetition, which leaves the count register and eip alone (spec/44_string.md R490). -/
def unrepeated (p : Pfx) (i : Instr) : Bool := (stringParts p i).isSome && p.rep == .none

/-- A repeated string instruction, which may go back to its first byte (R490). -/
def repeats (p : Pfx) (i : Instr) : Bool := (stringParts p i).isSome && p.rep != .none

/-- The instructions that may change CR0 (spec/49_system.md R670). -/
def writesCr0 : Instr → Bool
  | .movCr0R32 _ | .lmswRm16 _ | .clts => true
  | _ => false

/-- Among them MOV CR0 alone may turn paging on or off. -/
def writesPg : Instr → Bool
  | .movCr0R32 _ => true
  | _ => false

/-- MOV CR2, the instruction that writes CR2. -/
def writesCr2 : Instr → Bool
  | .movCr2R32 _ => true
  | _ => false

/-- MOV CR3, the instruction that writes CR3. -/
def writesCr3 : Instr → Bool
  | .movCr3R32 _ => true
  | _ => false

/-- The instructions that set an interrupt shadow (spec/10_state.md R55). -/
def setsShadow : Instr → Bool
  | .sti | .popSs | .movSregRm16 _ .ss => true
  | _ => false

/-- What an instruction may write. -/
def footprint (p : Pfx) (i : Instr) : Footprint where
  flags := flagMask i
  regs := bif unrepeated p i then (regsWritten i).erase .ecx else regsWritten i
  eip := isTransfer i || repeats p i
  segs := segsWritten i
  cr0 := writesCr0 i
  pg := writesPg i
  cr2 := writesCr2 i
  cr3 := writesCr3 i
  halted := decide (i = .hlt)
  shadow := setsShadow i

theorem destRegs_sized_subset (osz : Size) (rm : RM) : destRegs osz.width rm ⊆ destRegs .b32 rm := by
  rw [destRegs_sized]
  exact List.Subset.refl _

theorem destRegs_sized_tail (osz : Size) (rm : RM) {r : Reg} : destRegs osz.width rm ⊆ r :: destRegs .b32 rm :=
  List.subset_cons_of_subset _ (destRegs_sized_subset osz rm)

theorem destRegs_sized_append (osz : Size) (r : Reg) (rm : RM) :
    destRegs osz.width (.reg r) ++ destRegs osz.width rm ⊆ r :: destRegs .b32 rm := by
  rw [destRegs_sized, destRegs_sized]
  exact List.Subset.refl _

theorem destRegs_sized_swap (osz : Size) (r q : Reg) : destRegs osz.width (.reg r) ++ destRegs osz.width (.reg q) ⊆ [q, r] := by
  rw [destRegs_sized, destRegs_sized]
  exact (List.Perm.swap q r []).subset

theorem accRegs_byte : destRegs .b8 (.reg .eax) ++ destRegs .b8 (.reg (highReg .b8)) ⊆ [.eax] := by decide

theorem accRegs_sized (osz : Size) :
    destRegs osz.width (.reg .eax) ++ destRegs osz.width (.reg (highReg osz.width)) ⊆ [.eax, .edx] := by
  cases osz <;> decide

/-- A string instruction's footprint allows its element, and the count register and eip where it is repeated. -/
theorem footprint_string {p : Pfx} {i : Instr} {op : StringOp} {w : Width} (h : stringParts p i = some (op, w)) :
    (op.compares = true → (footprint p i).flags = 0x8D5#32) ∧ Stays.elementRegs op ⊆ (footprint p i).regs ∧
      (p.rep ≠ .none → .ecx ∈ (footprint p i).regs ∧ (footprint p i).eip = true) := by
  have written : Stays.elementRegs op ⊆ (regsWritten i).erase .ecx ∧ .ecx ∈ regsWritten i ∧ (op.compares = true → flagMask i = 0x8D5#32) := by
    cases i with
    | movsb | movsw | cmpsb | cmpsw | stosb | stosw | lodsb | lodsw | scasb | scasw => cases h; decide
    | _ => cases h
  obtain ⟨element, count, flags⟩ := written
  refine ⟨flags, ?_, fun hr => ?_⟩
  · unfold footprint
    cases unrepeated p i with
    | true => exact element
    | false => exact List.Subset.trans element List.erase_subset
  · have idle : unrepeated p i = false := by simp [unrepeated, hr]
    have again : repeats p i = true := by simp [repeats, h, hr]
    simp [footprint, idle, again, count]

theorem Stays.string {s : State} {i : Instr} {op : StringOp} {w : Width} (h : stringParts s.pfx i = some (op, w)) {stopNow : State → Bool} :
    Keeps (Stays (footprint s.pfx i)) (Machine.repeated s.pfx stopNow (op.element w s.pfx)) := by
  obtain ⟨flags, regs, count⟩ := footprint_string h
  exact repeated (element flags regs) count

namespace Stays

/-- Every instruction stays within its footprint. -/
theorem bodyKeeps (i : Instr) (s : State) : BodyKeeps (Stays (footprint s.pfx i)) i s := by
  cases i with
  | addRm8R8 | addR8Rm8 | addAlIb | addRm8Ib | orRm8R8 | orR8Rm8 | orAlIb | orRm8Ib | adcRm8R8 | adcR8Rm8 | adcAlIb | adcRm8Ib | sbbRm8R8
  | sbbR8Rm8 | sbbAlIb | sbbRm8Ib | andRm8R8 | andR8Rm8 | andAlIb | andRm8Ib | subRm8R8 | subR8Rm8 | subAlIb | subRm8Ib | xorRm8R8
  | xorR8Rm8 | xorAlIb | xorRm8Ib => exact .of (exec_alu rfl) (alu rfl fun _ => List.Subset.refl _)
  | addRmR | addRRm | addEaxIz | addRmIz | addRmIbs | orRmR | orRRm | orEaxIz | orRmIz | orRmIbs | adcRmR | adcRRm | adcEaxIz | adcRmIz
  | adcRmIbs | sbbRmR | sbbRRm | sbbEaxIz | sbbRmIz | sbbRmIbs | andRmR | andRRm | andEaxIz | andRmIz | andRmIbs | subRmR | subRRm
  | subEaxIz | subRmIz | subRmIbs | xorRmR | xorRRm | xorEaxIz | xorRmIz | xorRmIbs =>
    exact .of (exec_alu rfl) (alu rfl fun _ => destRegs_sized_subset ..)
  | cmpRm8R8 | cmpRmR | cmpR8Rm8 | cmpRRm | cmpAlIb | cmpEaxIz | cmpRm8Ib | cmpRmIz | cmpRmIbs => exact .of (exec_alu rfl) (alu rfl nofun)
  | testRm8R8 | testRmR | testAlIb | testEaxIz | testRm8Ib | testRmIz => exact .of (exec_test rfl) (test rfl)
  | incRm8 | decRm8 | notRm8 | negRm8 => exact .of (exec_unary rfl) (unary rfl (List.Subset.refl _))
  | incR | decR | incRm | decRm | notRm | negRm => exact .of (exec_unary rfl) (unary rfl (destRegs_sized_subset ..))
  | mulRm8 | imulRm8 => exact .of (exec_mul rfl) (multiply rfl accRegs_byte)
  | mulRm | imulRm => exact .of (exec_mul rfl) (multiply rfl (accRegs_sized _))
  | imulRRm | imulRRmIz | imulRRmIbs => exact .of (exec_imul rfl) (multiplyTo rfl (destRegs_sized_subset _ (.reg _)))
  | divRm8 | idivRm8 => exact .of (exec_div rfl) (.ite (divideBy rfl accRegs_byte) (divideBy rfl accRegs_byte))
  | divRm | idivRm => exact .of (exec_div rfl) (.ite (divideBy rfl (accRegs_sized _)) (divideBy rfl (accRegs_sized _)))
  | rolRm8Ib | rolRm8By1 | rolRm8Cl | rorRm8Ib | rorRm8By1 | rorRm8Cl | rclRm8Ib | rclRm8By1 | rclRm8Cl | rcrRm8Ib | rcrRm8By1 | rcrRm8Cl
  | shlRm8Ib | shlRm8By1 | shlRm8Cl | shrRm8Ib | shrRm8By1 | shrRm8Cl | sarRm8Ib | sarRm8By1 | sarRm8Cl =>
    exact .of (exec_shift rfl) (shift rfl (List.Subset.refl _))
  | rolRmIb | rolRmBy1 | rolRmCl | rorRmIb | rorRmBy1 | rorRmCl | rclRmIb | rclRmBy1 | rclRmCl | rcrRmIb | rcrRmBy1 | rcrRmCl | shlRmIb
  | shlRmBy1 | shlRmCl | shrRmIb | shrRmBy1 | shrRmCl | sarRmIb | sarRmBy1 | sarRmCl =>
    exact .of (exec_shift rfl) (shift rfl (destRegs_sized_subset ..))
  | shldRmRIb | shldRmRCl | shrdRmRIb | shrdRmRCl => exact .of (exec_double rfl) (doubleShift rfl (destRegs_sized_subset ..))
  | btRmR | btRmIb => exact .of (exec_bit rfl) (bitTest rfl nofun)
  | btsRmR | btsRmIb | btrRmR | btrRmIb | btcRmR | btcRmIb => exact .of (exec_bit rfl) (bitTest rfl fun _ => destRegs_sized_subset ..)
  | movsb | movsw | cmpsb | cmpsw | stosb | stosw | lodsb | lodsw | scasb | scasw => exact .of (exec_string rfl) (string rfl)
  | movRm8R8 | movR8Rm8 | movRm8Ib | movR8Ib => exact .of (exec_mov rfl) (moves (getsSrc ..) fun _ => writesRM _ (List.Subset.refl _))
  | movRmR | movRRm | movRmIz | movRIz => exact .of (exec_mov rfl) (moves (getsSrc ..) fun _ => writesRM _ (destRegs_sized_subset ..))
  | xchgRm8R8 => exact .of (exec_xchg rfl) (exchange (List.Subset.refl _))
  | xchgRmR => exact .of (exec_xchg rfl) (exchange (destRegs_sized_append ..))
  | xchgEaxR => exact .of (exec_xchg rfl) (exchange (destRegs_sized_swap ..))
  | movzxRRm8 | movzxRRm16 | movsxRRm8 | movsxRRm16 =>
    exact .of (exec_extend rfl) (seq (readsRM ..) fun _ => writesReg _ (destRegs_sized_subset _ (.reg _)))
  | pushR | pushIz | pushIbs | pushRm => exact .of (exec_push rfl) (moves (getsSrc ..) fun _ => pushes _ (.head _))
  | pushEs | pushCs | pushSs | pushDs | pushFs | pushGs => exact .of (exec_pushSeg rfl) (seq (looks _) fun _ => pushesSel _ _ (.head _))
  | popEs | popDs | popFs | popGs => exact .of (exec_popSeg rfl) (popSegReg (.head _) (.head _) nofun)
  | popSs => exact .of (exec_popSeg rfl) (popSegReg (.head _) (.head _) fun _ => rfl)
  | ldsRMemFar | lesRMemFar | lssRMemFar | lfsRMemFar | lgsRMemFar =>
    exact .of (exec_farLoad rfl) (loadFarPointer (.head _) (destRegs_sized_subset _ (.reg _)))
  | movSregRm16 rm r => exact .of (exec_movSregRm16_eq s _ _) (moveToSeg (.head _) fun e => by rw [e]; rfl)
  | jmpPtr => exact .of (exec_jmpPtr_eq s _ _) (farJump (value _) rfl (.head _))
  | jmpMemFar => exact .of (exec_jmpMemFar_eq s _) (farJump (access (readFarPointer_touches ..)) rfl (.head _))
  | callPtr => exact .of (exec_callPtr_eq s _ _) (farCall (value _) rfl (.head _) (.head _))
  | callMemFar => exact .of (exec_callMemFar_eq s _) (farCall (access (readFarPointer_touches ..)) rfl (.head _) (.head _))
  | retf => exact .of (exec_retf_eq s) (returnFar rfl (.head _) (.head _))
  | retfIw => exact .of (exec_retfIw_eq s _) (returnFar rfl (.head _) (.head _))
  | iret => exact .of (exec_iret_eq s) (interruptReturn rfl rfl (.head _) (.head _))
  | popf => exact .of (exec_popf_eq s) (popFlags rfl (.head _))
  | cli => exact .of (exec_cli_eq s) (clearInterrupt rfl)
  | sti => exact .of (exec_sti_eq s) (setInterrupt rfl rfl)
  | movCr0R32 => exact .of (exec_movCr0R32_eq s _) (writeCr0 rfl rfl)
  | movCr2R32 => exact .of (exec_movCr2R32_eq s _) (seq checksPrivilege fun _ => updates fun s => .setCr2 s _ rfl)
  | movCr3R32 => exact .of (exec_movCr3R32_eq s _) (seq checksPrivilege fun _ => updates fun s => (Within.setCr3 s _ rfl).trans (.clearTlb _))
  | lmswRm16 => exact .of (exec_lmswRm16_eq s _) (loadStatusWord rfl)
  | invlpgM => exact .of (exec_invlpgM_eq s _) (seq checksPrivilege fun _ => seq (looks _) fun _ => updates Within.clearTlb)
  | clts => exact .of (exec_clts_eq s) (clearTaskSwitched rfl)
  | hlt => exact .of (exec_hlt_eq s) (seq checksPrivilege fun _ => updates fun s => .setHalted s _ rfl)
  | clc => exact .of (exec_clc_eq s) (setsFlag (m := 0x1#32) _ rfl (by decide) (by decide))
  | stc => exact .of (exec_stc_eq s) (setsFlag (m := 0x1#32) _ rfl (by decide) (by decide))
  | cmc => exact .of (exec_cmc_eq s) (setsFlag (m := 0x1#32) _ rfl (by decide) (by decide))
  | cld => exact .of (exec_cld_eq s) (setsFlag (m := 0x400#32) _ rfl (by decide) (by decide))
  | std => exact .of (exec_std_eq s) (setsFlag (m := 0x400#32) _ rfl (by decide) (by decide))
  | bsfRRm => exact .of (exec_bsfRRm_eq s _ _) (bitScan rfl (destRegs_sized_subset _ (.reg _)))
  | bsrRRm => exact .of (exec_bsrRRm_eq s _ _) (bitScan rfl (destRegs_sized_subset _ (.reg _)))
  | bswapR32 => exact .of (exec_bswapR32_eq s _) (byteSwap (destRegs_sized_subset _ (.reg _)))
  | cmpxchgRm8R8 => exact .of (exec_cmpxchgRm8R8_eq s _ _) (compareExchange rfl (List.Subset.refl _))
  | cmpxchgRmR => exact .of (exec_cmpxchgRmR_eq s _ _) (compareExchange rfl (destRegs_sized_append ..))
  | xaddRm8R8 => exact .of (exec_xaddRm8R8_eq s _ _) (exchangeAdd rfl (List.Subset.refl _))
  | xaddRmR => exact .of (exec_xaddRmR_eq s _ _) (exchangeAdd rfl (destRegs_sized_append ..))
  | cmpxchg8bM64 => exact .of (exec_cmpxchg8bM64_eq s _) (compareExchange8 rfl rfl)
  | movAlMoffs => exact .of (exec_movAlMoffs_eq s _) (seq (reads ..) fun _ => writesReg _ (List.Subset.refl _))
  | movEaxMoffs => exact .of (exec_movEaxMoffs_eq s _) (seq (reads ..) fun _ => writesReg _ (destRegs_sized_subset _ (.reg _)))
  | movMoffsAl => exact .of (exec_movMoffsAl_eq s _) (seq (readsReg ..) fun _ => writes ..)
  | movMoffsEax => exact .of (exec_movMoffsEax_eq s _) (seq (readsReg ..) fun _ => writes ..)
  | nop => exact .of (exec_nop_eq s) (value _)
  | leaRM => exact .of (exec_leaRM_eq s _ _) (seq (looks _) fun _ => writesReg _ (destRegs_sized_subset _ (.reg _)))
  | cbw => exact .of (exec_cbw_eq s) (convertAcc rfl)
  | cwd => exact .of (exec_cwd_eq s) (seq (readsReg ..) fun _ => writesReg _ (destRegs_sized_subset _ (.reg _)))
  | popR => exact .of (exec_popR_eq s _) (moves (pops _ (.head _)) fun _ => writesReg _ (destRegs_sized_tail _ (.reg _)))
  | popRm => exact .of (exec_popRm_eq s _) (moves (pops _ (.head _)) fun _ => writesRM _ (destRegs_sized_tail ..))
  | pusha => exact .of (exec_pusha_eq s) (pushAll _ (.head _))
  | popa => exact .of (exec_popa_eq s) (popAll _ rfl)
  | xlat => exact .of (exec_xlat_eq s) (seq (looks _) fun _ => seq (reads ..) fun _ => writesReg _ (List.Subset.refl _))
  | leave => exact .of (exec_leave_eq s) (leaveFrame (.head _) (destRegs_sized_tail _ (.reg _)))
  | jccRel8 => exact .of (exec_jccRel8_eq s _ _) (branchIf rfl)
  | jccRelz => exact .of (exec_jccRelz_eq s _ _) (branchIf rfl)
  | jmpRel8 => exact .of (exec_jmpRel8_eq s _) (branchIf rfl)
  | jmpRelz => exact .of (exec_jmpRelz_eq s _) (branchIf rfl)
  | jcxzRel8 => exact .of (exec_jcxzRel8_eq s _) (branchIf rfl)
  | loopRel8 => exact .of (exec_loopRel8_eq s _) (loopIf rfl (.head _))
  | loopeRel8 => exact .of (exec_loopeRel8_eq s _) (loopIf rfl (.head _))
  | loopneRel8 => exact .of (exec_loopneRel8_eq s _) (loopIf rfl (.head _))
  | jmpRm => exact .of (exec_jmpRm_eq s _) (seq (readsRM ..) fun _ => jumpsNear _ _ rfl)
  | callRelz => exact .of (exec_callRelz_eq s _) (seq (looks _) fun _ => seq (targets ..) fun _ => callTo _ _ rfl (.head _))
  | callRm => exact .of (exec_callRm_eq s _) (seq (readsRM ..) fun _ => seq (targets ..) fun _ => callTo _ _ rfl (.head _))
  | ret => exact .of (exec_ret_eq s) (returnNear rfl (.head _))
  | retIw => exact .of (exec_retIw_eq s _) (returnNear rfl (.head _))
  | intIb => exact .of (exec_intIb_eq s _) (stops _)
  | int3 => exact .of (exec_int3_eq s) (stops _)
  | into => exact .of (exec_into_eq s) (seq (looks _) fun _ => .ite (stops _) (value _))
  | pushf => exact .of (exec_pushf_eq s) (pushFlags _ (.head _))
  | sahf => exact .of (exec_sahf_eq s) (storeAh rfl)
  | lahf => exact .of (exec_lahf_eq s) (updates fun s => .setGpr s _ (List.Subset.refl _))
  | setccRm8 => exact .of (exec_setccRm8_eq s _ _) (seq (looks _) fun _ => writesRM _ (List.Subset.refl _))
  | movRm16Sreg => exact .of (exec_movRm16Sreg_eq s _ _) (moves (looks _) fun _ => storeWord (List.Subset.refl _))
  | smswRm16 => exact .of (exec_smswRm16_eq s _) (moves (looks _) fun _ => storeWord (List.Subset.refl _))
  | movR32Cr0 => exact .of (exec_movR32Cr0_eq s _) (seq checksPrivilege fun _ => updates fun s => .setGpr s _ (List.Subset.refl _))
  | movR32Cr2 => exact .of (exec_movR32Cr2_eq s _) (seq checksPrivilege fun _ => updates fun s => .setGpr s _ (List.Subset.refl _))
  | movR32Cr3 => exact .of (exec_movR32Cr3_eq s _) (seq checksPrivilege fun _ => updates fun s => .setGpr s _ (List.Subset.refl _))
  | invd => exact .of (exec_invd_eq s) checksPrivilege
  | wbinvd => exact .of (exec_wbinvd_eq s) checksPrivilege
  | ud2 => exact .of (exec_ud2_eq s) (stops _)

end Stays

end Sys2Proof.Machine
end

section
/-! PROOFS. What an instruction that delivers no event leaves alone (spec/10_state.md R30 to R55). -/

namespace Sys2Proof.Machine

variable {R : State → State → Prop} {i : Instr} {s t : State}

/-! Deliveries are counted. -/

theorem deliver_history (v : Byte) (err : Option Word) (kind : EventKind) (ret : Word) (s : State) :
    (s.record (.delivered v kind)).history <:+ (deliver v err kind ret s).history := by
  have real := deliverReal_fine v ret
  rcases deliver_cases v err kind ret s with ⟨u, e, answer | hu⟩ | ⟨u, ended, rfl | ⟨x, hu⟩⟩
  · rw [e]
    exact (answerAllowed_keeps (pmDeliver_allowed answer)).2
  · rw [e]
    exact (real.1 _ _ _ hu).history
  · rw [ended.rest]
    exact List.suffix_refl _
  · rw [ended.rest]
    exact (real.2 _ _ _ hu).history

theorem deliveredCount_le {a b : List Event} (h : a <:+ b) : deliveredCount a ≤ deliveredCount b := h.sublist.countP_le

/-- A delivery is an event more, however it ends (spec/60_exceptions.md R712). -/
theorem deliver_counts (v : Byte) (err : Option Word) (kind : EventKind) (ret : Word) (s : State) :
    deliveredCount s.history < deliveredCount (deliver v err kind ret s).history := by
  have one : deliveredCount (s.record (.delivered v kind)).history = deliveredCount s.history + 1 := by
    simp [deliveredCount]
  have := deliveredCount_le (deliver_history v err kind ret s)
  omega

/-- What an instruction answers when its body keeps a relation under which the history grows and it delivers no event: a related state, or the end
of the run with the registers it began with. -/
theorem exec_undelivered (hR : Steady R) (k : BodyKeeps R i s) (grows : ∀ u, R s u → s.history <:+ u.history) (e : exec i s = .next t)
    (hd : sameDeliveries s t) : R s t ∨ ∃ u, EndsRun (rollback s u) t := by
  obtain ⟨gen, lockable, body, hb, k⟩ := k
  have gate : Keeps R (requireGen gen) := .bind hR (.look hR _) fun _ => .ite (.stop hR _) (.pure hR _)
  have gated : Keeps R (do requireGen gen; requireLock lockable s.pfx; body s.pfx) :=
    .bind hR gate fun _ => .bind hR (.ite (.stop hR _) (.pure hR _)) fun _ => k
  rw [hb] at e
  rcases finish_cases e with ok | ⟨err, u, error, ⟨v, err', kind, ret, rfl⟩ | ended⟩
  · exact .inl (gated.1 _ _ _ ok)
  · have before := deliveredCount_le (grows u (gated.2 _ _ _ error))
    have after := deliver_counts v err' kind ret (rollback s u)
    exact absurd hd (Nat.ne_of_gt (Nat.lt_of_le_of_lt before after))
  · exact .inr ⟨u, ended⟩

/-- An instruction that delivers no event stays within its footprint, or ends the run with the registers it began with. -/
theorem exec_within (hs : s.pmRefuses) (e : exec i s = .next t) (hd : sameDeliveries s t) :
    Within (footprint s.pfx i) s t ∨ ∃ u, EndsRun (rollback s u) t :=
  (exec_undelivered stays_steady (Stays.bodyKeeps i s) (fun _ h => (h hs).history) e hd).imp_left fun h => h hs

/-! Flags and registers. -/

/-- Settles O55: the flags of the footprint are the instruction's mask. -/
theorem flagsFrame : Obligations.FlagsFrame := by
  intro i s t w hs e hd
  rcases exec_within hs e hd with within | ⟨u, ended⟩
  · exact (within.flags ((wf_iff s).1 w).2.1).2
  · rw [ended.rest]
    rfl

/-- The written bits taken back are none when all that were there still are. -/
theorem and_not_of_kept {a b : Word} (h : b &&& a = a) : a &&& ~~~b = 0#32 := by
  rw [← h, BitVec.and_comm b a, BitVec.and_assoc]
  simp

theorem footprint_regs (p : Pfx) (i : Instr) : (footprint p i).regs ⊆ regsWritten i := by
  unfold footprint
  cases unrepeated p i with
  | true => exact List.erase_subset
  | false => exact List.Subset.refl _

/-- Without a repetition a string instruction leaves the count register alone (spec/44_string.md R490). -/
theorem count_kept {p : Pfx} (h : (stringParts p i).isSome = true) (hr : p.rep = .none) : .ecx ∉ (footprint p i).regs := by
  have once : unrepeated p i = true := by simp [unrepeated, h, hr]
  have erased : .ecx ∉ (regsWritten i).erase .ecx := by
    cases i with
    | movsb | movsw | cmpsb | cmpsw | stosb | stosw | lodsb | lodsw | scasb | scasw => decide
    | _ => cases h
  simpa [footprint, once] using erased

/-- Settles O56: the registers of the footprint are the instruction's destinations, without the count register where there is no repetition. -/
theorem registersFrame : Obligations.RegistersFrame := by
  intro i s t hs e hd
  rcases exec_within hs e hd with within | ⟨u, ended⟩
  · exact ⟨fun r hr => within.regs r fun h => hr (footprint_regs _ i h), fun h hr => within.regs _ (count_kept h hr),
      and_not_of_kept within.written⟩
  · rw [ended.rest]
    exact ⟨fun _ _ => rfl, fun _ _ => rfl, and_not_of_kept BitVec.and_self⟩

/-! Control state. -/

/-- CR2 stays as it is, while the history may grow. -/
def KeepsCr2 (s t : State) : Prop := t.cr2 = s.cr2 ∧ s.history <:+ t.history

theorem keepsCr2_steady : Steady KeepsCr2 :=
  ⟨fun _ => ⟨rfl, List.suffix_refl _⟩, fun _ _ _ h k => ⟨k.1.trans h.1, h.2.trans k.2⟩⟩

/-- MOV CR0 makes no access, so that it leaves CR2 alone although it may turn paging on (spec/49_system.md R670). -/
theorem movCr0_cr2 {r : Reg} (e : exec (.movCr0R32 r) s = .next t) (hd : sameDeliveries s t) (hm : t.unmarked = true) : t.cr2 = s.cr2 := by
  have steady := keepsCr2_steady
  have body : Keeps KeepsCr2 (writeCr0 r) := by
    have check : Keeps KeepsCr2 privCheck := .bind steady (.look steady _) fun _ => .ite (.stop steady _) (.pure steady _)
    refine .bind steady check fun _ => .bind steady (.look steady _) fun _ => .bind steady (.look steady _) fun _ =>
      .ite (.stop steady _) (.update fun s => ?_)
    unfold State.putCr0
    simp only
    split <;> exact ⟨rfl, List.suffix_refl _⟩
  rcases exec_undelivered steady (.of (exec_movCr0R32_eq s r) body) (fun _ h => h.2) e hd with h | ⟨u, ended⟩
  · exact h.1
  · exact absurd (hm.symm.trans ended.marked) (by decide)

theorem writesCr0_false (h : ∀ r rm, i ≠ .movCr0R32 r ∧ i ≠ .lmswRm16 rm ∧ i ≠ .clts) : writesCr0 i = false := by
  unfold writesCr0
  split
  · exact absurd rfl (h _ (.reg .eax)).1
  · exact absurd rfl (h .eax _).2.1
  · exact absurd rfl (h .eax (.reg .eax)).2.2
  · rfl

theorem writesPg_cases (i : Instr) : writesPg i = false ∨ ∃ r, i = .movCr0R32 r := by
  unfold writesPg
  split
  · exact .inr ⟨_, rfl⟩
  · exact .inl rfl

theorem writesCr2_false (h : ∀ r, i ≠ .movCr2R32 r) : writesCr2 i = false := by
  unfold writesCr2
  split
  · exact absurd rfl (h _)
  · rfl

theorem writesCr3_false (h : ∀ r, i ≠ .movCr3R32 r) : writesCr3 i = false := by
  unfold writesCr3
  split
  · exact absurd rfl (h _)
  · rfl

theorem setsShadow_false (hsti : i ≠ .sti) (hpop : i ≠ .popSs) (hmov : ∀ rm, i ≠ .movSregRm16 rm .ss) : setsShadow i = false := by
  unfold setsShadow
  split
  · exact absurd rfl hsti
  · exact absurd rfl hpop
  · exact absurd rfl (hmov _)
  · rfl

theorem movesEip_false {p : Pfx} (ht : isTransfer i = false) (hr : stringParts p i = none ∨ p.rep = .none) : (footprint p i).eip = false := by
  rcases hr with h | h <;> simp [footprint, repeats, ht, h]

/-- Settles O57: the footprint allows each part of the control state to the instructions named alone. -/
theorem controlFrame : Obligations.ControlFrame := by
  intro i s t hs e hm hd
  rcases exec_within hs e hd with within | ⟨u, ended⟩
  · obtain ⟨eipStart, prefixes, fetched, outcome, intr⟩ : t.eipStart = s.eipStart ∧ t.prefixes = s.prefixes ∧ t.fetched = s.fetched ∧
        t.outcome = s.outcome ∧ t.intr = s.intr := by simpa [State.ofStep] using within.ofStep
    have cr2 (off : s.pg = false) (h : ∀ r, i ≠ .movCr2R32 r) : t.cr2 = s.cr2 := by
      rcases writesPg_cases i with pg | ⟨r, rfl⟩
      · exact within.cr2 pg (writesCr2_false h) off
      · exact movCr0_cr2 e hd hm
    exact ⟨within.segs, fun h => within.cr0 (writesCr0_false h), fun h => within.cr3 (writesCr3_false h), cr2,
      fun h => within.halted (decide_eq_false h), fun h1 h2 h3 => within.shadow (setsShadow_false h1 h2 h3),
      fun ht hr => within.eip (movesEip_false ht hr), eipStart, prefixes, fetched, outcome, intr⟩
  · exact absurd (hm.symm.trans ended.marked) (by decide)

end Sys2Proof.Machine
end

section
/-! PROOFS. The flat store and the page handlers (spec/20_memory.md R101 to R113): what is written byte by byte reads back, through a span of handler
accesses too. -/

namespace Sys2Proof.Machine

/-! The bytes of an access. -/

/-- The addresses of n bytes from a physical address, modulo 2^32 (R105, R110). -/
def byteAddrs (a : Word) (n : Nat) : List Nat := (List.range n).map fun k => (a + BitVec.ofNat 32 k).toNat

@[simp] theorem byteAddrs_length (a : Word) (n : Nat) : (byteAddrs a n).length = n := by simp [byteAddrs]

theorem byteAddrs_succ (a : Word) (n : Nat) : byteAddrs a (n + 1) = a.toNat :: byteAddrs (a + 1#32) n := by
  have next (k : Nat) : a + BitVec.ofNat 32 (k + 1) = a + 1#32 + BitVec.ofNat 32 k := by
    rw [Nat.add_comm, BitVec.ofNat_add, BitVec.add_assoc]
  rw [byteAddrs, List.range_succ_eq_map, List.map_cons, List.map_map, BitVec.add_zero]
  exact congrArg _ (List.map_congr_left fun k _ => congrArg BitVec.toNat (next k))

theorem mem_byteAddrs {a : Word} {n b : Nat} : b ∈ byteAddrs a n ↔ ∃ k < n, (a + BitVec.ofNat 32 k).toNat = b := by simp [byteAddrs]

/-- Up to 2^32 bytes do not overlap. -/
theorem byteAddrs_nodup (a : Word) {n : Nat} (h : n ≤ 2 ^ 32) : (byteAddrs a n).Nodup := by
  refine List.Nodup.map_on (fun i hi j hj e => ?_) List.nodup_range
  have same := add_left_cancel (BitVec.eq_of_toNat_eq e)
  rw [List.mem_range] at hi hj
  have := congrArg BitVec.toNat same
  simp only [BitVec.toNat_ofNat] at this
  omega

theorem memRead_eq_map (m : List Host.Cell) (a : Word) (n : Nat) : memRead m a n = (byteAddrs a n).map (memByte m) := by
  induction n generalizing a with
  | zero => rfl
  | succ n ih => rw [memRead, ih, byteAddrs_succ, List.map_cons]

/-- Store bytes at addresses, one by one. -/
def storeAll (m : List Host.Cell) : List Nat → List Byte → List Host.Cell
  | a :: as, b :: bs => storeAll (tableSet m a b) as bs
  | _, _ => m

theorem memWrite_eq_storeAll (m : List Host.Cell) (a : Word) (bs : List Byte) : memWrite m a bs = storeAll m (byteAddrs a bs.length) bs := by
  induction bs generalizing m a with
  | nil => rfl
  | cons b bs ih => rw [memWrite, ih, List.length_cons, byteAddrs_succ, storeAll]

theorem storeAll_append {as : List Nat} {bs : List Byte} (h : as.length = bs.length) (m : List Host.Cell) (as' : List Nat) (bs' : List Byte) :
    storeAll m (as ++ as') (bs ++ bs') = storeAll (storeAll m as bs) as' bs' := by
  induction as generalizing m bs with
  | nil =>
    obtain rfl := List.eq_nil_of_length_eq_zero h.symm
    rfl
  | cons a as ih =>
    cases bs with
    | nil => cases h
    | cons b bs => exact ih (Nat.succ.inj h) _

/-- A store changes only the bytes at its addresses. -/
theorem memByte_storeAll_outside {as : List Nat} {b : Nat} (h : b ∉ as) (m : List Host.Cell) (bs : List Byte) :
    memByte (storeAll m as bs) b = memByte m b := by
  induction as generalizing m bs with
  | nil => rfl
  | cons a as ih =>
    cases bs with
    | nil => rfl
    | cons x bs =>
      obtain ⟨ne, rest⟩ := List.ne_and_not_mem_of_not_mem_cons h
      rw [storeAll, ih rest, memByte_tableSet, if_neg ne]

/-- What is stored at distinct addresses reads back. -/
theorem map_memByte_storeAll {as : List Nat} {bs : List Byte} (hn : as.Nodup) (h : as.length = bs.length) (m : List Host.Cell) :
    as.map (memByte (storeAll m as bs)) = bs := by
  induction as generalizing m bs with
  | nil => exact (List.eq_nil_of_length_eq_zero h.symm).symm
  | cons a as ih =>
    cases bs with
    | nil => cases h
    | cons b bs =>
      obtain ⟨first, rest⟩ := List.nodup_cons.1 hn
      rw [List.map_cons, storeAll, ih rest (Nat.succ.inj h), memByte_storeAll_outside first, memByte_tableSet, if_pos rfl]

/-- What is stored from a physical address reads back (R101). -/
theorem memRead_memWrite (m : List Host.Cell) (a : Word) {bs : List Byte} (h : bs.length ≤ 2 ^ 32) :
    memRead (memWrite m a bs) a bs.length = bs := by
  rw [memRead_eq_map, memWrite_eq_storeAll]
  exact map_memByte_storeAll (byteAddrs_nodup a h) (byteAddrs_length ..) m

/-- Settles O18: a read is the bytes at its addresses, which a store of up to 2^32 bytes sets one by one. -/
theorem storeThenLoad : Obligations.StoreThenLoad := by
  intro m a bs h
  exact ⟨memRead_memWrite m a h, memByte_memWrite_outside m a bs, memWf_memWrite a bs⟩

/-! Page handlers. -/

/-- The state after the self-modifying-code check (R113). -/
def State.announced (s : State) (p : Nat) : State := if s.holdsCode p then s.record (.smcInvalidate p) else s

theorem announced_of_no_code {s : State} {p : Nat} (h : s.holdsCode p = false) : s.announced p = s := by simp [State.announced, h]

theorem handlerRead_stored {s : State} {c : Chunk} (h : s.handler (pageOf c.pa) = .ram ∨ s.handler (pageOf c.pa) = .rom) :
    handlerRead c s = .ok (memRead s.mem c.pa c.n) s := by
  unfold handlerRead
  rcases h with h | h <;> simp only [h]

theorem handlerRead_unmapped {s : State} {c : Chunk} (h : s.handler (pageOf c.pa) = .unmapped) :
    handlerRead c s = .ok (List.replicate c.n s.cfg.unmappedFill) s := by
  unfold handlerRead
  simp only [h]

/-- A write first announces itself to a page that holds code; then ROM and a read-only mapping take it one way, and a page's own handler another
(R113, R121). -/
theorem handlerWrite_eq (c : Chunk) (bs : List Byte) (s : State) :
    handlerWrite c bs s = (if c.ro then romWrite c bs else handlerStore c bs) (s.announced (pageOf c.pa)) :=
  bind_ok (update_apply _ s)

theorem handler_announced (s : State) (p q : Nat) : (s.announced p).handler q = s.handler q := by
  unfold State.announced
  split <;> rfl

theorem cfg_announced (s : State) (p : Nat) : (s.announced p).cfg = s.cfg := by
  unfold State.announced
  split <;> rfl

theorem mem_announced (s : State) (p : Nat) : (s.announced p).mem = s.mem := by
  unfold State.announced
  split <;> rfl

theorem handlerWrite_ram {s : State} {c : Chunk} (h : s.handler (pageOf c.pa) = .ram) (hro : c.ro = false) (bs : List Byte) :
    handlerWrite c bs s = .ok () { s.announced (pageOf c.pa) with mem := memWrite s.mem c.pa bs } := by
  rw [handlerWrite_eq, hro]
  simp only [handlerStore, handler_announced, h, mem_announced, Bool.false_eq_true, if_false]

theorem handlerWrite_rom {s : State} {c : Chunk} (h : s.handler (pageOf c.pa) = .rom ∨ c.ro = true) (bs : List Byte) :
    handlerWrite c bs s = romWrite c bs (s.announced (pageOf c.pa)) := by
  rw [handlerWrite_eq]
  cases hro : c.ro with
  | true => rfl
  | false =>
    have rom := h.resolve_right (by simp [hro])
    simp only [handlerStore, handler_announced, rom, Bool.false_eq_true, if_false]

theorem handlerWrite_unmapped {s : State} {c : Chunk} (h : s.handler (pageOf c.pa) = .unmapped) (hro : c.ro = false) (bs : List Byte) :
    handlerWrite c bs s = .ok () (s.announced (pageOf c.pa)) := by
  rw [handlerWrite_eq, hro]
  simp only [handlerStore, handler_announced, h, Bool.false_eq_true, if_false]

theorem handlerWrite_mmio {s : State} {c : Chunk} {d : Nat} (h : s.handler (pageOf c.pa) = .mmio d) (hro : c.ro = false) (bs : List Byte) :
    handlerWrite c bs s = .ok () ((s.announced (pageOf c.pa)).record (.mmioWrite c.pa c.n (bytesWord bs))) := by
  rw [handlerWrite_eq, hro]
  simp only [handlerStore, handler_announced, h, Bool.false_eq_true, if_false]

/-- Settles O19, one handler at a time. -/
theorem pageHandlers : Obligations.PageHandlers := by
  intro s c bs _ _ page s0 dropped
  refine ⟨handlerRead_stored, handlerRead_unmapped, fun d h => ?_, fun h hro => handlerWrite_ram h hro bs, fun h policy => ?_, fun h policy => ?_,
    fun h hro => handlerWrite_unmapped h hro bs, fun d h hro => handlerWrite_mmio h hro bs⟩
  · refine ⟨Config.deviceRead d c.pa c.n s.draws, ?_⟩
    unfold handlerRead
    simp only [page] at h
    simp only [h]
    rfl
  · rw [handlerWrite_rom h]
    unfold romWrite
    simp only [cfg_announced, policy]
    rfl
  · rw [handlerWrite_rom h]
    unfold romWrite
    simp only [cfg_announced, policy]
    rfl

/-! Spans. -/

theorem spanBytes_cons (c : Chunk) (sp : Span) : spanBytes (c :: sp) = byteAddrs c.pa c.n ++ spanBytes sp := rfl

/-- A span of RAM or ROM reads the bytes at its addresses. -/
theorem readSpan_stored {s : State} {sp : Span} (h : ∀ c ∈ sp, s.handler (pageOf c.pa) = .ram ∨ s.handler (pageOf c.pa) = .rom) :
    readSpan sp s = .ok ((spanBytes sp).map (memByte s.mem)) s := by
  induction sp with
  | nil => rfl
  | cons c sp ih =>
    obtain ⟨first, rest⟩ := List.forall_mem_cons.1 h
    rw [readSpan, bind_ok (handlerRead_stored first), bind_ok (ih rest), spanBytes_cons, List.map_append, memRead_eq_map]
    rfl

/-- Every chunk is RAM of a page that holds no code, and was reached writably. -/
def Plain (s : State) (sp : Span) : Prop :=
  ∀ c ∈ sp, s.handler (pageOf c.pa) = .ram ∧ s.holdsCode (pageOf c.pa) = false ∧ c.ro = false

/-- A write to plain RAM sets the bytes at the addresses of the span and nothing else. -/
theorem writeSpan_plain {s : State} {sp : Span} (h : Plain s sp) {bs : List Byte} (hlen : bs.length = (spanBytes sp).length) :
    writeSpan sp bs s = .ok () { s with mem := storeAll s.mem (spanBytes sp) bs } := by
  induction sp generalizing s bs with
  | nil =>
    cases bs with
    | nil => rfl
    | cons => cases hlen
  | cons c sp ih =>
    obtain ⟨⟨ram, code, ro⟩, rest⟩ := List.forall_mem_cons.1 h
    rw [spanBytes_cons, List.length_append, byteAddrs_length] at hlen
    have front : (bs.take c.n).length = c.n := by rw [List.length_take]; omega
    have back : (bs.drop c.n).length = (spanBytes sp).length := by rw [List.length_drop]; omega
    have split : storeAll (memWrite s.mem c.pa (bs.take c.n)) (spanBytes sp) (bs.drop c.n) = storeAll s.mem (spanBytes (c :: sp)) bs := by
      rw [memWrite_eq_storeAll, front, spanBytes_cons, ← storeAll_append (by rw [byteAddrs_length, front]), List.take_append_drop]
    have head := handlerWrite_ram ram ro (bs.take c.n)
    rw [announced_of_no_code code] at head
    rw [writeSpan, bind_ok head, ← split]
    exact ih (s := { s with mem := memWrite s.mem c.pa (bs.take c.n) }) rest back

/-- Settles O20: the addresses of a plain span are set one by one, and being distinct read back. -/
theorem spanRoundTrip : Obligations.SpanRoundTrip := by
  intro s sp bs distinct hlen plain
  have back := map_memByte_storeAll distinct hlen.symm s.mem
  refine ⟨storeAll s.mem (spanBytes sp) bs, writeSpan_plain plain hlen, ?_, fun b hb => memByte_storeAll_outside hb _ _, fun k hk b hb => ?_⟩
  · have ram : ∀ c ∈ sp, { s with mem := storeAll s.mem (spanBytes sp) bs }.handler (pageOf c.pa) = .ram := fun c hc => (plain c hc).1
    exact (readSpan_stored fun c hc => .inl (ram c hc)).trans (congrArg (EStateM.Result.ok · _) back)
  · have at_k := congrArg (·[k]?) back
    simpa [hb, hk] using at_k

end Sys2Proof.Machine
end

section
/-! PROOFS. The checks and addresses of an access with paging off (spec/20_memory.md R121, R140 to R146). -/

namespace Sys2Proof.Machine

/-! The segment check. -/

/-- Settles O22, one answer of the check at a time. -/
theorem segmentCheck : Obligations.SegmentCheck := by
  intro s r off n c inside
  have checked : segCheck r off n s =
      (if c.null then raiseGp else if withinLimit c off n then pure () else if r = .ss then raise0 12#8 else raiseGp : Act Unit) s :=
    bind_ok (look_apply _ s)
  rw [checked]
  refine ⟨fun null => ?_, fun present within => ?_, fun present beyond ss => ?_, fun present beyond other => ?_⟩
  · rw [if_pos null]
    rfl
  · have : withinLimit c off n = true := decide_eq_true within
    rw [present, this]
    rfl
  · have : withinLimit c off n = false := decide_eq_false beyond
    rw [present, this, if_pos ss]
    rfl
  · have : withinLimit c off n = false := decide_eq_false beyond
    rw [present, this, if_neg other]
    rfl

/-! Pages and offsets as numbers. -/

theorem pageOf_eq_div (a : Word) : pageOf a = a.toNat / 4096 := by
  rw [pageOf, BitVec.toNat_ushiftRight, Nat.shiftRight_eq_div_pow]

theorem toNat_inPage (page : BitVec 20) (a : Word) : (inPage page a).toNat = 4096 * page.toNat + a.toNat % 4096 := by
  rw [inPage, BitVec.toNat_append, BitVec.extractLsb'_toNat, Nat.shiftRight_zero, Nat.shiftLeft_eq, ← Nat.shiftLeft_eq,
    ← Nat.shiftLeft_add_eq_or_of_lt (Nat.mod_lt _ (by decide)), Nat.shiftLeft_eq, Nat.mul_comm]

theorem pageOf_inPage (page : BitVec 20) (a : Word) : pageOf (inPage page a) = page.toNat := by
  rw [pageOf_eq_div, toNat_inPage]
  omega

theorem toNat_add_ofNat (a : Word) (k : Nat) : (a + BitVec.ofNat 32 k).toNat = (a.toNat + k) % 2 ^ 32 := by
  rw [BitVec.toNat_add, BitVec.toNat_ofNat, Nat.add_mod_mod]

/-- With paging off a translation depends on the page alone. -/
theorem translateOff_of_page {s : State} {a b : Word} (h : pageOf a = pageOf b) : translateOff s a = translateOff s b := by
  have identity : a.extractLsb' 12 20 = b.extractLsb' 12 20 := by
    apply BitVec.eq_of_toNat_eq
    rw [BitVec.extractLsb'_toNat, BitVec.extractLsb'_toNat]
    exact congrArg (· % 2 ^ 20) (by simpa [pageOf] using h)
  unfold translateOff
  rw [h, identity]

/-- The bytes of a short access lie in its first page or in its last. -/
theorem page_of_byte {la : Word} {n k : Nat} (hn : n ≤ 8) (hk : k < n) (h : pageOf (la + BitVec.ofNat 32 k) ≠ pageOf la) :
    pageOf (la + BitVec.ofNat 32 k) = pageOf (la + BitVec.ofNat 32 (n - 1)) := by
  have := la.isLt
  simp only [pageOf_eq_div, toNat_add_ofNat] at *
  omega

/-- A short access that ends in its first page stays there. -/
theorem page_of_inner_byte {la : Word} {n k : Nat} (hn : n ≤ 8) (hk : k < n) (h : pageOf la = pageOf (la + BitVec.ofNat 32 (n - 1))) :
    pageOf (la + BitVec.ofNat 32 k) = pageOf la := by
  have := la.isLt
  simp only [pageOf_eq_div, toNat_add_ofNat] at *
  omega

/-- Within a page the physical byte moves with the linear one. -/
theorem inPage_add {page : BitVec 20} {la : Word} {k : Nat} (hk : k < 8) (h : pageOf (la + BitVec.ofNat 32 k) = pageOf la) :
    inPage page (la + BitVec.ofNat 32 k) = inPage page la + BitVec.ofNat 32 k := by
  have := la.isLt
  have := page.isLt
  apply BitVec.eq_of_toNat_eq
  simp only [pageOf_eq_div, toNat_add_ofNat, toNat_inPage] at *
  omega

theorem pageOf_pageStart (a : Word) : pageOf (a &&& 0xFFFFF000#32) = pageOf a := by
  unfold pageOf
  congr 1
  apply BitVec.eq_of_getLsbD_eq
  intro i hi
  simp only [BitVec.getLsbD_ushiftRight, BitVec.getLsbD_and]
  by_cases h : 12 + i < 32
  · have : 12 ≤ 12 + i := by omega
    generalize 12 + i = j at *
    have ones : (0xFFFFF000#32).getLsbD j = true := by interval_cases j <;> rfl
    rw [ones, Bool.and_true]
  · simp [BitVec.getLsbD_of_ge a (12 + i) (by omega)]

/-! Spans with paging off. -/

/-- The chunks of an access within a page cover its bytes (R109, R110). -/
theorem spanBytes_physSpan {pa : Word} {n : Nat} (h : pageOf pa = pageOf (pa + BitVec.ofNat 32 (n - 1))) (ro : Bool) :
    spanBytes (physSpan pa n ro) = byteAddrs pa n := by
  unfold physSpan
  rw [if_pos h]
  by_cases h8 : n = 8
  · subst h8
    simp [spanBytes, byteAddrs, List.range_succ]
  · simp [if_neg h8, spanBytes, byteAddrs]

/-- The chunks of single bytes cover them. -/
theorem spanBytes_singles (n : Nat) (f : Nat → Chunk) (h : ∀ k, (f k).n = 1) :
    spanBytes ((List.range n).map f) = (List.range n).map fun k => (f k).pa.toNat := by
  have single (k : Nat) : byteAddrs (f k).pa (f k).n = [(f k).pa.toNat] := by rw [h, byteAddrs_succ]; rfl
  rw [spanBytes, List.flatMap_map, List.map_eq_flatMap]
  exact List.flatMap_congr fun k _ => single k

theorem resolveLin_off_within {s : State} {la : Word} {n : Nat} (hpg : s.pg = false) (h : pageOf la = pageOf (la + BitVec.ofNat 32 (n - 1)))
    (write : Bool) : resolveLin la n write s = .ok (physSpan (inPage (translateOff s la).1 la) n (translateOff s la).2) s := by
  unfold resolveLin
  simp only [if_pos h]
  rw [bind_ok (translate_off hpg la write)]
  rfl

/-- The chunk of a byte of an access with paging off. -/
def offChunk (s : State) (a : Word) : Chunk := ⟨inPage (translateOff s a).1 a, 1, (translateOff s a).2⟩

theorem resolveLin_off_across {s : State} {la : Word} {n : Nat} (hpg : s.pg = false) (hn : n ≤ 8)
    (h : pageOf la ≠ pageOf (la + BitVec.ofNat 32 (n - 1))) (write : Bool) :
    resolveLin la n write s = .ok ((List.range n).map fun k => offChunk s (la + BitVec.ofNat 32 k)) s := by
  unfold resolveLin
  simp only [if_neg h]
  rw [bind_ok (translate_off hpg la write), bind_ok (translate_off hpg _ write)]
  refine congrArg (EStateM.Result.ok · s) (List.map_congr_left fun k hk => ?_)
  rw [List.mem_range] at hk
  unfold offChunk
  by_cases first : pageOf (la + BitVec.ofNat 32 k) = pageOf la
  · simp only [if_pos first, translateOff_of_page first]
  · have last := page_of_byte hn hk first
    simp only [if_neg first, translateOff_of_page ((pageOf_pageStart _).trans last.symm)]

/-- Settles O21: within a page the bytes move together, and across a page each is translated by its own page. -/
theorem spanWithPagingOff : Obligations.SpanWithPagingOff := by
  intro s la n write hpg hn
  have short : n ≤ 8 := by omega
  by_cases h : pageOf la = pageOf (la + BitVec.ofNat 32 (n - 1))
  · refine ⟨_, resolveLin_off_within hpg h write, ?_⟩
    have inner {k : Nat} (hk : k < n) := page_of_inner_byte short hk h
    have phys {page : BitVec 20} {k : Nat} (hk : k < n) := inPage_add (page := page) (Nat.lt_of_lt_of_le hk short) (inner hk)
    have last : n - 1 < n := by omega
    rw [spanBytes_physSpan (by rw [← phys last, pageOf_inPage, pageOf_inPage])]
    refine List.map_congr_left fun k hk => ?_
    rw [List.mem_range] at hk
    rw [translateOff_of_page (inner hk), phys hk]
  · exact ⟨_, resolveLin_off_across hpg short h write, spanBytes_singles n _ fun _ => rfl⟩

end Sys2Proof.Machine
end

section
/-! PROOFS. Translation with paging on: a TLB hit, a walk that succeeds and one that faults (spec/20_memory.md R122 to R135). -/

namespace Sys2Proof.Machine

/-! Table entries. -/

/-- The table entry at a physical address (R122). -/
def entryAt (m : List Host.Cell) (pa : Word) : Word := bytesWord (memRead m pa 4)

/-- The store with a table entry written. -/
def putEntry (m : List Host.Cell) (pa v : Word) : List Host.Cell := memWrite m pa (leBytes 4 v.toNat)

theorem entryAt_putEntry (m : List Host.Cell) (pa v : Word) : entryAt (putEntry m pa v) pa = v := by
  have back : memRead (putEntry m pa v) pa 4 = leBytes 4 v.toNat := by
    have := memRead_memWrite m pa (bs := leBytes 4 v.toNat) (by rw [leBytes_length]; decide)
    rwa [leBytes_length] at this
  rw [entryAt, back, bytesWord, leNat_leBytes]
  exact BitVec.eq_of_toNat_eq (by rw [BitVec.toNat_ofNat]; have := v.isLt; omega)

theorem memByte_putEntry_outside {m : List Host.Cell} {pa v : Word} {b : Nat} (h : ∀ k < 4, b ≠ (pa + BitVec.ofNat 32 k).toNat) :
    memByte (putEntry m pa v) b = memByte m b :=
  memByte_memWrite_outside m pa _ b (by rwa [leBytes_length])

/-- An address of a table entry, a multiple of 4. -/
def Aligned (pa : Word) : Prop := pa.toNat % 4 = 0

theorem entryAt_putEntry_ne {pa pb : Word} (ha : Aligned pa) (hb : Aligned pb) (h : pb ≠ pa) (m : List Host.Cell) (v : Word) :
    entryAt (putEntry m pa v) pb = entryAt m pb := by
  have apart : pb.toNat ≠ pa.toNat := fun e => h (BitVec.eq_of_toNat_eq e)
  have below := pa.isLt
  have below' := pb.isLt
  unfold Aligned at ha hb
  rw [entryAt, entryAt, memRead_eq_map, memRead_eq_map]
  refine congrArg bytesWord (List.map_congr_left fun b hb => memByte_putEntry_outside fun k hk => ?_)
  obtain ⟨j, hj, rfl⟩ := mem_byteAddrs.1 hb
  simp only [toNat_add_ofNat]
  omega

theorem aligned_of_parts (x y : Word) : Aligned ((x &&& 0xFFFFF000#32) ||| (y <<< 2)) := by
  have low : ((x &&& 0xFFFFF000#32) ||| (y <<< 2)).extractLsb' 0 2 = 0#2 := by
    apply BitVec.eq_of_getLsbD_eq
    intro i hi
    have zero : (0xFFFFF000#32).getLsbD i = false := by interval_cases i <;> rfl
    simp [hi, zero]
  have := congrArg BitVec.toNat low
  rwa [BitVec.extractLsb'_toNat, Nat.shiftRight_zero] at this

theorem physSpan_aligned {pa : Word} (h : Aligned pa) : physSpan pa 4 false = [⟨pa, 4, false⟩] := by
  have samePage : pageOf pa = pageOf (pa + BitVec.ofNat 32 (4 - 1)) := by
    have := pa.isLt
    unfold Aligned at h
    simp only [pageOf_eq_div, toNat_add_ofNat]
    omega
  unfold physSpan
  rw [if_pos samePage, if_neg (by decide)]

/-- The entry lies in RAM of a page that holds no code. -/
def PlainAt (s : State) (pa : Word) : Prop := s.handler (pageOf pa) = .ram ∧ s.holdsCode (pageOf pa) = false

theorem physRead32_plain {s : State} {pa : Word} (ha : Aligned pa) (h : PlainAt s pa) : physRead32 pa s = .ok (entryAt s.mem pa) s := by
  have read := readSpan_stored (s := s) (sp := [⟨pa, 4, false⟩]) (List.forall_mem_singleton.2 (.inl h.1))
  rw [spanBytes_cons, List.map_append, ← memRead_eq_map] at read
  unfold physRead32
  rw [physSpan_aligned ha, bind_ok read]
  exact congrArg (EStateM.Result.ok · s) (congrArg bytesWord (List.append_nil _))

theorem physWrite32_plain {s : State} {pa : Word} (ha : Aligned pa) (h : PlainAt s pa) (v : Word) :
    physWrite32 pa v s = .ok () { s with mem := putEntry s.mem pa v } := by
  have write := handlerWrite_ram (c := ⟨pa, 4, false⟩) h.1 rfl (leBytes 4 v.toNat)
  rw [announced_of_no_code h.2] at write
  unfold physWrite32
  rw [physSpan_aligned ha, writeSpan, List.take_of_length_le (by simp [leBytes_length]), bind_ok write]
  rfl

/-! Accessed and dirty bits. -/

/-- The store with an entry written unless the condition says that it holds the value already. -/
def putUnless (c : Bool) (m : List Host.Cell) (pa v : Word) : List Host.Cell := if c then m else putEntry m pa v

theorem entryAt_putUnless {c : Bool} {m : List Host.Cell} {pa v : Word} (h : c = true → entryAt m pa = v) :
    entryAt (putUnless c m pa v) pa = v := by
  cases c with
  | true => exact h rfl
  | false => exact entryAt_putEntry m pa v

theorem entryAt_putUnless_ne {pa pb : Word} (ha : Aligned pa) (hb : Aligned pb) (h : pb ≠ pa) (c : Bool) (m : List Host.Cell) (v : Word) :
    entryAt (putUnless c m pa v) pb = entryAt m pb := by
  cases c with
  | true => rfl
  | false => exact entryAt_putEntry_ne ha hb h m v

theorem memByte_putUnless_outside {c : Bool} {m : List Host.Cell} {pa v : Word} {b : Nat} (h : ∀ k < 4, b ≠ (pa + BitVec.ofNat 32 k).toNat) :
    memByte (putUnless c m pa v) b = memByte m b := by
  cases c with
  | true => rfl
  | false => exact memByte_putEntry_outside h

/-- Setting a bit that is set. -/
theorem or_bit_set {v : Word} {k : Nat} (h : v.getLsbD k = true) : v ||| (1#32 <<< k) = v := by
  apply BitVec.eq_of_getLsbD_eq
  intro i hi
  by_cases hk : i = k
  · subst hk
    simp [h]
  · have : (1#32 <<< k).getLsbD i = false := by
      rw [BitVec.getLsbD_shiftLeft]
      simp only [BitVec.getLsbD_one]
      simp
      omega
    rw [BitVec.getLsbD_or, this, Bool.or_false]

/-- The accessed and dirty bits a walk sets in a page-table entry. -/
def withAD (pte : Word) (write : Bool) : Word := pte ||| 0x20#32 ||| (if write then 0x40#32 else 0#32)

/-- A page-table entry has the bits a walk would set. -/
def hasAD (pte : Word) (write : Bool) : Bool := pte.getLsbD 5 && !(write && !pte.getLsbD 6)

theorem withAD_of_hasAD {pte : Word} {write : Bool} (h : hasAD pte write = true) : withAD pte write = pte := by
  simp only [hasAD, Bool.and_eq_true, Bool.not_eq_true', Bool.and_eq_false_iff, Bool.not_eq_false'] at h
  obtain ⟨accessed, clean⟩ := h
  have a : pte ||| 0x20#32 = pte := or_bit_set accessed
  rw [withAD, a]
  rcases clean with rfl | dirty
  · exact BitVec.or_zero
  · cases write with
    | false => exact BitVec.or_zero
    | true => exact or_bit_set dirty

theorem setPdeA_plain {s : State} {pa : Word} (ha : Aligned pa) (h : PlainAt s pa) (pde : Word) :
    setPdeA pa pde s = .ok () { s with mem := putUnless (pde.getLsbD 5) s.mem pa (pde ||| 0x20#32) } := by
  unfold setPdeA
  cases pde.getLsbD 5 with
  | true => rfl
  | false => exact physWrite32_plain ha h _

theorem setPteAD_plain {s : State} {pa : Word} (ha : Aligned pa) (h : PlainAt s pa) (pte : Word) (write : Bool) :
    setPteAD pa pte write s = .ok () { s with mem := putUnless (hasAD pte write) s.mem pa (withAD pte write) } := by
  have eq : setPteAD pa pte write = if hasAD pte write then pure () else physWrite32 pa (withAD pte write) := rfl
  rw [eq]
  cases hasAD pte write with
  | true => rfl
  | false => exact physWrite32_plain ha h _

/-- Before a page fault the accessed bit of the directory entry may be set, as a draw decides (R122). -/
theorem pdeAOnFault_plain {s : State} {pa : Word} (ha : Aligned pa) (h : PlainAt s pa) (pde : Word) :
    ∃ m d, pdeAOnFault pa pde s = .ok () { s with mem := m, draws := d } ∧ (m = s.mem ∨ m = putEntry s.mem pa (pde ||| 0x20#32)) := by
  unfold pdeAOnFault
  cases pde.getLsbD 5 with
  | true => exact ⟨s.mem, s.draws, rfl, .inl rfl⟩
  | false =>
    obtain ⟨b, drawn⟩ := drawBit_ok s
    simp only [Bool.false_eq_true, if_false]
    rw [bind_ok drawn]
    cases b with
    | false => exact ⟨s.mem, _, rfl, .inl rfl⟩
    | true => exact ⟨_, s.draws + 1, physWrite32_plain (s := { s with draws := s.draws + 1 }) ha h _, .inr rfl⟩

/-! The walk. -/

/-- The address of the directory entry a walk reads (R122). -/
def State.pdeAddr (s : State) (la : Word) : Word := pdeAddrOf s.cr3 la

/-- The directory entry. -/
def State.pde (s : State) (la : Word) : Word := entryAt s.mem (s.pdeAddr la)

/-- The address of the table entry. -/
def State.pteAddr (s : State) (la : Word) : Word := pteAddrOf (s.pde la) la

/-- The table entry. -/
def State.pte (s : State) (la : Word) : Word := entryAt s.mem (s.pteAddr la)

theorem pdeAddr_aligned (s : State) (la : Word) : Aligned (s.pdeAddr la) := aligned_of_parts ..

theorem pteAddr_aligned (s : State) (la : Word) : Aligned (s.pteAddr la) := aligned_of_parts ..

/-- The TLB entry a walk gives. -/
def State.walked (s : State) (la : Word) : TlbEntry :=
  { physPage := (s.pte la).extractLsb' 12 20, uOk := (s.pde la).getLsbD 2 && (s.pte la).getLsbD 2
    wOk := (s.pde la).getLsbD 1 && (s.pte la).getLsbD 1 }

/-- The permission check of a walk (R125). -/
def State.grants (s : State) (la : Word) (write : Bool) : Bool :=
  permitted (s.walked la).uOk (s.walked la).wOk write s.user s.honoursWp

section
variable {s : State} {la : Word} (write : Bool) (hd : PlainAt s (s.pdeAddr la))
include hd

theorem read_pde : physRead32 (pdeAddrOf s.cr3 la) s = .ok (s.pde la) s := physRead32_plain (pdeAddr_aligned s la) hd

theorem walk_pde_absent (h : (s.pde la).getLsbD 0 = false) : walk la write s = pageFault la false write s.user s := by
  unfold walk
  rw [bind_ok (look_apply _ s), bind_ok (look_apply _ s), bind_ok (look_apply _ s), bind_ok (read_pde hd), if_pos (by rw [h]; rfl)]

variable (ht : PlainAt s (s.pteAddr la)) (hp : (s.pde la).getLsbD 0 = true)
include ht hp

/-- With the directory entry present a walk reads both entries, and then faults or sets their bits. -/
theorem walk_pde_present : walk la write s =
    (if !(s.pte la).getLsbD 0 then do
      pdeAOnFault (s.pdeAddr la) (s.pde la)
      pageFault la false write s.user
    else if !s.grants la write then do
      pdeAOnFault (s.pdeAddr la) (s.pde la)
      pageFault la true write s.user
    else do
      setPdeA (s.pdeAddr la) (s.pde la)
      setPteAD (s.pteAddr la) (s.pte la) write
      pure { entry := s.walked la, dirty := (s.pte la).getLsbD 6 || write } : Act WalkResult) s := by
  unfold walk
  have read_pte : physRead32 (pteAddrOf (s.pde la) la) s = .ok (s.pte la) s := physRead32_plain (pteAddr_aligned s la) ht
  rw [bind_ok (look_apply _ s), bind_ok (look_apply _ s), bind_ok (look_apply _ s), bind_ok (read_pde hd), if_neg (by rw [hp]; decide),
    bind_ok read_pte]
  rfl

/-- A walk faults when the table entry is absent or denies the access; the fault's bit 0 is the entry's (R122, R128). -/
theorem walk_faults (h : (s.pte la).getLsbD 0 = false ∨ s.grants la write = false) : ∃ m d,
    walk la write s = .error (.fault 14#8 (some (pfError ((s.pte la).getLsbD 0) write s.user))) { s with cr2 := la, mem := m, draws := d } ∧
      (m = s.mem ∨ m = putEntry s.mem (s.pdeAddr la) (s.pde la ||| 0x20#32)) := by
  obtain ⟨m, d, marked, hm⟩ := pdeAOnFault_plain (pdeAddr_aligned ..) hd (s.pde la)
  refine ⟨m, d, ?_, hm⟩
  rw [walk_pde_present write hd ht hp]
  cases absent : (s.pte la).getLsbD 0 with
  | false => exact bind_ok marked
  | true =>
    have denied := h.resolve_left (by rw [absent]; decide)
    rw [denied]
    exact bind_ok marked

/-- The store after a walk that succeeds. -/
def State.walkedMem (s : State) (la : Word) (write : Bool) : List Host.Cell :=
  let accessed := putUnless ((s.pde la).getLsbD 5) s.mem (s.pdeAddr la) (s.pde la ||| 0x20#32)
  putUnless (hasAD (s.pte la) write) accessed (s.pteAddr la) (withAD (s.pte la) write)

theorem walk_finds (present : (s.pte la).getLsbD 0 = true) (granted : s.grants la write = true) :
    walk la write s = .ok { entry := s.walked la, dirty := (s.pte la).getLsbD 6 || write } { s with mem := s.walkedMem la write } := by
  rw [walk_pde_present write hd ht hp, present, granted]
  simp only [Bool.not_true, Bool.false_eq_true, if_false]
  rw [bind_ok (setPdeA_plain (pdeAddr_aligned ..) hd _)]
  exact bind_ok (setPteAD_plain (pteAddr_aligned ..) (by exact ht) _ _)

end

theorem walkedMem_pte (s : State) (la : Word) (write : Bool) : entryAt (s.walkedMem la write) (s.pteAddr la) = withAD (s.pte la) write := by
  refine entryAt_putUnless fun has => ?_
  rw [withAD_of_hasAD has]
  by_cases same : s.pteAddr la = s.pdeAddr la
  · have both : s.pte la = s.pde la := congrArg (entryAt s.mem) same
    have set : (s.pde la).getLsbD 5 = true := by
      rw [← both]
      exact (Bool.and_eq_true_iff.1 has).1
    rw [set]
    rfl
  · exact entryAt_putUnless_ne (pdeAddr_aligned ..) (pteAddr_aligned ..) same _ _ _

theorem walkedMem_pde {s : State} {la : Word} (h : s.pteAddr la ≠ s.pdeAddr la) (write : Bool) :
    entryAt (s.walkedMem la write) (s.pdeAddr la) = s.pde la ||| 0x20#32 := by
  rw [State.walkedMem, entryAt_putUnless_ne (pteAddr_aligned ..) (pdeAddr_aligned ..) h.symm]
  exact entryAt_putUnless fun set => (or_bit_set set).symm

theorem walkedMem_outside {s : State} {la : Word} {b : Nat}
    (h : ∀ k < 4, b ≠ (s.pdeAddr la + BitVec.ofNat 32 k).toNat ∧ b ≠ (s.pteAddr la + BitVec.ofNat 32 k).toNat) (write : Bool) :
    memByte (s.walkedMem la write) b = memByte s.mem b :=
  (memByte_putUnless_outside fun k hk => (h k hk).2).trans (memByte_putUnless_outside fun k hk => (h k hk).1)

/-! Evictions. -/

/-- Evicting changes the TLB and the count of draws alone (R134). -/
theorem evicted_eq (s : State) : s.evicted = { s with tlbR := s.evicted.tlbR, tlbW := s.evicted.tlbW, draws := s.evicted.draws } := by
  unfold State.evicted
  split
  · rfl
  · rfl

/-- Evictions leave memory, the tables and the permission check alone. -/
theorem evicted_tables (s : State) (la : Word) (write : Bool) : s.evicted.mem = s.mem ∧ s.evicted.pdeAddr la = s.pdeAddr la ∧
    s.evicted.pde la = s.pde la ∧ s.evicted.pteAddr la = s.pteAddr la ∧ s.evicted.pte la = s.pte la ∧ s.evicted.user = s.user ∧
    s.evicted.grants la write = s.grants la write ∧ s.evicted.walked la = s.walked la := by
  rw [evicted_eq]
  exact ⟨rfl, rfl, rfl, rfl, rfl, rfl, rfl, rfl⟩

theorem plainAt_evicted {s : State} {pa : Word} (h : PlainAt s pa) : PlainAt s.evicted pa := by rw [evicted_eq]; exact h

theorem tableGet_filter {α : Type} (l : List (Nat × α)) (keep : Nat → Bool) (p : Nat) :
    tableGet (l.filter fun e => keep e.1) p = if keep p then tableGet l p else none := by
  induction l with
  | nil => simp [tableGet]
  | cons e l ih =>
    obtain ⟨k, v⟩ := e
    by_cases hk : k = p
    · subst hk
      cases h : keep k with
      | true => simp [h, tableGet]
      | false => simp [h, ih]
    · cases h : keep k with
      | true => simp [h, tableGet, hk, ih]
      | false => simp [h, tableGet, hk, ih]

/-- An eviction takes entries out and leaves the others. -/
theorem evicted_entries (s : State) (p : Nat) :
    (tableGet s.evicted.tlbR p = none ∨ tableGet s.evicted.tlbR p = tableGet s.tlbR p) ∧
    (tableGet s.evicted.tlbW p = none ∨ tableGet s.evicted.tlbW p = tableGet s.tlbW p) := by
  have taken {l : List (Nat × TlbEntry)} {keep : Nat → Bool} :
      tableGet (l.filter fun e => keep e.1) p = none ∨ tableGet (l.filter fun e => keep e.1) p = tableGet l p := by
    rw [tableGet_filter]
    split
    · exact .inr rfl
    · exact .inl rfl
  unfold State.evicted
  split
  · exact ⟨.inr rfl, .inr rfl⟩
  · exact ⟨taken (keep := fun k => !Config.evicts s.draws false k), taken (keep := fun k => !Config.evicts s.draws true k)⟩

/-- Evictions do not look at memory. -/
theorem evicted_setMem (s : State) (m : List Host.Cell) : { s with mem := m }.evicted = { s.evicted with mem := m } := by
  simp only [State.evicted]
  split
  · rfl
  · rfl

/-! Translation. -/

theorem honoursWp_eq (s : State) : s.honoursWp = (s.cfg.gen != .g386 && s.wp) := by
  unfold State.honoursWp
  cases s.cfg.gen with
  | g386 | g486 | g586 => rfl

theorem translate_hit {s : State} {la : Word} {write : Bool} {e : TlbEntry} (hpg : s.pg = true) (h : tlbHit s.evicted la write = some e) :
    translate la write s = .ok (e.physPage, false) s.evicted := by
  unfold translate translateOn
  rw [if_pos hpg, evict, bind_ok (update_apply _ s), bind_ok (look_apply _ _), h]
  rfl

theorem translate_miss {s : State} {la : Word} {write : Bool} (hpg : s.pg = true) (h : tlbHit s.evicted la write = none) :
    translate la write s = (do
      let r ← walk la write
      refill (pageOf la) r
      pure (r.entry.physPage, false)) s.evicted := by
  unfold translate translateOn
  rw [if_pos hpg, evict, bind_ok (update_apply _ s), bind_ok (look_apply _ _), h]

/-- The permission check as R125 words it. -/
theorem permitted_of {s : State} {e : TlbEntry} {write : Bool}
    (h : if s.cpl = 3#2 then e.uOk = true ∧ (write = true → e.wOk = true)
      else write = true → e.wOk = true ∨ s.cfg.gen = .g386 ∨ s.wp = false) :
    permitted e.uOk e.wOk write s.user s.honoursWp = true := by
  rw [honoursWp_eq]
  unfold permitted State.user
  by_cases user : s.cpl = 3#2
  · rw [if_pos user] at h
    obtain ⟨u, w⟩ := h
    cases write with
    | false => simp [user, u]
    | true => simp [user, u, w]
  · rw [if_neg user] at h
    cases write with
    | false => simp [user]
    | true => rcases h rfl with w | gen | wp <;> simp [*]

/-- Settles O23: a hit answers before the walk, and evictions filter the TLB by page. -/
theorem tlbHitIgnoresTables : Obligations.TlbHitIgnoresTables := by
  intro s s0
  refine ⟨⟨_, _, _, evicted_eq s, evicted_entries s⟩, fun la write e hpg stored allowed m => ?_⟩
  have granted : permitted e.uOk e.wOk write s0.user s0.honoursWp = true := by
    simp only [s0]
    rw [evicted_eq]
    exact permitted_of allowed
  have hit : tlbHit { s0 with mem := m } la write = some e := by
    unfold tlbHit
    simp only
    rw [stored]
    exact if_pos granted
  rw [← evicted_setMem] at hit
  rw [translate_hit (s := { s with mem := m }) hpg hit, evicted_setMem]

section
variable {s : State} {la : Word} {write : Bool} (hpg : s.pg = true) (missed : tlbHit s.evicted la write = none) (hd : PlainAt s (s.pdeAddr la))
include hpg missed hd

theorem translate_pde_absent (h : (s.pde la).getLsbD 0 = false) :
    translate la write s = .error (.fault 14#8 (some (pfError false write s.user))) { s.evicted with cr2 := la } := by
  obtain ⟨-, pdeAddr, pde, -, -, user, -, -⟩ := evicted_tables s la write
  rw [← pdeAddr] at hd
  rw [translate_miss hpg missed, bind_error (walk_pde_absent write (plainAt_evicted hd) (pde ▸ h)), user]

variable (ht : PlainAt s (s.pteAddr la)) (hp : (s.pde la).getLsbD 0 = true)
include ht hp

theorem translate_faults (h : (s.pte la).getLsbD 0 = false ∨ s.grants la write = false) : ∃ m d,
    translate la write s =
      .error (.fault 14#8 (some (pfError ((s.pte la).getLsbD 0) write s.user))) { s.evicted with cr2 := la, mem := m, draws := d } ∧
    (m = s.mem ∨ m = putEntry s.mem (s.pdeAddr la) (s.pde la ||| 0x20#32)) := by
  obtain ⟨mem, pdeAddr, pde, pteAddr, pte, user, grants, -⟩ := evicted_tables s la write
  rw [← pdeAddr] at hd
  rw [← pteAddr] at ht
  rw [← pte, ← grants] at h
  obtain ⟨m, d, faults, hm⟩ := walk_faults write (plainAt_evicted hd) (plainAt_evicted ht) (pde ▸ hp) h
  rw [pte, user] at faults
  rw [mem, pdeAddr, pde] at hm
  exact ⟨m, d, (translate_miss hpg missed).trans (bind_error faults), hm⟩

theorem translate_finds (present : (s.pte la).getLsbD 0 = true) (granted : s.grants la write = true) :
    translate la write s = .ok ((s.walked la).physPage, false)
      { s.evicted with
        mem := s.walkedMem la write
        tlbR := tableSet s.evicted.tlbR (pageOf la) (s.walked la)
        tlbW := if (s.pte la).getLsbD 6 || write then tableSet s.evicted.tlbW (pageOf la) (s.walked la) else s.evicted.tlbW } := by
  obtain ⟨mem, pdeAddr, pde, pteAddr, pte, user, grants, walked⟩ := evicted_tables s la write
  rw [← pdeAddr] at hd
  rw [← pteAddr] at ht
  have found := walk_finds write (plainAt_evicted hd) (plainAt_evicted ht) (pde ▸ hp) (pte ▸ present) (grants ▸ granted)
  have walkedMem : s.evicted.walkedMem la write = s.walkedMem la write := by
    unfold State.walkedMem
    rw [mem, pdeAddr, pde, pteAddr, pte]
  rw [walked, pte, walkedMem] at found
  rw [translate_miss hpg missed, bind_ok found]
  rfl

end

/-- Settles O24: the walk of the evicted state faults. -/
theorem pageFaults : Obligations.PageFaults := by
  intro s la write s0 hpg missed pdeAddr pde pteAddr pte user plain allowed hd
  refine ⟨fun absent => translate_pde_absent hpg missed hd absent, fun present ht fails => ?_⟩
  have denied : (s.pte la).getLsbD 0 = false ∨ s.grants la write = false := by
    unfold State.grants
    rw [honoursWp_eq]
    exact fails
  obtain ⟨m, d, faults, hm⟩ := translate_faults hpg missed hd ht present denied
  exact ⟨_, faults, ⟨m, d, rfl⟩, hm⟩

/-- Settles O25: the walk of the evicted state finds the page, and the refill stores it. -/
theorem walkFillsTlb : Obligations.WalkFillsTlb := by
  intro s la write s0 hpg missed pdeAddr pde pteAddr pte plain entry dirty hd ht present present' permits
  have granted : s.grants la write = true := by
    unfold State.grants
    rw [honoursWp_eq]
    exact permits
  exact ⟨s.walkedMem la write, translate_finds hpg missed hd ht present present' granted, walkedMem_pte s la write,
    fun apart => walkedMem_pde apart write, fun b outside => walkedMem_outside outside write⟩

end Sys2Proof.Machine
end

section
/-! PROOFS. What an instruction leaves of memory: a body that stores nothing with paging off, and one that stores through a resolved operand alone
(spec/20_memory.md R101, R121, R141; spec/30_encoding.md R217). -/

namespace Sys2Proof.Machine

variable {R : State → State → Prop} {α β : Type}

/-! Changes that leave memory alone. -/

/-- Memory, the launch parameters and the paging mode are the same, and the history only grew. -/
structure Still (s t : State) : Prop where
  mem : t.mem = s.mem
  cfg : t.cfg = s.cfg
  pg : t.pg = s.pg
  history : s.history <:+ t.history

theorem still_steady : Steady Still where
  refl _ := ⟨rfl, rfl, rfl, List.suffix_refl _⟩
  trans _ _ _ h k := ⟨k.mem.trans h.mem, k.cfg.trans h.cfg, k.pg.trans h.pg, h.history.trans k.history⟩

/-- The fields of `Still`. -/
abbrev State.stillPart (s : State) := (s.mem, s.cfg, s.pg, s.history)

/-- An update of other fields. -/
theorem still_of_same {s t : State} (h : t.stillPart = s.stillPart) : Still s t := by
  simp only [State.stillPart, Prod.mk.injEq] at h
  obtain ⟨mem, cfg, pg, history⟩ := h
  exact ⟨mem, cfg, pg, history ▸ List.suffix_refl _⟩

theorem still_setStackTop (s : State) (v : Word) : Still s (s.setStackTop v) := by
  unfold State.setStackTop
  split
  · exact still_of_same rfl
  · exact still_of_same rfl

/-- The relation holds of every change that leaves memory alone. -/
structure Calm (R : State → State → Prop) : Prop where
  steady : Steady R
  still : ∀ s t : State, Still s t → R s t

/-- Writes through a resolved operand keep the relation. -/
def Writable (R : State → State → Prop) (pl : Place) : Prop :=
  match pl with
  | .reg _ => True
  | .mem sp => ∀ bs, Keeps R (writeSpan sp bs)

namespace Calm

variable (h : Calm R)
include h

theorem seq {a : Act α} {f : α → Act β} (ha : Keeps R a) (hf : ∀ v, Keeps R (f v)) : Keeps R (a >>= f) := ha.bind h.steady hf

theorem value (v : α) : Keeps R (pure v : Act α) := .pure h.steady v

theorem looks (f : State → α) : Keeps R (look f) := .look h.steady f

theorem stops (e : Stop) : Keeps R (stop e : Act α) := .stop h.steady e

/-- An update that leaves the fields of `Still` as they are. -/
theorem updates {f : State → State} (hf : ∀ s, (f s).stillPart = s.stillPart) : Keeps R (update f) :=
  .update fun s => h.still _ _ (still_of_same (hf s))

theorem setsStackTop (v : State → Word) : Keeps R (update fun s => s.setStackTop (v s)) := .update fun s => h.still _ _ (still_setStackTop s _)

/-! The parts of a body that make no access by translation. -/

theorem drawsWord : Keeps R draw := .of_apply fun _ => .inl ⟨_, _, rfl, h.still _ _ (still_of_same rfl)⟩

theorem draws : Keeps R drawBit := h.seq h.drawsWord fun _ => h.value _

theorem drawsBits (n : Nat) : Keeps R (drawBits n) := h.seq h.drawsWord fun _ => h.value _

theorem drawsIf (c : Bool) : Keeps R (drawIf c) := .ite h.draws (h.value _)

theorem drawsStatus : Keeps R drawStatus :=
  h.seq h.draws fun _ => h.seq h.draws fun _ => h.seq h.draws fun _ => h.seq h.draws fun _ => h.seq h.draws fun _ => h.seq h.draws fun _ =>
    h.value _

theorem settles (b : Option Bool) : Keeps R (settle b) := by
  cases b with
  | some b => exact h.value b
  | none => exact h.draws

theorem onlyIf {c : Bool} {a : Act Unit} (ha : c = true → Keeps R a) : Keeps R (onlyIf c a) := by
  unfold Machine.onlyIf
  split
  · exact ha ‹_›
  · exact h.value _

theorem setsStatus (st : State → Status) : Keeps R (update fun s => s.setStatus (st s)) := h.updates fun _ => rfl

theorem readsReg (w : Width) (r : Reg) : Keeps R (readReg w r) := h.looks _

theorem writesReg (w : Width) (r : Reg) (v : BitVec w.bits) : Keeps R (writeReg w r v) := h.updates fun _ => rfl

/-- A handler read changes at most the history and the count of draws (R105 to R107). -/
theorem readsChunk (c : Chunk) : Keeps R (handlerRead c) := .of_apply fun s => by
  unfold handlerRead
  split
  · exact .inl ⟨_, _, rfl, h.steady.refl s⟩
  · exact .inl ⟨_, _, rfl, h.steady.refl s⟩
  · exact .inl ⟨_, _, rfl, h.steady.refl s⟩
  · exact .inl ⟨_, _, rfl, h.still _ _ ⟨rfl, rfl, rfl, List.suffix_cons _ _⟩⟩

theorem readsSpan (sp : Span) : Keeps R (readSpan sp) := by
  induction sp with
  | nil => exact h.value _
  | cons c sp ih => exact h.seq (h.readsChunk c) fun _ => h.seq ih fun _ => h.value _

theorem readsPlace (w : Width) (pl : Place) : Keeps R (readPlace w pl) := by
  cases pl with
  | reg r => exact h.looks _
  | mem sp => exact h.seq (h.readsSpan sp) fun _ => h.value _

theorem writesPlace {w : Width} {pl : Place} (hw : Writable R pl) (v : BitVec w.bits) : Keeps R (writePlace w pl v) := by
  cases pl with
  | reg r => exact h.writesReg w r v
  | mem sp => exact hw _

theorem checksSegment (r : SegReg) (off : Word) (n : Nat) : Keeps R (segCheck r off n) :=
  h.seq (h.looks _) fun _ => .ite (h.stops _) (.ite (h.value _) (.ite (h.stops _) (h.stops _)))

theorem targets (osz : Size) (v : Word) : Keeps R (nearTarget osz v) := h.seq (h.looks _) fun _ => .ite (h.stops _) (h.value _)

theorem jumps (t : Word) : Keeps R (jumpTo t) := h.updates fun _ => rfl

theorem jumpsNear (osz : Size) (v : Word) : Keeps R (jumpNear osz v) := h.seq (h.targets ..) fun _ => h.jumps _

theorem branchIf (osz : Size) (cond : State → Bool) (rel : Word) : Keeps R (branchIf osz cond rel) :=
  h.seq (h.looks _) fun _ => h.seq (h.looks _) fun _ => .ite (h.jumpsNear ..) (h.value _)

theorem loopIf (p : Pfx) (cond : State → Bool) (rel : Word) : Keeps R (loopIf p cond rel) :=
  h.seq (h.updates fun _ => rfl) fun _ => h.branchIf ..

theorem checksPrivilege : Keeps R privCheck := h.seq (h.looks _) fun _ => .ite (h.stops _) (h.value _)

theorem checksIopl : Keeps R ioplCheck := h.seq (h.looks _) fun _ => .ite (h.stops _) (h.value _)

theorem loadsSeg (r : SegReg) (v : Sel) : Keeps R (loadSeg r v) := .of_apply fun s => by
  rcases Stays.loadSeg_cases r v s with ⟨c, e⟩ | ⟨err, e⟩
  · exact .inl ⟨_, _, e, h.still _ _ (still_of_same rfl)⟩
  · exact .inr ⟨_, _, e, h.steady.refl s⟩

theorem ssShadow (r : SegReg) : Keeps R (ssShadow r) := .ite (h.updates fun _ => rfl) (h.value _)

theorem farLoadReal (osz : Size) (sel : Sel) (off : Word) : Keeps R (farLoadReal osz sel off) :=
  h.seq (h.targets ..) fun _ => h.updates fun _ => rfl

theorem convertAcc (osz : Size) : Keeps R (convertAcc osz) := by
  cases osz with
  | w16 => exact h.updates fun _ => rfl
  | w32 => exact h.updates fun _ => rfl

theorem byteSwap (osz : Size) (r : Reg) : Keeps R (byteSwap osz r) := by
  cases osz with
  | w16 => exact h.seq (h.drawsBits _) fun _ => h.writesReg ..
  | w32 => exact h.updates fun _ => rfl

theorem readCr (cr : State → Word) (r : Reg) : Keeps R (readCr cr r) := h.seq h.checksPrivilege fun _ => h.updates fun _ => rfl

theorem setInterrupt : Keeps R setInterrupt := by
  refine h.seq h.checksIopl fun _ => h.seq (.update fun s => ?_) fun _ => h.updates fun _ => rfl
  split
  · exact h.steady.refl s
  · exact h.still _ _ (still_of_same rfl)

/-- A word stored in a register. -/
theorem storeWord (p : Pfx) (r : Reg) (v : BitVec 16) : Keeps R (storeWord p (.reg r) v) := by
  unfold Machine.storeWord
  cases p.osz with
  | w16 => exact h.writesReg ..
  | w32 => exact h.seq (h.drawsBits _) fun _ => h.writesReg ..

end Calm

/-! Values found without an access. -/

/-- The action goes on with a value and changes nothing. -/
def Found (a : Act α) : Prop := ∀ s, ∃ v, a s = .ok v s

theorem look_found (f : State → α) : Found (look f) := fun _ => ⟨_, rfl⟩

theorem Calm.found (h : Calm R) {a : Act α} (ha : Found a) : Keeps R a := .of_apply fun s => by
  obtain ⟨v, e⟩ := ha s
  exact .inl ⟨v, s, e, h.steady.refl s⟩

/-- The source is a register or an immediate. -/
def Src.direct : Src → Bool
  | .reg _ | .imm _ => true
  | .rm _ => false

theorem Src.get_direct {w : Width} {p : Pfx} {x : Src} (hx : x.direct = true) : Found (x.get w p) := by
  cases x with
  | reg r => exact look_found _
  | imm v => exact fun _ => ⟨_, rfl⟩
  | rm x => cases hx

/-! Bodies that store through a resolved operand alone. -/

/-- A body that from each state runs as one that keeps the relation. -/
theorem Keeps.of_each {a : Act α} (h : ∀ s, ∃ f : Act α, a s = f s ∧ Keeps R f) : Keeps R a := by
  refine ⟨fun s v t e => ?_, fun s err t e => ?_⟩
  · obtain ⟨f, same, k⟩ := h s
    exact k.1 _ _ _ (same ▸ e)
  · obtain ⟨f, same, k⟩ := h s
    exact k.2 _ _ _ (same ▸ e)

/-- From every state the body resolves an operand first, for writing when `b` says so, and then keeps the relation as long as writes through the
resolved operand do. -/
def ActsOn (R : State → State → Prop) (w : Width) (b : Bool) (p : Pfx) (rm : RM) (a : Act Unit) : Prop :=
  ∀ s, ∃ f : Place → Act Unit, a s = (resolveRM w b p rm >>= f) s ∧ ∀ pl, (b = true → Writable R pl) → Keeps R (f pl)

/-- With a register operand such a body stores nothing. -/
theorem ActsOn.register {w : Width} {b : Bool} {p : Pfx} {r : Reg} {a : Act Unit} (ha : ActsOn R w b p (.reg r) a) : Keeps R a := by
  refine .of_each fun s => ?_
  obtain ⟨f, e, k⟩ := ha s
  exact ⟨f (.reg r), e, k _ fun _ => trivial⟩

namespace Calm

variable (h : Calm R)
include h

theorem alu {op : AluOp} {w : Width} {p : Pfx} {dst : RM} {src : Src} (hs : Keeps R (src.get w p)) :
    ActsOn R w op.writes p dst (alu op w p dst (src.get w p)) := fun _ => ⟨_, rfl, fun _ hw =>
  h.seq (h.readsPlace ..) fun _ => h.seq hs fun _ => h.seq (h.looks _) fun _ => h.seq (h.onlyIf fun writes => h.writesPlace (hw writes) _)
    fun _ => h.seq (h.drawsIf _) fun _ => h.setsStatus _⟩

theorem modify (w : Width) (p : Pfx) (dst : RM) (f : BitVec w.bits → BitVec w.bits) (st : Status → BitVec w.bits → Status) :
    ActsOn R w true p dst (modify w p dst f st) := fun _ => ⟨_, rfl, fun _ hw =>
  h.seq (h.readsPlace ..) fun _ => h.seq (h.writesPlace (hw rfl) _) fun _ => h.setsStatus _⟩

theorem unary {op : UnaryOp} {w : Width} {p : Pfx} {rm : RM} : ActsOn R w true p rm (unaryBody op w p rm) := by
  cases op with
  | inc => exact h.modify w p rm (fun a => addResult a 1#w.bits false) fun old a => { flagsAdd a 1#w.bits false with cf := old.cf }
  | dec => exact h.modify w p rm (fun a => subResult a 1#w.bits false) fun old a => { flagsSub a 1#w.bits false with cf := old.cf }
  | not => exact h.modify w p rm (fun a => ~~~a) fun old _ => old
  | neg => exact h.modify w p rm (fun a => subResult 0#w.bits a false) fun _ a => flagsSub 0#w.bits a false

theorem shiftsWrite {w : Width} {rotate : Bool} {pl : Place} (hw : Writable R pl) (out : ShiftOut w.bits) (c : Nat) :
    Keeps R (shiftWrite w rotate pl out c) :=
  h.seq (h.settles _) fun _ => h.seq (h.settles _) fun _ => h.seq (h.drawsIf _) fun _ => h.seq (h.writesPlace hw _) fun _ => h.setsStatus _

theorem shift {op : ShiftOp} {w : Width} {p : Pfx} {rm : RM} {count : State → Byte} : ActsOn R w true p rm (shift op w p rm (look count)) :=
  fun _ => ⟨_, bind_ok (look_apply _ _), fun _ hw => h.seq (h.readsPlace ..) fun _ => h.seq (h.looks _) fun _ =>
    .ite (h.value _) (h.shiftsWrite (hw rfl) ..)⟩

theorem doubleShift {left : Bool} {w : Width} {p : Pfx} {rm : RM} {r : Reg} {count : State → Byte} :
    ActsOn R w true p rm (doubleShift left w p rm r (look count)) := by
  refine fun _ => ⟨_, bind_ok (look_apply _ _), fun _ hw => h.seq (h.readsPlace ..) fun _ => h.seq (h.readsReg ..) fun _ =>
    .ite (h.value _) (.ite ?_ (h.shiftsWrite (hw rfl) ..))⟩
  exact h.seq (h.drawsBits _) fun _ => h.seq h.drawsStatus fun _ => h.seq (h.writesPlace (hw rfl) _) fun _ => h.setsStatus _

/-- A bit test of a target found without a store. -/
theorem testsBit {op : BitOp} {w : Width} {target : Act (Place × Nat)} (ht : Keeps R target)
    (hw : ∀ s x t, target s = .ok x t → op.writes = true → Writable R x.1) : Keeps R (bitTest op w target) :=
  .bind_of h.steady ht hw fun _ hw => h.seq (h.readsPlace ..) fun _ => h.seq (h.onlyIf fun writes => h.writesPlace (hw writes) _) fun _ =>
    h.seq h.drawsStatus fun _ => h.setsStatus _

/-- A bit test of a resolved operand. -/
theorem testsBitOf {op : BitOp} {w : Width} {pl : Place} (k : Nat) (hw : op.writes = true → Writable R pl) :
    Keeps R (bitTest op w (pure (pl, k))) :=
  h.testsBit (h.value _) fun _ _ _ e => by cases e; exact hw

theorem bitByImm {op : BitOp} {w : Width} {p : Pfx} {rm : RM} {imm : Byte} :
    ActsOn R w op.writes p rm (bitTest op w (bitTarget op w p rm (.inr imm))) := fun s => by
  refine ⟨fun pl => bitTest op w (pure (pl, imm.toNat % w.bits)), ?_, fun _ hw => h.testsBitOf _ hw⟩
  unfold bitTest bitTarget Machine.bitByImm
  simp only [bind_apply]
  cases resolveRM w op.writes p rm s with
  | ok => rfl
  | error => rfl

theorem bitByReg {op : BitOp} {w : Width} {p : Pfx} {q r : Reg} :
    ActsOn R w op.writes p (.reg q) (bitTest op w (bitTarget op w p (.reg q) (.inl r))) := fun s =>
  ⟨fun pl => bitTest op w (pure (pl, (s.gpr w r).toNat % w.bits)), rfl, fun _ hw => h.testsBitOf _ hw⟩

theorem compareExchange {w : Width} {p : Pfx} {rm : RM} {r : Reg} : ActsOn R w true p rm (compareExchange w p rm r) := fun _ => ⟨_, rfl, fun _ hw =>
  h.seq (h.readsPlace ..) fun _ => h.seq (h.readsReg ..) fun _ => h.seq (h.readsReg ..) fun _ => h.seq (h.setsStatus _) fun _ =>
    .ite (h.writesPlace (hw rfl) _) (h.seq (h.writesPlace (hw rfl) _) fun _ => h.writesReg ..)⟩

theorem exchangeAdd {w : Width} {p : Pfx} {rm : RM} {r : Reg} : ActsOn R w true p rm (exchangeAdd w p rm r) := fun _ => ⟨_, rfl, fun _ hw =>
  h.seq (h.readsPlace ..) fun _ => h.seq (h.readsReg ..) fun _ => h.seq (h.writesReg ..) fun _ => h.seq (h.writesPlace (hw rfl) _) fun _ =>
    h.setsStatus _⟩

theorem exchange {w : Width} {p : Pfx} {rm : RM} {r : Reg} : ActsOn R w true p rm (exchange w p rm r) := fun _ => ⟨_, rfl, fun _ hw =>
  h.seq (h.readsPlace ..) fun _ => h.seq (h.readsReg ..) fun _ => h.seq (h.writesPlace (hw rfl) _) fun _ => h.writesReg ..⟩

/-- A write of a value found without an access. -/
theorem movesFound {w : Width} {p : Pfx} {rm : RM} {a : Act α} (ha : Found a) (f : α → BitVec w.bits) :
    ActsOn R w true p rm (movRead a fun x => writeRM w p rm (f x)) := fun s => by
  obtain ⟨v, e⟩ := ha s
  exact ⟨_, bind_ok e, fun _ hw => h.writesPlace (hw rfl) _⟩

end Calm

end Sys2Proof.Machine
end

section
/-! PROOFS. With paging off an instruction that stores nothing leaves memory alone (spec/20_memory.md R101, R121). -/

namespace Sys2Proof.Machine

variable {R : State → State → Prop} {α β : Type}

/-! Bodies that store nothing. -/

/-- The relation holds of translations too, which store nothing with paging off. -/
structure Resolves (R : State → State → Prop) : Prop extends Calm R where
  translates : ∀ (la : Word) (write : Bool), Keeps R (translate la write)

namespace Resolves

variable (h : Resolves R)
include h

theorem resolvesLin (la : Word) (n : Nat) (write : Bool) : Keeps R (resolveLin la n write) :=
  .ite (h.seq (h.translates ..) fun _ => h.value _) (h.seq (h.translates ..) fun _ => h.seq (h.translates ..) fun _ => h.value _)

theorem resolvesMem (r : SegReg) (off : Word) (n : Nat) (write : Bool) : Keeps R (resolveMem r off n write) :=
  h.seq (h.checksSegment ..) fun _ => h.seq (h.looks _) fun _ => h.resolvesLin ..

end Resolves

/-- The relation holds of the answers of the protected-mode parameters too. -/
structure Offline (R : State → State → Prop) : Prop extends Resolves R where
  pmFar : ∀ (kind : FarKind) (osz : Size) (sel : Sel) (off : Word) (s t : State), pmFarTransfer kind osz sel off s = .ok t → R s t
  pmIret : ∀ (osz : Size) (s t : State), pmIret osz s = .ok t → R s t

namespace Offline

variable (h : Offline R)
include h

theorem resolvesRM (w : Width) (write : Bool) (p : Pfx) (rm : RM) : Keeps R (resolveRM w write p rm) := by
  cases rm with
  | reg r => exact h.value _
  | mem m => exact h.seq (h.looks _) fun _ => h.seq (h.resolvesMem ..) fun _ => h.value _

theorem readsRM (w : Width) (p : Pfx) (rm : RM) : Keeps R (readRM w p rm) := h.seq (h.resolvesRM ..) fun _ => h.readsPlace ..

theorem reads (n : Nat) (r : SegReg) (off : Word) : Keeps R (memReadBits n r off) :=
  h.seq (h.resolvesMem ..) fun _ => h.seq (h.readsSpan _) fun _ => h.value _

theorem readsTop (n : Nat) : Keeps R (readTop n) := h.seq (h.looks _) fun _ => h.reads ..

theorem pops (n : Nat) : Keeps R (pop n) := h.seq (h.readsTop n) fun _ => h.seq (h.setsStackTop _) fun _ => h.value _

theorem getsSrc (w : Width) (p : Pfx) (x : Src) : Keeps R (x.get w p) := by
  cases x with
  | reg r => exact h.looks _
  | rm x => exact h.readsRM ..
  | imm v => exact h.value _

theorem readsFarPointer (p : Pfx) (m : Mem) : Keeps R (readFarPointer p m) :=
  h.seq (h.looks _) fun _ => h.seq (h.reads ..) fun _ => h.seq (h.reads ..) fun _ => h.value _

/-- A body that resolves an operand and does not write it. -/
theorem unwritten {w : Width} {p : Pfx} {rm : RM} {a : Act Unit} (ha : ActsOn R w false p rm a) : Keeps R a := by
  refine .of_each fun s => ?_
  obtain ⟨f, e, k⟩ := ha s
  exact ⟨_, e, h.seq (h.resolvesRM ..) fun pl => k pl nofun⟩

theorem test (w : Width) (p : Pfx) (dst : RM) (src : Src) : Keeps R (test w p dst (src.get w p)) :=
  h.seq (h.readsRM ..) fun _ => h.seq (h.getsSrc ..) fun _ => h.seq h.draws fun _ => h.setsStatus _

theorem setsMulFlags (b : Bool) : Keeps R (mulFlags b) := h.seq h.drawsStatus fun _ => h.setsStatus _

theorem multiply (signed : Bool) (w : Width) (p : Pfx) (rm : RM) : Keeps R (if signed then imul w p rm else mul w p rm) :=
  .ite (h.seq (h.readsRM ..) fun _ => h.seq (h.readsReg ..) fun _ => h.seq (h.updates fun _ => rfl) fun _ => h.setsMulFlags _)
    (h.seq (h.readsRM ..) fun _ => h.seq (h.readsReg ..) fun _ => h.seq (h.updates fun _ => rfl) fun _ => h.setsMulFlags _)

theorem multiplyTo (w : Width) (p : Pfx) (r : Reg) (x y : Src) : Keeps R (imulTo w r (x.get w p) (y.get w p)) :=
  h.seq (h.getsSrc ..) fun _ => h.seq (h.getsSrc ..) fun _ => h.seq (h.writesReg ..) fun _ => h.setsMulFlags _

theorem divideBy (w : Width) (p : Pfx) (rm : RM) (f : BitVec (w.bits + w.bits) → BitVec w.bits → Option (BitVec w.bits × BitVec w.bits)) :
    Keeps R (divideBy w p rm f) := by
  refine h.seq (h.readsRM ..) fun s => h.seq (h.looks _) fun n => ?_
  split
  · exact h.stops _
  · exact h.seq (h.updates fun _ => rfl) fun _ => h.seq h.drawsStatus fun _ => h.setsStatus _

/-- BT writes no operand. -/
theorem bt (w : Width) (p : Pfx) (rm : RM) (k : Reg ⊕ Byte) : Keeps R (bitTest .bt w (bitTarget .bt w p rm k)) := by
  refine h.testsBit ?_ fun _ _ _ _ => nofun
  cases k with
  | inl r =>
    refine h.seq (h.readsReg ..) fun _ => ?_
    cases rm with
    | reg q => exact h.value _
    | mem m => exact h.seq (h.looks _) fun _ => h.seq (h.resolvesMem ..) fun _ => h.value _
  | inr imm => exact h.seq (h.resolvesRM ..) fun _ => h.value _

theorem bitScan (w : Width) (p : Pfx) (rm : RM) (r : Reg) (find : BitVec w.bits → Option Nat) : Keeps R (bitScan w p rm r find) := by
  refine h.seq (h.readsRM ..) fun _ => h.seq h.drawsStatus fun _ => ?_
  split
  · exact h.seq (h.drawsBits _) fun _ => h.seq (h.writesReg ..) fun _ => h.setsStatus _
  · exact h.seq (h.writesReg ..) fun _ => h.setsStatus _

/-- The string operations that read alone. -/
theorem element {op : StringOp} (ho : op = .cmp ∨ op = .lod ∨ op = .sca) (w : Width) (p : Pfx) : Keeps R (op.element w p) := by
  have source : Keeps R (readSource w p) := h.seq (h.looks _) fun _ => h.reads ..
  have dest : Keeps R (readDest w p) := h.seq (h.looks _) fun _ => h.reads ..
  have advances (r : Reg) : Keeps R (update (advance w p r)) := h.updates fun _ => rfl
  rcases ho with rfl | rfl | rfl
  · exact h.seq source fun _ => h.seq dest fun _ => h.seq (h.setsStatus _) fun _ => h.seq (advances _) fun _ => advances _
  · exact h.seq source fun _ => h.seq (h.writesReg ..) fun _ => advances _
  · exact h.seq (h.readsReg ..) fun _ => h.seq dest fun _ => h.seq (h.setsStatus _) fun _ => advances _

theorem repeated {p : Pfx} {stopNow : State → Bool} {a : Act Unit} (ha : Keeps R a) : Keeps R (repeated p stopNow a) := by
  have goesOn (cnt : Word) : Keeps R (update fun s => if cnt = 1#32 ∨ stopNow s then s else { s with eip := s.eipStart }) := h.updates fun s => by
    split
    · rfl
    · rfl
  have counted : Keeps R (do
      let cnt ← look (addrReg p.asz .ecx)
      if cnt = 0#32 then pure ()
      else do
        a
        update (setAddrReg p.asz .ecx (cnt - 1#32))
        update fun s => if cnt = 1#32 ∨ stopNow s then s else { s with eip := s.eipStart }) :=
    h.seq (h.looks _) fun _ => .ite (h.value _) (h.seq ha fun _ => h.seq (h.updates fun _ => rfl) fun _ => goesOn _)
  unfold Machine.repeated
  cases p.rep with
  | none => exact ha
  | repe => exact counted
  | repne => exact counted

theorem moves {a : Act α} {f : α → Act Unit} (ha : Keeps R a) (hf : ∀ v, Keeps R (f v)) : Keeps R (movRead a f) := h.seq ha hf

/-- MOV to a register. -/
theorem movesTo (w : Width) (p : Pfx) (r : Reg) (x : Src) : Keeps R (movRead (x.get w p) (writeRM w p (.reg r))) :=
  h.moves (h.getsSrc ..) fun _ => h.writesReg w r _

theorem popAll (w : Width) : Keeps R (popAll w) := by
  have one (r : Reg) : Keeps R (movRead (pop w.bits) (writeReg w r)) := h.moves (h.pops _) fun v => h.writesReg w r v
  exact h.seq (one _) fun _ => h.seq (one _) fun _ => h.seq (one _) fun _ => h.seq (h.moves (h.pops _) fun _ => h.value _) fun _ =>
    h.seq (one _) fun _ => h.seq (one _) fun _ => h.seq (one _) fun _ => one _

theorem leaveFrame (w : Width) : Keeps R (leaveFrame w) := h.seq (h.setsStackTop _) fun _ => h.seq (h.pops _) fun _ => h.writesReg ..

theorem returnNear (p : Pfx) (imm : BitVec 16) : Keeps R (returnNear p imm) :=
  h.seq (h.pops _) fun _ => h.seq (h.targets ..) fun _ => h.seq (h.setsStackTop _) fun _ => h.jumps _

theorem moveToSeg (p : Pfx) (rm : RM) (r : SegReg) : Keeps R (moveToSeg p rm r) :=
  h.seq (h.readsRM ..) fun _ => h.seq (h.loadsSeg ..) fun _ => h.ssShadow r

theorem popSegReg (osz : Size) (r : SegReg) : Keeps R (popSegReg osz r) :=
  h.seq (h.readsTop _) fun _ => h.seq (h.looks _) fun _ => h.seq (h.loadsSeg ..) fun _ => h.seq (h.updates fun _ => rfl) fun _ => h.ssShadow r

theorem loadFarPointer (p : Pfx) (m : Mem) (q : Reg) (r : SegReg) : Keeps R (loadFarPointer p m q r) :=
  h.seq (h.readsFarPointer ..) fun _ => h.seq (h.loadsSeg ..) fun _ => h.writesReg ..

theorem farTransferPm (kind : FarKind) (osz : Size) (sel : Sel) (off : Word) : Keeps R (farTransferPm kind osz sel off) := .of_apply fun s => by
  unfold Machine.farTransferPm
  split
  · exact .inl ⟨_, _, rfl, h.pmFar _ _ _ _ s _ ‹_›⟩
  · exact .inr ⟨_, _, rfl, h.steady.refl s⟩
  · exact .inr ⟨_, _, rfl, h.steady.refl s⟩

theorem iretPm (osz : Size) : Keeps R (iretPm osz) := .of_apply fun s => by
  unfold Machine.iretPm
  split
  · exact .inl ⟨_, _, rfl, h.pmIret _ s _ ‹_›⟩
  · exact .inr ⟨_, _, rfl, h.steady.refl s⟩
  · exact .inr ⟨_, _, rfl, h.steady.refl s⟩

theorem farJump (p : Pfx) {target : Act (Word × Sel)} (ht : Keeps R target) : Keeps R (farJump p target) :=
  h.seq ht fun _ => h.seq (h.looks _) fun _ => .ite (h.farTransferPm ..) (h.farLoadReal ..)

theorem returnFar (p : Pfx) (kind : FarKind) (imm : BitVec 16) : Keeps R (returnFar p kind imm) :=
  h.seq (h.looks _) fun _ => .ite
    (h.seq (h.readsTop _) fun _ => h.seq (h.looks _) fun _ => h.seq (h.reads ..) fun _ => h.farTransferPm ..)
    (h.seq (h.pops _) fun _ => h.seq (h.pops _) fun _ => h.seq (h.farLoadReal ..) fun _ => h.setsStackTop _)

theorem interruptReturn (p : Pfx) : Keeps R (interruptReturn p) :=
  h.seq (h.looks _) fun _ => .ite (h.iretPm _) <| h.seq (h.pops _) fun _ => h.seq (h.pops _) fun _ => h.seq (h.pops _) fun _ =>
    h.seq (h.farLoadReal ..) fun _ => h.updates fun _ => rfl

theorem popFlags (osz : Size) : Keeps R (popFlags osz) := by
  refine h.seq (h.pops _) fun _ => h.seq (h.looks _) fun _ => h.seq (h.updates fun _ => rfl) fun _ => ?_
  cases osz with
  | w16 => exact h.value _
  | w32 => exact h.updates fun _ => rfl

/-- LMSW leaves PG as it is (spec/49_system.md R675). -/
theorem loadStatusWord (p : Pfx) (rm : RM) : Keeps R (loadStatusWord p rm) :=
  h.seq h.checksPrivilege fun _ => h.seq (h.readsRM ..) fun v => h.updates fun s => by
    simp [State.stillPart, State.pg, lmswValue]

/-- CLTS leaves PG as it is (R678). -/
theorem clearTaskSwitched : Keeps R clearTaskSwitched :=
  h.seq h.checksPrivilege fun _ => h.updates fun s => by simp [State.stillPart, State.pg]

end Offline

/-! Every instruction that stores nothing. -/

theorem reg_of_unstored {n : Nat} {rm : RM} (h : rmStore n rm = none) : ∃ r, rm = .reg r := by
  cases rm with
  | reg r => exact ⟨r, rfl⟩
  | mem m => cases h

theorem reg_of_not_mem {rm : RM} (h : isMem rm = false) : ∃ r, rm = .reg r := by
  cases rm with
  | reg r => exact ⟨r, rfl⟩
  | mem m => cases h

/-- A form that stores nothing keeps the relation. MOV CR0, which may turn paging on, stands apart. -/
theorem Offline.bodyKeeps (h : Offline R) (i : Instr) (s : State) (hm : modrmStore s.pfx i = none) (he : storesElsewhere i = false)
    (hcr0 : writesPg i = false) : BodyKeeps R i s := by
  cases i with
  | addR8Rm8 | addRRm | addAlIb | addEaxIz | orR8Rm8 | orRRm | orAlIb | orEaxIz | adcR8Rm8 | adcRRm | adcAlIb | adcEaxIz | sbbR8Rm8 | sbbRRm
  | sbbAlIb | sbbEaxIz | andR8Rm8 | andRRm | andAlIb | andEaxIz | subR8Rm8 | subRRm | subAlIb | subEaxIz | xorR8Rm8 | xorRRm | xorAlIb
  | xorEaxIz => exact .of (exec_alu rfl) (h.alu (h.getsSrc ..)).register
  | addRm8R8 | addRmR | addRm8Ib | addRmIz | addRmIbs | orRm8R8 | orRmR | orRm8Ib | orRmIz | orRmIbs | adcRm8R8 | adcRmR | adcRm8Ib
  | adcRmIz | adcRmIbs | sbbRm8R8 | sbbRmR | sbbRm8Ib | sbbRmIz | sbbRmIbs | andRm8R8 | andRmR | andRm8Ib | andRmIz | andRmIbs
  | subRm8R8 | subRmR | subRm8Ib | subRmIz | subRmIbs | xorRm8R8 | xorRmR | xorRm8Ib | xorRmIz | xorRmIbs =>
    obtain ⟨r, rfl⟩ := reg_of_unstored hm
    exact .of (exec_alu rfl) (h.alu (h.getsSrc ..)).register
  | cmpRm8R8 | cmpRmR | cmpR8Rm8 | cmpRRm | cmpAlIb | cmpEaxIz | cmpRm8Ib | cmpRmIz | cmpRmIbs =>
    exact .of (exec_alu rfl) (h.unwritten (h.alu (h.getsSrc ..)))
  | testRm8R8 | testRmR | testAlIb | testEaxIz | testRm8Ib | testRmIz => exact .of (exec_test rfl) (h.test ..)
  | incR | decR => exact .of (exec_unary rfl) h.unary.register
  | incRm8 | incRm | decRm8 | decRm | notRm8 | notRm | negRm8 | negRm =>
    obtain ⟨r, rfl⟩ := reg_of_unstored hm
    exact .of (exec_unary rfl) h.unary.register
  | mulRm8 | mulRm | imulRm8 | imulRm => exact .of (exec_mul rfl) (h.multiply ..)
  | imulRRm | imulRRmIz | imulRRmIbs => exact .of (exec_imul rfl) (h.multiplyTo ..)
  | divRm8 | divRm | idivRm8 | idivRm => exact .of (exec_div rfl) (.ite (h.divideBy ..) (h.divideBy ..))
  | rolRm8Ib | rolRm8By1 | rolRm8Cl | rolRmIb | rolRmBy1 | rolRmCl | rorRm8Ib | rorRm8By1 | rorRm8Cl | rorRmIb | rorRmBy1 | rorRmCl
  | rclRm8Ib | rclRm8By1 | rclRm8Cl | rclRmIb | rclRmBy1 | rclRmCl | rcrRm8Ib | rcrRm8By1 | rcrRm8Cl | rcrRmIb | rcrRmBy1 | rcrRmCl
  | shlRm8Ib | shlRm8By1 | shlRm8Cl | shlRmIb | shlRmBy1 | shlRmCl | shrRm8Ib | shrRm8By1 | shrRm8Cl | shrRmIb | shrRmBy1 | shrRmCl
  | sarRm8Ib | sarRm8By1 | sarRm8Cl | sarRmIb | sarRmBy1 | sarRmCl =>
    obtain ⟨r, rfl⟩ := reg_of_unstored hm
    exact .of (exec_shift rfl) h.shift.register
  | shldRmRIb | shldRmRCl | shrdRmRIb | shrdRmRCl =>
    obtain ⟨r, rfl⟩ := reg_of_unstored hm
    exact .of (exec_double rfl) h.doubleShift.register
  | btRmR | btRmIb => exact .of (exec_bit rfl) (h.bt ..)
  | btsRmR | btrRmR | btcRmR =>
    obtain ⟨r, rfl⟩ := reg_of_not_mem he
    exact .of (exec_bit rfl) h.bitByReg.register
  | btsRmIb | btrRmIb | btcRmIb =>
    obtain ⟨r, rfl⟩ := reg_of_unstored hm
    exact .of (exec_bit rfl) h.bitByImm.register
  | cmpsb | cmpsw => exact .of (exec_string rfl) (h.repeated (h.element (.inl rfl) ..))
  | lodsb | lodsw => exact .of (exec_string rfl) (h.repeated (h.element (.inr (.inl rfl)) ..))
  | scasb | scasw => exact .of (exec_string rfl) (h.repeated (h.element (.inr (.inr rfl)) ..))
  | movR8Rm8 | movRRm | movR8Ib | movRIz => exact .of (exec_mov rfl) (h.movesTo ..)
  | movRm8R8 | movRmR | movRm8Ib | movRmIz =>
    obtain ⟨r, rfl⟩ := reg_of_unstored hm
    exact .of (exec_mov rfl) (h.movesTo ..)
  | xchgEaxR => exact .of (exec_xchg rfl) h.exchange.register
  | xchgRm8R8 | xchgRmR =>
    obtain ⟨r, rfl⟩ := reg_of_unstored hm
    exact .of (exec_xchg rfl) h.exchange.register
  | movzxRRm8 | movzxRRm16 | movsxRRm8 | movsxRRm16 => exact .of (exec_extend rfl) (h.seq (h.readsRM ..) fun _ => h.writesReg ..)
  | cmpxchgRm8R8 =>
    obtain ⟨r, rfl⟩ := reg_of_unstored hm
    exact .of (exec_cmpxchgRm8R8_eq s _ _) h.compareExchange.register
  | cmpxchgRmR =>
    obtain ⟨r, rfl⟩ := reg_of_unstored hm
    exact .of (exec_cmpxchgRmR_eq s _ _) h.compareExchange.register
  | xaddRm8R8 =>
    obtain ⟨r, rfl⟩ := reg_of_unstored hm
    exact .of (exec_xaddRm8R8_eq s _ _) h.exchangeAdd.register
  | xaddRmR =>
    obtain ⟨r, rfl⟩ := reg_of_unstored hm
    exact .of (exec_xaddRmR_eq s _ _) h.exchangeAdd.register
  | setccRm8 =>
    obtain ⟨r, rfl⟩ := reg_of_unstored hm
    exact .of (exec_setccRm8_eq s _ _) (h.seq (h.looks _) fun _ => h.writesReg .b8 r _)
  | movRm16Sreg =>
    obtain ⟨r, rfl⟩ := reg_of_unstored hm
    exact .of (exec_movRm16Sreg_eq s _ _) (h.moves (h.looks _) fun _ => h.storeWord ..)
  | smswRm16 =>
    obtain ⟨r, rfl⟩ := reg_of_unstored hm
    exact .of (exec_smswRm16_eq s _) (h.moves (h.looks _) fun _ => h.storeWord ..)
  | popRm =>
    obtain ⟨r, rfl⟩ := reg_of_not_mem he
    exact .of (exec_popRm_eq s _) (h.moves (h.pops _) fun _ => h.writesReg _ r _)
  | bsfRRm => exact .of (exec_bsfRRm_eq s _ _) (h.bitScan ..)
  | bsrRRm => exact .of (exec_bsrRRm_eq s _ _) (h.bitScan ..)
  | bswapR32 => exact .of (exec_bswapR32_eq s _) (h.byteSwap ..)
  | movAlMoffs => exact .of (exec_movAlMoffs_eq s _) (h.seq (h.reads ..) fun _ => h.writesReg ..)
  | movEaxMoffs => exact .of (exec_movEaxMoffs_eq s _) (h.seq (h.reads ..) fun _ => h.writesReg ..)
  | nop => exact .of (exec_nop_eq s) (h.value _)
  | leaRM => exact .of (exec_leaRM_eq s _ _) (h.seq (h.looks _) fun _ => h.writesReg ..)
  | cbw => exact .of (exec_cbw_eq s) (h.convertAcc _)
  | cwd => exact .of (exec_cwd_eq s) (h.seq (h.readsReg ..) fun _ => h.writesReg ..)
  | popR => exact .of (exec_popR_eq s _) (h.moves (h.pops _) fun _ => h.writesReg ..)
  | popa => exact .of (exec_popa_eq s) (h.popAll _)
  | xlat => exact .of (exec_xlat_eq s) (h.seq (h.looks _) fun _ => h.seq (h.reads ..) fun _ => h.writesReg ..)
  | leave => exact .of (exec_leave_eq s) (h.leaveFrame _)
  | jccRel8 => exact .of (exec_jccRel8_eq s _ _) (h.branchIf ..)
  | jccRelz => exact .of (exec_jccRelz_eq s _ _) (h.branchIf ..)
  | jmpRel8 => exact .of (exec_jmpRel8_eq s _) (h.branchIf ..)
  | jmpRelz => exact .of (exec_jmpRelz_eq s _) (h.branchIf ..)
  | jcxzRel8 => exact .of (exec_jcxzRel8_eq s _) (h.branchIf ..)
  | loopRel8 => exact .of (exec_loopRel8_eq s _) (h.loopIf ..)
  | loopeRel8 => exact .of (exec_loopeRel8_eq s _) (h.loopIf ..)
  | loopneRel8 => exact .of (exec_loopneRel8_eq s _) (h.loopIf ..)
  | jmpRm => exact .of (exec_jmpRm_eq s _) (h.seq (h.readsRM ..) fun _ => h.jumpsNear ..)
  | ret => exact .of (exec_ret_eq s) (h.returnNear ..)
  | retIw => exact .of (exec_retIw_eq s _) (h.returnNear ..)
  | intIb => exact .of (exec_intIb_eq s _) (h.stops _)
  | int3 => exact .of (exec_int3_eq s) (h.stops _)
  | into => exact .of (exec_into_eq s) (h.seq (h.looks _) fun _ => .ite (h.stops _) (h.value _))
  | sahf => exact .of (exec_sahf_eq s) (h.updates fun _ => rfl)
  | lahf => exact .of (exec_lahf_eq s) (h.updates fun _ => rfl)
  | clc => exact .of (exec_clc_eq s) (h.updates fun _ => rfl)
  | stc => exact .of (exec_stc_eq s) (h.updates fun _ => rfl)
  | cmc => exact .of (exec_cmc_eq s) (h.updates fun _ => rfl)
  | cld => exact .of (exec_cld_eq s) (h.updates fun _ => rfl)
  | std => exact .of (exec_std_eq s) (h.updates fun _ => rfl)
  | movR32Cr0 => exact .of (exec_movR32Cr0_eq s _) (h.readCr ..)
  | movR32Cr2 => exact .of (exec_movR32Cr2_eq s _) (h.readCr ..)
  | movR32Cr3 => exact .of (exec_movR32Cr3_eq s _) (h.readCr ..)
  | invd => exact .of (exec_invd_eq s) h.checksPrivilege
  | wbinvd => exact .of (exec_wbinvd_eq s) h.checksPrivilege
  | ud2 => exact .of (exec_ud2_eq s) (h.stops _)
  | movSregRm16 => exact .of (exec_movSregRm16_eq s _ _) (h.moveToSeg ..)
  | popEs | popSs | popDs | popFs | popGs => exact .of (exec_popSeg rfl) (h.popSegReg ..)
  | ldsRMemFar | lesRMemFar | lssRMemFar | lfsRMemFar | lgsRMemFar => exact .of (exec_farLoad rfl) (h.loadFarPointer ..)
  | jmpPtr => exact .of (exec_jmpPtr_eq s _ _) (h.farJump _ (h.value _))
  | jmpMemFar => exact .of (exec_jmpMemFar_eq s _) (h.farJump _ (h.readsFarPointer ..))
  | retf => exact .of (exec_retf_eq s) (h.returnFar ..)
  | retfIw => exact .of (exec_retfIw_eq s _) (h.returnFar ..)
  | iret => exact .of (exec_iret_eq s) (h.interruptReturn _)
  | popf => exact .of (exec_popf_eq s) (h.popFlags _)
  | cli => exact .of (exec_cli_eq s) (h.seq h.checksIopl fun _ => h.updates fun _ => rfl)
  | sti => exact .of (exec_sti_eq s) h.setInterrupt
  | movCr2R32 => exact .of (exec_movCr2R32_eq s _) (h.seq h.checksPrivilege fun _ => h.updates fun _ => rfl)
  | movCr3R32 => exact .of (exec_movCr3R32_eq s _) (h.seq h.checksPrivilege fun _ => h.updates fun _ => rfl)
  | lmswRm16 => exact .of (exec_lmswRm16_eq s _) (h.loadStatusWord ..)
  | invlpgM => exact .of (exec_invlpgM_eq s _) (h.seq h.checksPrivilege fun _ => h.seq (h.looks _) fun _ => h.updates fun _ => rfl)
  | clts => exact .of (exec_clts_eq s) h.clearTaskSwitched
  | hlt => exact .of (exec_hlt_eq s) (h.seq h.checksPrivilege fun _ => h.updates fun _ => rfl)
  | cmpxchg8bM64 => cases hm
  | movCr0R32 => cases hcr0
  | movsb | movsw | stosb | stosw | movMoffsAl | movMoffsEax | pushR | pushIz | pushIbs | pushRm | pusha | callRelz | callRm | callPtr
  | callMemFar | pushf | pushEs | pushCs | pushSs | pushDs | pushFs | pushGs => cases he

end Sys2Proof.Machine
end

section
/-! PROOFS. The frames of memory (spec/20_memory.md R101, R121, R141, R146): the statements on instructions that store nothing,
and on those that store through their ModRM operand. -/

namespace Sys2Proof.Machine

variable {R : State → State → Prop} {α : Type} {i : Instr} {s s1 t : State}

/-! The state an instruction ends in. -/

/-- Whether the action goes on or stops, the state it leaves has the property. -/
def Ends (P : State → Prop) (r : EStateM.Result Stop State α) : Prop :=
  match r with
  | .ok _ t | .error _ t => P t

theorem Keeps.ends {a : Act α} (h : Keeps R a) (s : State) : Ends (R s) (a s) := by
  unfold Ends
  split
  · exact h.1 _ _ _ ‹_›
  · exact h.2 _ _ _ ‹_›

theorem Ends.mono {P Q : State → Prop} {r : EStateM.Result Stop State α} (h : Ends P r) (hpq : ∀ t, P t → Q t) : Ends Q r := by
  cases r with
  | ok v t => exact hpq t h
  | error e t => exact hpq t h

/-- The memory an instruction leaves when it delivers no event is the one its body ended in, for a fault or a refusal keeps memory (R700). -/
theorem exec_ends {P : State → Prop} {gen : CpuGen} {lockable : Bool} {body : Pfx → Act Unit} (hb : exec i s = perform gen lockable body s)
    (he : Ends P (body s.pfx s)) (grows : ∀ u, P u → s.history <:+ u.history) (e : exec i s = .next t) (hd : sameDeliveries s t) :
    ∃ u, P u ∧ t.mem = u.mem := by
  have undelivered {v : Byte} {err : Option Word} {kind : EventKind} {ret : Word} {u : State} (h : s.history <:+ u.history) :
      t ≠ deliver v err kind ret (rollback s u) := by
    rintro rfl
    have before := deliveredCount_le h
    have after := deliver_counts v err kind ret (rollback s u)
    exact absurd hd (Nat.ne_of_gt (Nat.lt_of_le_of_lt before after))
  rw [hb] at e
  by_cases gate : s.allows gen lockable
  · rw [perform_allowed gate] at e
    rcases finish_cases e with ok | ⟨err, u, error, ⟨v, err', kind, ret, delivered⟩ | ended⟩
    · rw [ok] at he
      exact ⟨t, he, rfl⟩
    · rw [error] at he
      exact absurd delivered (undelivered (grows u he))
    · rw [error] at he
      rw [ended.rest]
      exact ⟨u, he, rfl⟩
  · have shut : s.cfg.gen.num < gen.num ∨ s.pfx.lock = true ∧ lockable = false := by
      by_contra passes
      simp only [not_or, not_lt, not_and, Bool.not_eq_false] at passes
      exact gate passes
    rw [perform_undefined shut] at e
    cases e
    exact absurd rfl (undelivered (List.suffix_refl _))

/-! Instructions that store nothing. -/

/-- With paging off the change leaves memory alone. -/
def StillFlat (s t : State) : Prop := s.pg = false → Still s t

theorem stillFlat_resolves : Resolves StillFlat where
  steady := by
    refine ⟨fun s _ => still_steady.refl s, fun s t u h k hpg => ?_⟩
    have first := h hpg
    exact still_steady.trans _ _ _ first (k (first.pg.trans hpg))
  still _ _ h _ := h
  translates la write := by
    refine .of_apply fun s => ?_
    by_cases hpg : s.pg = false
    · exact .inl ⟨_, s, translate_off hpg la write, fun _ => still_steady.refl s⟩
    · cases e : translate la write s with
      | ok v t => exact .inl ⟨v, t, rfl, fun off => absurd off hpg⟩
      | error err t => exact .inr ⟨err, t, rfl, fun off => absurd off hpg⟩

/-- With paging off and no parameter supplied the change leaves memory alone. -/
def StillOff (s t : State) : Prop := s.pmRefuses → s.pg = false → Still s t

theorem stillOff_offline : Offline StillOff where
  steady := by
    refine ⟨fun s _ _ => still_steady.refl s, fun s t u h k hs hpg => ?_⟩
    have first := h hs hpg
    have refuses : t.pmRefuses := by
      unfold State.pmRefuses
      rw [first.cfg]
      exact hs
    exact still_steady.trans _ _ _ first (k refuses (first.pg.trans hpg))
  still _ _ h _ _ := h
  translates la write := (stillFlat_resolves.translates la write).mono fun _ _ h _ => h
  pmFar kind osz sel off s t e hs := by
    rw [pmFarTransfer_refuses hs] at e
    cases e
  pmIret osz s t e hs := by
    rw [pmIret_refuses hs] at e
    cases e

/-- Memory is the same, and the history only grew. -/
def SameMem (s t : State) : Prop := t.mem = s.mem ∧ s.history <:+ t.history

theorem sameMem_calm : Calm SameMem where
  steady := ⟨fun _ => ⟨rfl, List.suffix_refl _⟩, fun _ _ _ h k => ⟨k.1.trans h.1, h.2.trans k.2⟩⟩
  still _ _ h := ⟨h.mem, h.history⟩

/-- MOV CR0 stores nothing, although it may turn paging on (spec/49_system.md R670). -/
theorem writeCr0_sameMem (r : Reg) : Keeps SameMem (writeCr0 r) := by
  have h := sameMem_calm
  refine h.seq h.checksPrivilege fun _ => h.seq (h.looks _) fun _ => h.seq (h.looks _) fun _ => .ite (h.stops _) (.update fun s => ?_)
  unfold State.putCr0
  simp only
  split
  · exact ⟨rfl, List.suffix_refl _⟩
  · exact ⟨rfl, List.suffix_refl _⟩

/-- Settles O58: with paging off no part of a body that stores nothing writes memory. -/
theorem noStoreKeepsMemory : Obligations.NoStoreKeepsMemory := by
  intro i s t hs hpg hm he e hd
  rcases writesPg_cases i with pg | ⟨r, rfl⟩
  · obtain ⟨gen, lockable, body, hb, k⟩ := stillOff_offline.bodyKeeps i s hm he pg
    obtain ⟨u, still, same⟩ := exec_ends hb ((k.ends s).mono fun _ h => h hs hpg) (fun _ h => h.history) e hd
    exact same.trans still.mem
  · obtain ⟨u, ⟨mem, -⟩, same⟩ := exec_ends (exec_movCr0R32_eq s r) ((writeCr0_sameMem r).ends s) (fun _ h => h.2) e hd
    exact same.trans mem

/-! Instructions that store through their ModRM operand. -/

/-- No byte outside the span changed, and the history only grew. -/
structure Confined (sp : Span) (s t : State) : Prop where
  outside : ∀ b : Nat, b ∉ spanBytes sp → memByte t.mem b = memByte s.mem b
  history : s.history <:+ t.history

theorem confined_calm (sp : Span) : Calm (Confined sp) where
  steady := ⟨fun _ => ⟨fun _ _ => rfl, List.suffix_refl _⟩,
    fun _ _ _ h k => ⟨fun b hb => (k.outside b hb).trans (h.outside b hb), h.history.trans k.history⟩⟩
  still _ _ h := ⟨fun b _ => by rw [h.mem], h.history⟩

theorem confined_record (sp : Span) (s : State) (e : Event) : Confined sp s (s.record e) := ⟨fun _ _ => rfl, List.suffix_cons ..⟩

theorem romWrite_confined (sp : Span) (c : Chunk) (bs : List Byte) : Keeps (Confined sp) (romWrite c bs) := .of_apply fun s => by
  unfold romWrite
  split
  · exact .inl ⟨_, _, rfl, confined_record ..⟩
  · exact .inr ⟨_, _, rfl, (confined_calm sp).steady.refl s⟩

/-- A write through a page's handler changes no byte outside the chunk (R105 to R107, R141). -/
theorem handlerWrite_confined {sp : Span} {c : Chunk} {bs : List Byte} (hlen : bs.length ≤ c.n) (hc : byteAddrs c.pa c.n ⊆ spanBytes sp) :
    Keeps (Confined sp) (handlerWrite c bs) := by
  have h := confined_calm sp
  have store : Keeps (Confined sp) (handlerStore c bs) := .of_apply fun s => by
    unfold handlerStore
    split
    · refine .inl ⟨_, _, rfl, fun b hb => memByte_memWrite_outside _ _ _ _ fun k hk e => hb (hc ?_), List.suffix_refl _⟩
      exact mem_byteAddrs.2 ⟨k, Nat.lt_of_lt_of_le hk hlen, e.symm⟩
    · have rom := romWrite_confined sp c bs
      cases e : romWrite c bs s with
      | ok v t => exact .inl ⟨_, _, rfl, rom.1 _ _ _ e⟩
      | error err t => exact .inr ⟨_, _, rfl, rom.2 _ _ _ e⟩
    · exact .inl ⟨_, _, rfl, h.steady.refl s⟩
    · exact .inl ⟨_, _, rfl, confined_record ..⟩
  refine h.seq (.update fun s => ?_) fun _ => .ite (romWrite_confined ..) store
  split
  · exact confined_record ..
  · exact h.steady.refl s

/-- A write of a span changes no byte outside it. -/
theorem writeSpan_confined {whole : Span} (sp : Span) (h : spanBytes sp ⊆ spanBytes whole) (bs : List Byte) :
    Keeps (Confined whole) (writeSpan sp bs) := by
  induction sp generalizing bs with
  | nil => exact (confined_calm whole).value _
  | cons c sp ih =>
    obtain ⟨first, rest⟩ := List.append_subset.1 (spanBytes_cons c sp ▸ h)
    exact (confined_calm whole).seq (handlerWrite_confined (List.length_take_le ..) first) fun _ => ih rest _

theorem writable_confined (sp : Span) : Writable (Confined sp) (.mem sp) := writeSpan_confined sp (List.Subset.refl _)

/-- From a state where its memory operand resolves, a body that stores through the operand alone changes no byte outside it. -/
theorem ActsOn.memory {w : Width} {b : Bool} {p : Pfx} {m : Mem} {n : Nat} {sp : Span} {a : Act Unit}
    (ha : ActsOn (Confined sp) w b p (.mem m) a) (hw : w.bytes = n) (hr : resolveMem (effSeg p m) (effOffset s m) n b s = .ok sp s1) :
    Ends (Confined sp s1) (a s) := by
  obtain ⟨f, same, k⟩ := ha s
  subst hw
  have resolved : resolveRM w b p (.mem m) s = .ok (.mem sp) s1 := (bind_ok (look_apply _ s)).trans (bind_ok hr)
  rw [same, bind_ok resolved]
  exact (k _ fun _ => writable_confined sp).ends s1

theorem compareExchange8_confined {p : Pfx} {m : Mem} {sp : Span} (hr : resolveMem (effSeg p m) (effOffset s m) 8 true s = .ok sp s1) :
    Ends (Confined sp s1) (compareExchange8 p m s) := by
  have h := confined_calm sp
  unfold compareExchange8
  rw [bind_ok (look_apply _ s), bind_ok hr]
  refine Keeps.ends (h.seq (h.readsSpan _) fun _ => h.seq (h.looks _) fun _ => h.seq (h.looks _) fun _ => .ite ?_ ?_) s1
  · exact h.seq (h.updates fun _ => rfl) fun _ => writable_confined sp _
  · exact h.seq (h.updates fun _ => rfl) fun _ => h.seq (writable_confined sp _) fun _ => h.updates fun _ => rfl

theorem mem_of_stored {k n : Nat} {rm : RM} {m : Mem} (h : rmStore k rm = some (n, m)) : rm = .mem m ∧ n = k := by
  cases rm with
  | reg r => cases h
  | mem m' => cases h; exact ⟨rfl, rfl⟩

theorem width_bytes (osz : Size) : osz.width.bytes = osz.bytes := by
  cases osz with
  | w16 => rfl
  | w32 => rfl

/-- The instruction is a body behind its gates, and from the state its body ends within the property. -/
def BodyEnds (P : State → Prop) (i : Instr) (s : State) : Prop :=
  ∃ (gen : CpuGen) (lockable : Bool) (body : Pfx → Act Unit), exec i s = perform gen lockable body s ∧ Ends P (body s.pfx s)

theorem BodyEnds.of {P : State → Prop} {gen : CpuGen} {lockable : Bool} {body : Pfx → Act Unit} (e : exec i s = perform gen lockable body s)
    (he : Ends P (body s.pfx s)) : BodyEnds P i s := ⟨gen, lockable, body, e, he⟩

/-- An instruction that stores through its ModRM memory operand changes no byte outside the resolved operand. -/
theorem modrmStore_confined {n : Nat} {m : Mem} {sp : Span} (hm : modrmStore s.pfx i = some (n, m))
    (hr : resolveMem (effSeg s.pfx m) (effOffset s m) n true s = .ok sp s1) : BodyEnds (Confined sp s1) i s := by
  have h := confined_calm sp
  cases i with
  | addRm8R8 | addRm8Ib | orRm8R8 | orRm8Ib | adcRm8R8 | adcRm8Ib | sbbRm8R8 | sbbRm8Ib | andRm8R8 | andRm8Ib | subRm8R8 | subRm8Ib
  | xorRm8R8 | xorRm8Ib =>
    obtain ⟨rfl, rfl⟩ := mem_of_stored hm
    exact .of (exec_alu rfl) (ActsOn.memory (h.alu (h.found (Src.get_direct rfl))) rfl hr)
  | addRmR | addRmIz | addRmIbs | orRmR | orRmIz | orRmIbs | adcRmR | adcRmIz | adcRmIbs | sbbRmR | sbbRmIz | sbbRmIbs | andRmR | andRmIz
  | andRmIbs | subRmR | subRmIz | subRmIbs | xorRmR | xorRmIz | xorRmIbs =>
    obtain ⟨rfl, rfl⟩ := mem_of_stored hm
    exact .of (exec_alu rfl) (ActsOn.memory (h.alu (h.found (Src.get_direct rfl))) (width_bytes _) hr)
  | incRm8 | decRm8 | notRm8 | negRm8 =>
    obtain ⟨rfl, rfl⟩ := mem_of_stored hm
    exact .of (exec_unary rfl) (ActsOn.memory h.unary rfl hr)
  | incRm | decRm | notRm | negRm =>
    obtain ⟨rfl, rfl⟩ := mem_of_stored hm
    exact .of (exec_unary rfl) (ActsOn.memory h.unary (width_bytes _) hr)
  | rolRm8Ib | rolRm8By1 | rolRm8Cl | rorRm8Ib | rorRm8By1 | rorRm8Cl | rclRm8Ib | rclRm8By1 | rclRm8Cl | rcrRm8Ib | rcrRm8By1 | rcrRm8Cl
  | shlRm8Ib | shlRm8By1 | shlRm8Cl | shrRm8Ib | shrRm8By1 | shrRm8Cl | sarRm8Ib | sarRm8By1 | sarRm8Cl =>
    obtain ⟨rfl, rfl⟩ := mem_of_stored hm
    exact .of (exec_shift rfl) (ActsOn.memory h.shift rfl hr)
  | rolRmIb | rolRmBy1 | rolRmCl | rorRmIb | rorRmBy1 | rorRmCl | rclRmIb | rclRmBy1 | rclRmCl | rcrRmIb | rcrRmBy1 | rcrRmCl | shlRmIb
  | shlRmBy1 | shlRmCl | shrRmIb | shrRmBy1 | shrRmCl | sarRmIb | sarRmBy1 | sarRmCl =>
    obtain ⟨rfl, rfl⟩ := mem_of_stored hm
    exact .of (exec_shift rfl) (ActsOn.memory h.shift (width_bytes _) hr)
  | shldRmRIb | shldRmRCl | shrdRmRIb | shrdRmRCl =>
    obtain ⟨rfl, rfl⟩ := mem_of_stored hm
    exact .of (exec_double rfl) (ActsOn.memory h.doubleShift (width_bytes _) hr)
  | btsRmIb | btrRmIb | btcRmIb =>
    obtain ⟨rfl, rfl⟩ := mem_of_stored hm
    exact .of (exec_bit rfl) (ActsOn.memory h.bitByImm (width_bytes _) hr)
  | cmpxchgRm8R8 =>
    obtain ⟨rfl, rfl⟩ := mem_of_stored hm
    exact .of (exec_cmpxchgRm8R8_eq s _ _) (ActsOn.memory h.compareExchange rfl hr)
  | cmpxchgRmR =>
    obtain ⟨rfl, rfl⟩ := mem_of_stored hm
    exact .of (exec_cmpxchgRmR_eq s _ _) (ActsOn.memory h.compareExchange (width_bytes _) hr)
  | xaddRm8R8 =>
    obtain ⟨rfl, rfl⟩ := mem_of_stored hm
    exact .of (exec_xaddRm8R8_eq s _ _) (ActsOn.memory h.exchangeAdd rfl hr)
  | xaddRmR =>
    obtain ⟨rfl, rfl⟩ := mem_of_stored hm
    exact .of (exec_xaddRmR_eq s _ _) (ActsOn.memory h.exchangeAdd (width_bytes _) hr)
  | cmpxchg8bM64 =>
    cases hm
    exact .of (exec_cmpxchg8bM64_eq s _) (compareExchange8_confined hr)
  | movRm8R8 | movRm8Ib =>
    obtain ⟨rfl, rfl⟩ := mem_of_stored hm
    exact .of (exec_mov rfl) (ActsOn.memory (h.movesFound (Src.get_direct rfl) id) rfl hr)
  | movRmR | movRmIz =>
    obtain ⟨rfl, rfl⟩ := mem_of_stored hm
    exact .of (exec_mov rfl) (ActsOn.memory (h.movesFound (Src.get_direct rfl) id) (width_bytes _) hr)
  | xchgRm8R8 =>
    obtain ⟨rfl, rfl⟩ := mem_of_stored hm
    exact .of (exec_xchg rfl) (ActsOn.memory h.exchange rfl hr)
  | xchgRmR =>
    obtain ⟨rfl, rfl⟩ := mem_of_stored hm
    exact .of (exec_xchg rfl) (ActsOn.memory h.exchange (width_bytes _) hr)
  | setccRm8 =>
    obtain ⟨rfl, rfl⟩ := mem_of_stored hm
    exact .of (exec_setccRm8_eq s _ _) (ActsOn.memory (h.movesFound (look_found _) _) rfl hr)
  | movRm16Sreg =>
    obtain ⟨rfl, rfl⟩ := mem_of_stored hm
    exact .of (exec_movRm16Sreg_eq s _ _) (ActsOn.memory (h.movesFound (look_found _) id) rfl hr)
  | smswRm16 =>
    obtain ⟨rfl, rfl⟩ := mem_of_stored hm
    exact .of (exec_smswRm16_eq s _) (ActsOn.memory (h.movesFound (look_found _) id) rfl hr)
  | _ => cases hm

/-- Settles O59: past the resolution of its operand an instruction stores through it alone, and with paging off the resolution stores nothing. -/
theorem modrmStoreFrame : Obligations.ModrmStoreFrame := by
  intro i s s1 t n m sp hm hr e hd
  obtain ⟨gen, lockable, body, hb, he⟩ := modrmStore_confined hm hr
  have resolved := (resolveMem_touches ..).1 _ _ _ hr
  obtain ⟨u, confined, same⟩ := exec_ends hb he (fun u h => resolved.history.trans h.history) e hd
  refine ⟨fun b hb => ?_, fun hpg => ?_⟩
  · rw [same]
    exact confined.outside b hb
  · exact ((stillFlat_resolves.resolvesMem ..).1 _ _ _ hr hpg).mem

end Sys2Proof.Machine
end

section
/-! SUPPORT. Reading bytes with a decoder (spec/30_encoding.md R201, R210 to R215): what is left to read after some bytes, and that each field the
encoder writes reads back. -/

namespace Sys2Proof

/-- A decoder reads bytes and becomes another decoder. -/
inductive Dec.Reads : Dec → List Byte → Dec → Prop
  | nil (d : Dec) : Dec.Reads d [] d
  | cons {k : Byte → Dec} {b : Byte} {bs : List Byte} {e : Dec} (h : Dec.Reads (k b) bs e) : Dec.Reads (.byte k) (b :: bs) e

theorem Dec.Reads.trans {d e f : Dec} {as bs : List Byte} (h : d.Reads as e) (k : e.Reads bs f) : d.Reads (as ++ bs) f := by
  induction h with
  | nil => exact k
  | cons _ ih => exact .cons (ih k)

/-- Bytes that a decoder reads to its end are what a run over them answers, with the bytes that follow left over. -/
theorem Dec.Reads.run {d : Dec} {bs : List Byte} {r : Decoded} {n : Nat} (h : d.Reads bs (.done r)) (hn : bs.length ≤ n) (rest : List Byte) :
    d.run n (bs ++ rest) = (r, rest) := by
  generalize he : Dec.done r = e at h
  induction h generalizing n with
  | nil => exact he ▸ Machine.Dec.run_done n r rest
  | cons _ ih =>
    cases n with
    | zero => exact absurd hn (Nat.not_succ_le_zero _)
    | succ n => exact ih (Nat.le_of_succ_le_succ hn) he

/-- A decoder that asks for a byte ends after at least one. -/
theorem Dec.Reads.pos {k : Byte → Dec} {bs : List Byte} {r : Decoded} (h : (Dec.byte k).Reads bs (.done r)) : 0 < bs.length := by
  cases h with
  | cons => exact Nat.succ_pos _

@[simp] theorem Reg.ofNum_num (r : Reg) : Reg.ofNum r.num = r := by cases r <;> rfl
@[simp] theorem SegReg.ofNum_num (r : SegReg) : SegReg.ofNum r.num = some r := by cases r <;> rfl
@[simp] theorem Base16.ofNum_num (b : Base16) : Base16.ofNum b.num = b := by cases b <;> rfl

/-- A field of 16 bits holds what fits it (R215). -/
theorem fitsSize_w16 {v : Word} : fitsSize .w16 v = true ↔ v.toNat < 2 ^ 16 := by
  have := v.isLt
  rw [fitsSize, beq_iff_eq, ← BitVec.toNat_inj, BitVec.extractLsb'_toNat, Nat.shiftRight_eq_div_pow]
  simp
  omega

theorem setWidth_of_fits {v : Word} (h : fitsSize .w16 v = true) : (v.setWidth 16).setWidth 32 = v := by
  have := fitsSize_w16.1 h
  bv_omega

theorem bytes_word16 (v : BitVec 16) : v.extractLsb' 8 8 ++ v.extractLsb' 0 8 = v :=
  (BitVec.extractLsb'_append_extractLsb'_eq_extractLsb' rfl).trans BitVec.extractLsb'_eq_self

theorem bytes_word32 (v : Word) : v.extractLsb' 24 8 ++ v.extractLsb' 16 8 ++ v.extractLsb' 8 8 ++ v.extractLsb' 0 8 = v := by
  rw [BitVec.extractLsb'_append_extractLsb'_eq_extractLsb' (start₁ := 16) (len₁ := 8) rfl,
    BitVec.extractLsb'_append_extractLsb'_eq_extractLsb' (start₁ := 8) (len₁ := 8) rfl]
  exact (BitVec.extractLsb'_append_extractLsb'_eq_extractLsb' rfl).trans BitVec.extractLsb'_eq_self

/-! The fields. -/

theorem decByte_reads (k : Byte → Dec) (b : Byte) : (decByte k).Reads [b] (k b) := .cons (.nil _)

theorem decWord16_reads (k : BitVec 16 → Dec) (v : BitVec 16) : (decWord16 k).Reads (enc16 v) (k v) := by
  refine .cons (.cons ?_)
  rw [bytes_word16]
  exact .nil _

theorem decWord32_reads (k : Word → Dec) (v : Word) : (decWord32 k).Reads (enc32 v) (k v) := by
  refine .cons (.cons (.cons (.cons ?_)))
  rw [bytes_word32]
  exact .nil _

theorem decSized_reads {sz : Size} {v : Word} (h : fitsSize sz v = true) (k : Word → Dec) : (decSized sz k).Reads (encSized sz v) (k v) := by
  cases sz with
  | w16 =>
    have read := decWord16_reads (fun v => k (v.setWidth 32)) (v.setWidth 16)
    rwa [setWidth_of_fits h] at read
  | w32 => exact decWord32_reads k v

theorem decDisp16_reads (d : Disp 16) (k : Disp 16 → Dec) : (decDisp16 d.mod k).Reads (encDisp16 d) (k d) := by
  cases d with
  | none => exact .nil _
  | d8 d => exact .cons (.nil _)
  | full d => exact decWord16_reads (fun d => k (.full d)) d

theorem decDisp32_reads (d : Disp 32) (k : Disp 32 → Dec) : (decDisp32 d.mod k).Reads (encDisp32 d) (k d) := by
  cases d with
  | none => exact .nil _
  | d8 d => exact .cons (.nil _)
  | full d => exact decWord32_reads (fun d => k (.full d)) d

theorem Disp.mod_ne_three {w : Nat} (d : Disp w) : d.mod ≠ 3#2 := by cases d <;> exact nofun

theorem Disp.mod_eq_zero {w : Nat} {d : Disp w} (h : d.mod = 0#2) : d = .none := by
  cases d with
  | none => rfl
  | d8 => cases h
  | full => cases h

/-! ModRM, SIB and displacement. -/

theorem modrmByte_mod (mod : BitVec 2) (reg rm : BitVec 3) : (modrmByte mod reg rm).extractLsb' 6 2 = mod :=
  (BitVec.extractLsb'_append_eq_of_le (by decide)).trans (Machine.extract_high mod reg)

theorem modrmByte_reg (mod : BitVec 2) (reg rm : BitVec 3) : (modrmByte mod reg rm).extractLsb' 3 3 = reg := Machine.extract_middle mod reg rm

theorem modrmByte_rm (mod : BitVec 2) (reg rm : BitVec 3) : (modrmByte mod reg rm).extractLsb' 0 3 = rm := Machine.extract_low (mod ++ reg) rm

theorem decModrm_reads {f : BitVec 2 → BitVec 3 → BitVec 3 → Dec} {mod : BitVec 2} {reg rm : BitVec 3} {bs : List Byte} {e : Dec}
    (h : (f mod reg rm).Reads bs e) : (decModrm f).Reads (modrmByte mod reg rm :: bs) e := by
  refine .cons ?_
  rwa [modrmByte_mod, modrmByte_reg, modrmByte_rm]

theorem sibIndex_indexNum {index : Option Reg} (h : (index != some .esp) = true) : sibIndex (indexNum index) = index := by
  cases index with
  | none => rfl
  | some r =>
    cases r with
    | esp => cases h
    | eax | ecx | edx | ebx | ebp | esi | edi => rfl

/-- The base field 5 with mod 0 stands for no base (R214). -/
theorem no_base_collision {b : Reg} {d : Disp 32} (h : (!(b == .ebp && d == .none)) = true) : ¬(b.num = 5#3 ∧ d.mod = 0#2) := by
  rintro ⟨base, mod⟩
  have none := Disp.mod_eq_zero mod
  cases b <;> simp_all [Reg.num]

/-- What the encoder writes for a memory operand after the reg field: its mod and rm fields, then bytes that read back (R212 to R214). -/
theorem encMem_fields {asz : Size} {m : Mem} (h : m.wellFormed asz = true) : ∃ mod rm bs, mod ≠ 3#2 ∧
    (∀ reg, encMem reg m = modrmByte mod reg rm :: bs) ∧ ∀ k, (decMem asz mod rm k).Reads bs (k m) := by
  cases m with
  | based16 b d =>
    obtain ⟨rfl, hb⟩ : asz = .w16 ∧ (!(b == .bp && d == .none)) = true := by simpa [Mem.wellFormed] using h
    refine ⟨d.mod, b.num, encDisp16 d, d.mod_ne_three, fun _ => rfl, fun k => ?_⟩
    have base : ¬(d.mod = 0#2 ∧ b.num = 6#3) := by
      rintro ⟨mod, base⟩
      have none := Disp.mod_eq_zero mod
      cases b <;> simp_all [Base16.num]
    rw [decMem, if_neg base, Base16.ofNum_num]
    exact decDisp16_reads d _
  | abs16 d =>
    obtain rfl : asz = .w16 := by simpa [Mem.wellFormed] using h
    exact ⟨0#2, 6#3, enc16 d, by decide, fun _ => rfl, fun k => decWord16_reads (fun d => k (.abs16 d)) d⟩
  | based32 b d =>
    obtain ⟨⟨rfl, hesp⟩, hb⟩ : (asz = .w32 ∧ b ≠ .esp) ∧ (!(b == .ebp && d == .none)) = true := by simpa [Mem.wellFormed] using h
    refine ⟨d.mod, b.num, encDisp32 d, d.mod_ne_three, fun _ => rfl, fun k => ?_⟩
    have sib : b.num ≠ 4#3 := by cases b <;> simp_all [Reg.num]
    rw [decMem, if_neg sib, if_neg (mt And.symm (no_base_collision hb)), Reg.ofNum_num]
    exact decDisp32_reads d _
  | abs32 d =>
    obtain rfl : asz = .w32 := by simpa [Mem.wellFormed] using h
    exact ⟨0#2, 5#3, enc32 d, by decide, fun _ => rfl, fun k => decWord32_reads (fun d => k (.abs32 d)) d⟩
  | sib scale index b d =>
    obtain ⟨⟨rfl, hi⟩, hb⟩ : (asz = .w32 ∧ (index != some .esp) = true) ∧ (!(b == .ebp && d == .none)) = true := by
      simpa [Mem.wellFormed] using h
    refine ⟨d.mod, 4#3, modrmByte scale (indexNum index) b.num :: encDisp32 d, d.mod_ne_three, fun _ => rfl, fun k => .cons ?_⟩
    simp only [modrmByte_mod, modrmByte_reg, modrmByte_rm, sibIndex_indexNum hi, if_neg (no_base_collision hb), Reg.ofNum_num]
    exact decDisp32_reads d _
  | sibAbs scale index d =>
    obtain ⟨rfl, hi⟩ : asz = .w32 ∧ (index != some .esp) = true := by simpa [Mem.wellFormed] using h
    refine ⟨0#2, 4#3, modrmByte scale (indexNum index) 5#3 :: enc32 d, by decide, fun _ => rfl, fun k => .cons ?_⟩
    simp only [modrmByte_mod, modrmByte_reg, modrmByte_rm, sibIndex_indexNum hi, and_self, if_true]
    exact decWord32_reads _ d

/-- A memory operand reads back where the reg field says that one is read (R212 to R214). -/
theorem encMem_reads {asz : Size} {f : BitVec 2 → BitVec 3 → BitVec 3 → Dec} {k : Mem → Dec} {n : BitVec 3} {m : Mem}
    (h : m.wellFormed asz = true) (hf : ∀ mod rm, mod ≠ 3#2 → f mod n rm = decMem asz mod rm k) : (decModrm f).Reads (encMem n m) (k m) := by
  obtain ⟨mod, rm, bs, hmod, enc, read⟩ := encMem_fields h
  rw [enc]
  refine decModrm_reads ?_
  rw [hf mod rm hmod]
  exact read k

/-- So does a register or memory operand (R211). -/
theorem encRM_reads {asz : Size} {f : BitVec 2 → BitVec 3 → BitVec 3 → Dec} {k : RM → Dec} {n : BitVec 3} {rm : RM}
    (h : rm.wellFormed asz = true) (hf : ∀ mod rm, f mod n rm = decRM asz mod rm k) : (decModrm f).Reads (encRM n rm) (k rm) := by
  cases rm with
  | reg r =>
    refine decModrm_reads ?_
    rw [hf, decRM, if_pos rfl, Reg.ofNum_num]
    exact .nil _
  | mem m => exact encMem_reads (k := fun m => k (.mem m)) h fun mod rm hmod => by rw [hf, decRM, if_neg hmod]

end Sys2Proof
end

section
/-! PROOFS. What the encoder writes, the decoder reads (spec/30_encoding.md R200 to R215): the opcode bytes lead to an entry of the dispatch table,
whose operands read back by their shape. -/

namespace Sys2Proof

variable {gen : CpuGen} {p : Pfx} {D d : Dec} {ops : List Byte} {n : BitVec 3} {reg : Reg} {rm : RM} {m : Mem} {imm : Byte} {v : Word}

/-- The decoder of an instruction from the first byte after its prefixes (R200 step 3). -/
def decBody (gen : CpuGen) (p : Pfx) : Dec := .byte (decOpcode gen p)

theorem dispatchIndex_opcode (osz : Size) (escaped : Bool) (op : Byte) : dispatchIndex osz escaped op % 256 = op.toNat := by
  have := op.isLt
  unfold dispatchIndex
  split <;> split <;> omega

theorem dispatchIndex_escaped (osz : Size) (escaped : Bool) (op : Byte) :
    dispatchIndex osz escaped op / 256 % 2 = if escaped then 1 else 0 := by
  have := op.isLt
  unfold dispatchIndex
  split <;> split <;> omega

theorem decOpcode_oneByte {b : Byte} (hb : b ≠ 0x0F#8) : decOpcode gen p b = decOneByte p b.toNat := by
  rw [decOpcode, if_neg hb, decEntry, dispatchIndex_escaped, dispatchIndex_opcode]
  rfl

theorem decOpcode_escape : decOpcode gen p 0x0F#8 = .byte fun b => decEscaped gen p b.toNat := by
  rw [decOpcode, if_pos rfl]
  congr 1
  funext b
  rw [decEntry, dispatchIndex_escaped, dispatchIndex_opcode]
  rfl

/-- A one-byte opcode leads to its entry (R225). -/
theorem reads_op {b : Byte} (hb : b ≠ 0x0F#8) (hd : decOneByte p b.toNat = d) : (decBody gen p).Reads [b] d := by
  refine .cons ?_
  rw [decOpcode_oneByte hb, hd]
  exact .nil d

/-- A two-byte opcode leads to its entry (R226). -/
theorem reads_escaped {b : Byte} (hd : decEscaped gen p b.toNat = d) : (decBody gen p).Reads [0x0F#8, b] d := by
  refine .cons ?_
  rw [decOpcode_escape]
  refine .cons ?_
  rw [hd]
  exact .nil d

/-! The shapes of operands, after the opcode bytes. -/

theorem reads_byte {C : Byte → Instr} (h : D.Reads ops (decByte fun imm => decOk p (C imm))) : D.Reads (ops ++ [imm]) (decOk p (C imm)) :=
  h.trans (decByte_reads _ imm)

theorem reads_word16 {C : BitVec 16 → Instr} {v : BitVec 16} (h : D.Reads ops (decWord16 fun v => decOk p (C v))) :
    D.Reads (ops ++ enc16 v) (decOk p (C v)) :=
  h.trans (decWord16_reads _ v)

theorem reads_sized {sz : Size} {C : Word → Instr} (hv : fitsSize sz v = true) (h : D.Reads ops (decSized sz fun v => decOk p (C v))) :
    D.Reads (ops ++ encSized sz v) (decOk p (C v)) :=
  h.trans (decSized_reads hv _)

theorem reads_pointer {sz : Size} {C : Word → Sel → Instr} {sel : Sel} (hv : fitsSize sz v = true)
    (h : D.Reads ops (decSized sz fun off => decWord16 fun sel => decOk p (C off sel))) :
    D.Reads (ops ++ encSized sz v ++ enc16 sel) (decOk p (C v sel)) :=
  (h.trans (decSized_reads hv _)).trans (decWord16_reads _ sel)

section
variable {f : BitVec 2 → BitVec 3 → BitVec 3 → Dec}

/-- An operand whose reg field is fixed, or belongs to a group. -/
theorem reads_rm {C : RM → Instr} (hrm : rm.wellFormed p.asz = true) (h : D.Reads ops (decModrm f))
    (hf : ∀ mod rm, f mod n rm = decRM p.asz mod rm fun o => decOk p (C o)) : D.Reads (ops ++ encRM n rm) (decOk p (C rm)) :=
  h.trans (encRM_reads hrm hf)

theorem reads_rmByte {C : RM → Byte → Instr} (hrm : rm.wellFormed p.asz = true) (h : D.Reads ops (decModrm f))
    (hf : ∀ mod rm, f mod n rm = decRM p.asz mod rm fun o => decByte fun imm => decOk p (C o imm)) :
    D.Reads (ops ++ encRM n rm ++ [imm]) (decOk p (C rm imm)) :=
  (h.trans (encRM_reads hrm hf)).trans (decByte_reads _ imm)

theorem reads_rmSized {C : RM → Word → Instr} (hv : (rm.wellFormed p.asz && fitsSize p.osz v) = true) (h : D.Reads ops (decModrm f))
    (hf : ∀ mod rm, f mod n rm = decRM p.asz mod rm fun o => decSized p.osz fun imm => decOk p (C o imm)) :
    D.Reads (ops ++ encRM n rm ++ encSized p.osz v) (decOk p (C rm v)) := by
  obtain ⟨hrm, hv⟩ := Bool.and_eq_true_iff.1 hv
  exact (h.trans (encRM_reads hrm hf)).trans (decSized_reads hv _)

theorem reads_mem {C : Mem → Instr} (hm : m.wellFormed p.asz = true) (h : D.Reads ops (decModrm f))
    (hf : ∀ mod rm, f mod n rm = decMemOnly p.asz mod rm fun m => decOk p (C m)) : D.Reads (ops ++ encMem n m) (decOk p (C m)) :=
  h.trans (encMem_reads (k := fun m => decOk p (C m)) hm fun mod rm hmod => by rw [hf, decMemOnly, if_neg hmod])

/-- MOV to and from a control register: mod is not looked at. -/
theorem reads_crReg {C : Reg → Instr} (h : D.Reads ops (decModrm f)) (hf : ∀ mod rm, f mod n rm = decOk p (C (Reg.ofNum rm))) :
    D.Reads (ops ++ [modrmByte 3#2 n reg.num]) (decOk p (C reg)) := by
  refine h.trans (decModrm_reads ?_)
  rw [hf, Reg.ofNum_num]
  exact .nil _

end

/-- An operand whose reg field names a register. -/
theorem reads_rmReg {C : RM → Reg → Instr} (hrm : rm.wellFormed p.asz = true)
    (h : D.Reads ops (decModrm fun mod reg rm => decRM p.asz mod rm fun o => decOk p (C o (Reg.ofNum reg)))) :
    D.Reads (ops ++ encRM reg.num rm) (decOk p (C rm reg)) :=
  reads_rm (C := fun o => C o reg) hrm h fun _ _ => by rw [Reg.ofNum_num]

theorem reads_rmRegByte {C : RM → Reg → Byte → Instr} (hrm : rm.wellFormed p.asz = true)
    (h : D.Reads ops (decModrm fun mod reg rm => decRM p.asz mod rm fun o => decByte fun imm => decOk p (C o (Reg.ofNum reg) imm))) :
    D.Reads (ops ++ encRM reg.num rm ++ [imm]) (decOk p (C rm reg imm)) :=
  reads_rmByte (C := fun o => C o reg) hrm h fun _ _ => by rw [Reg.ofNum_num]

theorem reads_rmRegSized {C : RM → Reg → Word → Instr} (hv : (rm.wellFormed p.asz && fitsSize p.osz v) = true)
    (h : D.Reads ops (decModrm fun mod reg rm => decRM p.asz mod rm fun o => decSized p.osz fun imm => decOk p (C o (Reg.ofNum reg) imm))) :
    D.Reads (ops ++ encRM reg.num rm ++ encSized p.osz v) (decOk p (C rm reg v)) :=
  reads_rmSized (C := fun o => C o reg) hv h fun _ _ => by rw [Reg.ofNum_num]

theorem reads_memReg {C : Mem → Reg → Instr} (hm : m.wellFormed p.asz = true)
    (h : D.Reads ops (decModrm fun mod reg rm => decMemOnly p.asz mod rm fun m => decOk p (C m (Reg.ofNum reg)))) :
    D.Reads (ops ++ encMem reg.num m) (decOk p (C m reg)) :=
  reads_mem (C := fun m => C m reg) hm h fun _ _ => by rw [Reg.ofNum_num]

/-- The bytes after the prefixes read back as their instruction. -/
theorem encodeBody_reads (i : Instr) (h : i.wellFormed p.osz p.asz = true) :
    (decBody gen p).Reads (encodeBody p.osz p.asz i) (decOk p i) := by
  cases i with
  | addRm8R8 rm reg | addRmR rm reg | addR8Rm8 rm reg | addRRm rm reg | orRm8R8 rm reg | orRmR rm reg | orR8Rm8 rm reg | orRRm rm reg
  | adcRm8R8 rm reg | adcRmR rm reg | adcR8Rm8 rm reg | adcRRm rm reg | sbbRm8R8 rm reg | sbbRmR rm reg | sbbR8Rm8 rm reg | sbbRRm rm reg
  | andRm8R8 rm reg | andRmR rm reg | andR8Rm8 rm reg | andRRm rm reg | subRm8R8 rm reg | subRmR rm reg | subR8Rm8 rm reg | subRRm rm reg
  | xorRm8R8 rm reg | xorRmR rm reg | xorR8Rm8 rm reg | xorRRm rm reg | cmpRm8R8 rm reg | cmpRmR rm reg | cmpR8Rm8 rm reg | cmpRRm rm reg
  | testRm8R8 rm reg | testRmR rm reg | movRm8R8 rm reg | movRmR rm reg | movR8Rm8 rm reg | movRRm rm reg | xchgRm8R8 rm reg
  | xchgRmR rm reg =>
    exact reads_rmReg h (reads_op (by decide) rfl)
  | imulRRm rm reg | shldRmRCl rm reg | shrdRmRCl rm reg | btRmR rm reg | btsRmR rm reg | btrRmR rm reg | btcRmR rm reg | bsfRRm rm reg
  | bsrRRm rm reg | cmpxchgRm8R8 rm reg | cmpxchgRmR rm reg | xaddRm8R8 rm reg | xaddRmR rm reg | movzxRRm8 rm reg | movzxRRm16 rm reg
  | movsxRRm8 rm reg | movsxRRm16 rm reg =>
    exact reads_rmReg h (reads_escaped rfl)
  | incRm8 rm | decRm8 rm => exact reads_rm h (reads_op (d := decGroupFE p) (by decide) rfl) fun _ _ => rfl
  | incRm rm | decRm rm | pushRm rm | jmpRm rm | callRm rm => exact reads_rm h (reads_op (d := decGroupFF p) (by decide) rfl) fun _ _ => rfl
  | notRm8 rm | negRm8 rm | mulRm8 rm | imulRm8 rm | divRm8 rm | idivRm8 rm =>
    exact reads_rm h (reads_op (d := decGroupF6 p) (by decide) rfl) fun _ _ => rfl
  | notRm rm | negRm rm | mulRm rm | imulRm rm | divRm rm | idivRm rm =>
    exact reads_rm h (reads_op (d := decGroupF7 p) (by decide) rfl) fun _ _ => rfl
  | rolRm8By1 rm | rorRm8By1 rm | rclRm8By1 rm | rcrRm8By1 rm | shlRm8By1 rm | shrRm8By1 rm | sarRm8By1 rm =>
    exact reads_rm h (reads_op (d := decGroupD0 p) (by decide) rfl) fun _ _ => rfl
  | rolRmBy1 rm | rorRmBy1 rm | rclRmBy1 rm | rcrRmBy1 rm | shlRmBy1 rm | shrRmBy1 rm | sarRmBy1 rm =>
    exact reads_rm h (reads_op (d := decGroupD1 p) (by decide) rfl) fun _ _ => rfl
  | rolRm8Cl rm | rorRm8Cl rm | rclRm8Cl rm | rcrRm8Cl rm | shlRm8Cl rm | shrRm8Cl rm | sarRm8Cl rm =>
    exact reads_rm h (reads_op (d := decGroupD2 p) (by decide) rfl) fun _ _ => rfl
  | rolRmCl rm | rorRmCl rm | rclRmCl rm | rcrRmCl rm | shlRmCl rm | shrRmCl rm | sarRmCl rm =>
    exact reads_rm h (reads_op (d := decGroupD3 p) (by decide) rfl) fun _ _ => rfl
  | popRm rm => exact reads_rm h (reads_op (d := decGroup8F p) (by decide) rfl) fun _ _ => rfl
  | smswRm16 rm | lmswRm16 rm => exact reads_rm h (reads_escaped (d := decGroup0F01 p) rfl) fun _ _ => rfl
  | addRm8Ib rm imm | orRm8Ib rm imm | adcRm8Ib rm imm | sbbRm8Ib rm imm | andRm8Ib rm imm | subRm8Ib rm imm | xorRm8Ib rm imm
  | cmpRm8Ib rm imm =>
    exact reads_rmByte h (reads_op (d := decGroup80 p) (by decide) rfl) fun _ _ => rfl
  | addRmIbs rm imm | orRmIbs rm imm | adcRmIbs rm imm | sbbRmIbs rm imm | andRmIbs rm imm | subRmIbs rm imm | xorRmIbs rm imm
  | cmpRmIbs rm imm =>
    exact reads_rmByte h (reads_op (d := decGroup83 p) (by decide) rfl) fun _ _ => rfl
  | testRm8Ib rm imm => exact reads_rmByte h (reads_op (d := decGroupF6 p) (by decide) rfl) fun _ _ => rfl
  | rolRm8Ib rm imm | rorRm8Ib rm imm | rclRm8Ib rm imm | rcrRm8Ib rm imm | shlRm8Ib rm imm | shrRm8Ib rm imm | sarRm8Ib rm imm =>
    exact reads_rmByte h (reads_op (d := decGroupC0 p) (by decide) rfl) fun _ _ => rfl
  | rolRmIb rm imm | rorRmIb rm imm | rclRmIb rm imm | rcrRmIb rm imm | shlRmIb rm imm | shrRmIb rm imm | sarRmIb rm imm =>
    exact reads_rmByte h (reads_op (d := decGroupC1 p) (by decide) rfl) fun _ _ => rfl
  | movRm8Ib rm imm => exact reads_rmByte h (reads_op (d := decGroupC6 p) (by decide) rfl) fun _ _ => rfl
  | btRmIb rm imm | btsRmIb rm imm | btrRmIb rm imm | btcRmIb rm imm =>
    exact reads_rmByte h (reads_escaped (d := decGroup0FBA p) rfl) fun _ _ => rfl
  | addRmIz rm imm | orRmIz rm imm | adcRmIz rm imm | sbbRmIz rm imm | andRmIz rm imm | subRmIz rm imm | xorRmIz rm imm | cmpRmIz rm imm =>
    exact reads_rmSized h (reads_op (d := decGroup81 p) (by decide) rfl) fun _ _ => rfl
  | testRmIz rm imm => exact reads_rmSized h (reads_op (d := decGroupF7 p) (by decide) rfl) fun _ _ => rfl
  | movRmIz rm imm => exact reads_rmSized h (reads_op (d := decGroupC7 p) (by decide) rfl) fun _ _ => rfl
  | imulRRmIbs rm reg imm => exact reads_rmRegByte h (reads_op (by decide) rfl)
  | shldRmRIb rm reg imm | shrdRmRIb rm reg imm => exact reads_rmRegByte h (reads_escaped rfl)
  | imulRRmIz rm reg imm => exact reads_rmRegSized h (reads_op (by decide) rfl)
  | leaRM m reg | ldsRMemFar m reg | lesRMemFar m reg => exact reads_memReg h (reads_op (by decide) rfl)
  | lssRMemFar m reg | lfsRMemFar m reg | lgsRMemFar m reg => exact reads_memReg h (reads_escaped rfl)
  | jmpMemFar m | callMemFar m => exact reads_mem h (reads_op (d := decGroupFF p) (by decide) rfl) fun _ _ => rfl
  | cmpxchg8bM64 m => exact reads_mem h (reads_escaped (d := decGroup0FC7 p) rfl) fun _ _ => rfl
  | invlpgM m => exact reads_mem h (reads_escaped (d := decGroup0F01 p) rfl) fun _ _ => rfl
  | movCr0R32 reg | movCr2R32 reg | movCr3R32 reg => exact reads_crReg (reads_escaped (d := decGroup0F22 gen p) rfl) fun _ _ => rfl
  | movR32Cr0 reg | movR32Cr2 reg | movR32Cr3 reg => exact reads_crReg (reads_escaped (d := decGroup0F20 gen p) rfl) fun _ _ => rfl
  | movsb | movsw | cmpsb | cmpsw | stosb | stosw | lodsb | lodsw | scasb | scasw | nop | cbw | cwd | pusha | popa | xlat | leave | ret
  | retf | iret | int3 | into | pushf | popf | sahf | lahf | clc | stc | cmc | cld | std | cli | sti | pushEs | pushCs | pushSs | pushDs
  | popEs | popSs | popDs | hlt =>
    exact reads_op (by decide) rfl
  | pushFs | pushGs | popFs | popGs | clts | invd | wbinvd | ud2 => exact reads_escaped rfl
  | addAlIb imm | orAlIb imm | adcAlIb imm | sbbAlIb imm | andAlIb imm | subAlIb imm | xorAlIb imm | cmpAlIb imm | testAlIb imm
  | pushIbs imm | jmpRel8 rel | loopRel8 rel | loopeRel8 rel | loopneRel8 rel | jcxzRel8 rel | intIb imm =>
    exact reads_byte (reads_op (by decide) rfl)
  | addEaxIz imm | orEaxIz imm | adcEaxIz imm | sbbEaxIz imm | andEaxIz imm | subEaxIz imm | xorEaxIz imm | cmpEaxIz imm | testEaxIz imm
  | movAlMoffs off | movEaxMoffs off | movMoffsAl off | movMoffsEax off | pushIz imm | jmpRelz rel | callRelz rel =>
    exact reads_sized h (reads_op (by decide) rfl)
  | retIw imm | retfIw imm => exact reads_word16 (reads_op (by decide) rfl)
  | jmpPtr off sel | callPtr off sel => exact reads_pointer h (reads_op (by decide) rfl)
  | incR reg | decR reg | pushR reg | popR reg => exact reads_op (by cases reg <;> decide) (by cases reg <;> rfl)
  | xchgEaxR reg =>
    cases reg with
    | eax => cases h
    | ecx | edx | ebx | esp | ebp | esi | edi => exact reads_op (by decide) rfl
  | bswapR32 reg => exact reads_escaped (by cases reg <;> rfl)
  | movR8Ib reg imm => exact reads_byte (reads_op (by cases reg <;> decide) (by cases reg <;> rfl))
  | movRIz reg imm => exact reads_sized h (reads_op (by cases reg <;> decide) (by cases reg <;> rfl))
  | jccRel8 cc rel => exact reads_byte (reads_op (by cases cc <;> decide) (by cases cc <;> rfl))
  | jccRelz cc rel => exact reads_sized h (reads_escaped (by cases cc <;> rfl))
  | setccRm8 cc rm =>
    exact reads_rm (f := fun mod _ rm => decRM p.asz mod rm fun o => decOk p (.setccRm8 cc o)) h
      (reads_escaped (by cases cc <;> rfl)) fun _ _ => rfl
  | movRm16Sreg rm sreg =>
    exact reads_rm (f := fun mod reg rm => decSreg reg fun sreg => decRM p.asz mod rm fun o => decOk p (.movRm16Sreg o sreg)) h
      (reads_op (b := 0x8C#8) (by decide) rfl) fun _ _ => by rw [decSreg, SegReg.ofNum_num]
  | movSregRm16 rm sreg =>
    obtain ⟨hrm, hs⟩ := Bool.and_eq_true_iff.1 h
    exact reads_rm (f := fun mod reg rm => decSreg reg fun sreg => if sreg = .cs then decUndefined else
      decRM p.asz mod rm fun o => decOk p (.movSregRm16 o sreg)) hrm (reads_op (b := 0x8E#8) (by decide) rfl) fun _ _ => by
        rw [decSreg, SegReg.ofNum_num]
        exact if_neg (bne_iff_ne.1 hs)

/-! Prefixes. -/

/-- A byte of the prefixes is no opcode: the dispatch table refuses it (R206, R232). -/
theorem decOpcode_prefix {q : Prefixes} {b : Byte} (h : q.fold b ≠ none) : decOpcode gen p b = decRefused .opcode := by
  have entry {n : Nat} (hn : b.toNat = n) (escape : n ≠ 0x0F) : decOpcode gen p b = decOneByte p n := by
    rw [decOpcode_oneByte fun hb => escape (hn ▸ congrArg BitVec.toNat hb), hn]
  unfold Prefixes.fold at h
  split at h
  case h_12 => exact absurd rfl h
  all_goals exact (entry (by assumption) (by decide)).trans rfl

/-- Bytes that fold into the state `q'` of the prefixes are read as such (R205, R206). -/
theorem decPrefixes_reads {big : Bool} {ps : List Byte} {q q' : Prefixes} (h : ps.foldlM Prefixes.fold q = some q') (n : Nat) :
    (decPrefixes gen big (ps.length + n) q).Reads ps (decPrefixes gen big n q') := by
  induction ps generalizing q with
  | nil =>
    cases h
    rw [List.length_nil, Nat.zero_add]
    exact .nil _
  | cons b ps ih =>
    rw [List.foldlM_cons] at h
    obtain ⟨r, hb, hr⟩ := Option.bind_eq_some_iff.1 h
    rw [List.length_cons, Nat.add_right_comm]
    refine .cons ?_
    rw [hb]
    exact ih hr

/-- Each byte that the encoder writes for the prefixes sets its own part of their state. -/
theorem encPrefixes_fold (q : Prefixes) : (encPrefixes q).foldlM Prefixes.fold .clear = some q := by
  obtain ⟨seg, osz, asz, lock, rep⟩ := q
  have segment : (seg.toList.map segPrefix).foldlM Prefixes.fold .clear = some { Prefixes.clear with seg := seg } := by
    cases seg with
    | none => rfl
    | some s => cases s <;> rfl
  rw [encPrefixes, List.foldlM_append, List.foldlM_append, List.foldlM_append, List.foldlM_append, segment]
  cases osz <;> cases asz <;> cases lock <;> cases rep <;> rfl

/-- The sizes that prefixes select are those they were written for (R207). -/
theorem Pfx.of_raw (big : Bool) (p : Pfx) : Pfx.of big (p.raw big) = p := by
  have size (sz : Size) : sizeOf big (sz != sizeOf big false) = sz := by cases big <;> cases sz <;> rfl
  rw [Pfx.of, Pfx.raw, size, size]

/-- The first byte of the body is none of the prefixes, since the table has an instruction for it: it is the opcode. -/
theorem decPrefixes_body {big : Bool} {q : Prefixes} {bs : List Byte} {i : Instr} (h : (decBody gen p).Reads bs (decOk p i))
    (hq : Pfx.of big q = p) (n : Nat) : (decPrefixes gen big (n + 1) q).Reads bs (decOk p i) := by
  cases h with
  | cons h =>
    refine .cons ?_
    split
    · next b _ _ _ hb =>
      rw [decOpcode_prefix (hb ▸ Option.some_ne_none _)] at h
      cases h
    · rwa [hq]

/-- Settles O2: the decoder reads the prefixes into their state, then the opcode and its operands. -/
theorem decodeOfEncode : Obligations.DecodeOfEncode := by
  intro gen big p i rest hwf hlen
  have body := encodeBody_reads (gen := gen) i hwf
  have nonempty := body.pos
  rw [encode, List.length_append] at hlen
  obtain ⟨n, hn⟩ : ∃ n, 15 = (encPrefixes (p.raw big)).length + (n + 1) := ⟨14 - (encPrefixes (p.raw big)).length, by omega⟩
  have read : (decInstr gen big .clear).Reads (encode big p i) (decOk p i) := by
    rw [decInstr, hn]
    exact (decPrefixes_reads (encPrefixes_fold _) (n + 1)).trans (decPrefixes_body body (Pfx.of_raw big p) n)
  exact read.run (by rw [encode, List.length_append]; exact hlen) rest

end Sys2Proof
end

section
/-! PROOFS. What the decoder reads from any bytes (spec/30_encoding.md R211 to R215, R230 to R233): every entry of the dispatch table ends in an
outcome, and an instruction it answers is well-formed. -/

namespace Sys2Proof

/-- Every outcome of a decoder has a property, whatever bytes it reads. -/
def Dec.All (P : Decoded → Prop) : Dec → Prop
  | .done r => P r
  | .byte k => ∀ b, (k b).All P

/-- An outcome of the decoder tree: an instruction in one of the forms of its row, or a decision that the bytes are none. -/
def Decoded.Sound : Decoded → Prop
  | .instr p i => i.wellFormed p.osz p.asz = true
  | .undefined | .refused _ | .tooLong => True
  | .truncated => False

/-- Every outcome of the decoder is sound. -/
abbrev Dec.Sound (d : Dec) : Prop := d.All Decoded.Sound

variable {p : Pfx} {asz sz : Size} {gen : CpuGen}

/-! The fields. -/

@[simp] theorem sound_decOk {i : Instr} : (decOk p i).Sound ↔ i.wellFormed p.osz p.asz = true := Iff.rfl

@[simp] theorem sound_decUndefined : decUndefined.Sound := trivial

@[simp] theorem sound_decRefused (stage : DecodeStage) : (decRefused stage).Sound := trivial

/-- The property holds of what is left after some bytes. -/
theorem Dec.Reads.all {P : Decoded → Prop} {d e : Dec} {bs : List Byte} (r : d.Reads bs e) (h : d.All P) : e.All P := by
  induction r with
  | nil => exact h
  | cons _ ih => exact ih (h _)

@[simp] theorem sound_ite {c : Prop} [Decidable c] {d e : Dec} : (if c then d else e).Sound ↔ (c → d.Sound) ∧ (¬c → e.Sound) := by
  split <;> simp [*]

@[simp] theorem sound_decByte {k : Byte → Dec} : (decByte k).Sound ↔ ∀ b, (k b).Sound := Iff.rfl

@[simp] theorem sound_decWord16 {k : BitVec 16 → Dec} : (decWord16 k).Sound ↔ ∀ v, (k v).Sound :=
  ⟨fun h v => (decWord16_reads k v).all h, fun h _ _ => h _⟩

theorem sound_decWord32 {k : Word → Dec} : (decWord32 k).Sound ↔ ∀ v, (k v).Sound :=
  ⟨fun h v => (decWord32_reads k v).all h, fun h _ _ _ _ => h _⟩

/-- A field of opsize or addrsize fits it (R215). -/
@[simp] theorem sound_decSized {k : Word → Dec} : (decSized sz k).Sound ↔ ∀ v, fitsSize sz v = true → (k v).Sound := by
  refine ⟨fun h v hv => (decSized_reads hv k).all h, fun h => ?_⟩
  cases sz with
  | w16 => exact sound_decWord16.2 fun v => h _ (fitsSize_w16.2 (by bv_omega))
  | w32 => exact sound_decWord32.2 fun v => h v rfl

@[simp] theorem sound_decModrm {k : BitVec 2 → BitVec 3 → BitVec 3 → Dec} : (decModrm k).Sound ↔ ∀ mod reg rm, (k mod reg rm).Sound :=
  ⟨fun h mod reg rm => (decModrm_reads (.nil (k mod reg rm))).all h, fun h _ => h _ _ _⟩

@[simp] theorem sound_decSreg {reg : BitVec 3} {k : SegReg → Dec} :
    (decSreg reg k).Sound ↔ ∀ sreg, SegReg.ofNum reg = some sreg → (k sreg).Sound := by
  unfold decSreg
  split <;> simp [*]

/-- A displacement is absent for mod 0 alone (R212). -/
theorem sound_decDisp16 {mod : BitVec 2} {k : Disp 16 → Dec} (h : ∀ d, (d = .none → mod = 0#2) → (k d).Sound) : (decDisp16 mod k).Sound := by
  unfold decDisp16
  split
  · next zero => exact h _ fun _ => BitVec.eq_of_toNat_eq zero
  · exact sound_decByte.2 fun d => h _ nofun
  · exact sound_decWord16.2 fun d => h _ nofun

/-- A displacement is absent for mod 0 alone (R213). -/
theorem sound_decDisp32 {mod : BitVec 2} {k : Disp 32 → Dec} (h : ∀ d, (d = .none → mod = 0#2) → (k d).Sound) : (decDisp32 mod k).Sound := by
  unfold decDisp32
  split
  · next zero => exact h _ fun _ => BitVec.eq_of_toNat_eq zero
  · exact sound_decByte.2 fun d => h _ nofun
  · exact sound_decWord32.2 fun d => h _ nofun

/-- ESP is no index (R214). -/
theorem sibIndex_ne_esp (n : BitVec 3) : (sibIndex n != some .esp) = true := by
  revert n
  decide

/-- Only the number 5 is EBP, and only 4 is ESP (R31). -/
theorem Reg.ofNum_eq_ebp {n : BitVec 3} (h : Reg.ofNum n = .ebp) : n = 5#3 := by
  revert n
  decide

theorem Reg.ofNum_eq_esp {n : BitVec 3} (h : Reg.ofNum n = .esp) : n = 4#3 := by
  revert n
  decide

theorem Base16.ofNum_eq_bp {n : BitVec 3} (h : Base16.ofNum n = .bp) : n = 6#3 := by
  revert n
  decide

/-- A base that needs a displacement gets one (R212 to R214). -/
theorem base_displaced {α : Type} [DecidableEq α] {w : Nat} {b c : α} {n k : BitVec 3} {mod : BitVec 2} {d : Disp w} (hn : b = c → n = k)
    (hd : d = .none → mod = 0#2) (h : ¬(mod = 0#2 ∧ n = k)) : (!(b == c && d == .none)) = true := by
  rw [Bool.not_eq_true', Bool.and_eq_false_iff, beq_eq_false_iff_ne, beq_eq_false_iff_ne]
  by_cases hb : b = c
  · exact .inr fun none => h ⟨hd none, hn hb⟩
  · exact .inl hb

theorem sound_decSib {mod : BitVec 2} {k : Mem → Dec} (h : ∀ m, m.wellFormed .w32 = true → (k m).Sound) : (decSib mod k).Sound := by
  intro b
  simp only
  split
  · exact sound_decWord32.2 fun d => h _ (sibIndex_ne_esp _)
  · next based =>
    refine sound_decDisp32 fun d hd => h _ ?_
    rw [Mem.wellFormed, sibIndex_ne_esp, base_displaced Reg.ofNum_eq_ebp hd (mt And.symm based)]
    rfl

/-- What is read for a memory operand has a form (R212 to R214). -/
theorem sound_decMem {mod : BitVec 2} {rm : BitVec 3} {k : Mem → Dec} (h : ∀ m, m.wellFormed asz = true → (k m).Sound) :
    (decMem asz mod rm k).Sound := by
  cases asz with
  | w16 =>
    unfold decMem
    simp only
    split
    · exact sound_decWord16.2 fun d => h _ rfl
    · next based => exact sound_decDisp16 fun d hd => h _ (base_displaced Base16.ofNum_eq_bp hd based)
  | w32 =>
    unfold decMem
    simp only
    split
    · exact sound_decSib h
    · next esp =>
      split
      · exact sound_decWord32.2 fun d => h _ rfl
      · next based =>
        refine sound_decDisp32 fun d hd => h _ ?_
        rw [Mem.wellFormed, base_displaced Reg.ofNum_eq_ebp hd based, bne_iff_ne.2 (mt Reg.ofNum_eq_esp esp)]
        rfl

@[simp] theorem sound_decRM {mod : BitVec 2} {rm : BitVec 3} {k : RM → Dec} (h : ∀ o, o.wellFormed asz = true → (k o).Sound) :
    (decRM asz mod rm k).Sound := by
  unfold decRM
  split
  · exact h _ rfl
  · exact sound_decMem fun m hm => h _ hm

@[simp] theorem sound_decMemOnly {mod : BitVec 2} {rm : BitVec 3} {k : Mem → Dec} (h : ∀ m, m.wellFormed asz = true → (k m).Sound) :
    (decMemOnly asz mod rm k).Sound := by
  unfold decMemOnly
  split
  · trivial
  · exact sound_decMem h

/-! The tables: an entry reads its fields, and what they hold is what its instruction asks for (R219, R220, R225, R226). -/

@[simp] theorem sound_decGroup80 : (decGroup80 p).Sound := by
  refine sound_decModrm.2 fun mod reg rm => ?_
  split <;> simp +contextual [Instr.wellFormed.eq_def]

@[simp] theorem sound_decGroup81 : (decGroup81 p).Sound := by
  refine sound_decModrm.2 fun mod reg rm => ?_
  split <;> simp +contextual [Instr.wellFormed.eq_def]

@[simp] theorem sound_decGroup83 : (decGroup83 p).Sound := by
  refine sound_decModrm.2 fun mod reg rm => ?_
  split <;> simp +contextual [Instr.wellFormed.eq_def]

@[simp] theorem sound_decGroup8F : (decGroup8F p).Sound := by
  refine sound_decModrm.2 fun mod reg rm => ?_
  split <;> simp +contextual [Instr.wellFormed.eq_def]

@[simp] theorem sound_decGroupC0 : (decGroupC0 p).Sound := by
  refine sound_decModrm.2 fun mod reg rm => ?_
  split <;> simp +contextual [Instr.wellFormed.eq_def]

@[simp] theorem sound_decGroupC1 : (decGroupC1 p).Sound := by
  refine sound_decModrm.2 fun mod reg rm => ?_
  split <;> simp +contextual [Instr.wellFormed.eq_def]

@[simp] theorem sound_decGroupC6 : (decGroupC6 p).Sound := by
  refine sound_decModrm.2 fun mod reg rm => ?_
  split <;> simp +contextual [Instr.wellFormed.eq_def]

@[simp] theorem sound_decGroupC7 : (decGroupC7 p).Sound := by
  refine sound_decModrm.2 fun mod reg rm => ?_
  split <;> simp +contextual [Instr.wellFormed.eq_def]

@[simp] theorem sound_decGroupD0 : (decGroupD0 p).Sound := by
  refine sound_decModrm.2 fun mod reg rm => ?_
  split <;> simp +contextual [Instr.wellFormed.eq_def]

@[simp] theorem sound_decGroupD1 : (decGroupD1 p).Sound := by
  refine sound_decModrm.2 fun mod reg rm => ?_
  split <;> simp +contextual [Instr.wellFormed.eq_def]

@[simp] theorem sound_decGroupD2 : (decGroupD2 p).Sound := by
  refine sound_decModrm.2 fun mod reg rm => ?_
  split <;> simp +contextual [Instr.wellFormed.eq_def]

@[simp] theorem sound_decGroupD3 : (decGroupD3 p).Sound := by
  refine sound_decModrm.2 fun mod reg rm => ?_
  split <;> simp +contextual [Instr.wellFormed.eq_def]

@[simp] theorem sound_decGroupF6 : (decGroupF6 p).Sound := by
  refine sound_decModrm.2 fun mod reg rm => ?_
  split <;> simp +contextual [Instr.wellFormed.eq_def]

@[simp] theorem sound_decGroupF7 : (decGroupF7 p).Sound := by
  refine sound_decModrm.2 fun mod reg rm => ?_
  split <;> simp +contextual [Instr.wellFormed.eq_def]

@[simp] theorem sound_decGroupFE : (decGroupFE p).Sound := by
  refine sound_decModrm.2 fun mod reg rm => ?_
  split <;> simp +contextual [Instr.wellFormed.eq_def]

@[simp] theorem sound_decGroupFF : (decGroupFF p).Sound := by
  refine sound_decModrm.2 fun mod reg rm => ?_
  split <;> simp +contextual [Instr.wellFormed.eq_def]

@[simp] theorem sound_decGroup0F01 : (decGroup0F01 p).Sound := by
  refine sound_decModrm.2 fun mod reg rm => ?_
  split <;> simp +contextual [Instr.wellFormed.eq_def]

@[simp] theorem sound_decGroup0F20 : (decGroup0F20 gen p).Sound := by
  refine sound_decModrm.2 fun mod reg rm => ?_
  split <;> simp +contextual [Instr.wellFormed.eq_def]

@[simp] theorem sound_decGroup0F22 : (decGroup0F22 gen p).Sound := by
  refine sound_decModrm.2 fun mod reg rm => ?_
  split <;> simp +contextual [Instr.wellFormed.eq_def]

@[simp] theorem sound_decGroup0FBA : (decGroup0FBA p).Sound := by
  refine sound_decModrm.2 fun mod reg rm => ?_
  split <;> simp +contextual [Instr.wellFormed.eq_def]

@[simp] theorem sound_decGroup0FC7 : (decGroup0FC7 p).Sound := by
  refine sound_decModrm.2 fun mod reg rm => ?_
  split <;> simp +contextual [Instr.wellFormed.eq_def]

@[simp] theorem sound_decRow0 (lo : Nat) : (decRow0 p lo).Sound := by
  unfold decRow0
  split <;> simp +contextual [Instr.wellFormed.eq_def]

@[simp] theorem sound_decRow1 (lo : Nat) : (decRow1 p lo).Sound := by
  unfold decRow1
  split <;> simp +contextual [Instr.wellFormed.eq_def]

@[simp] theorem sound_decRow2 (lo : Nat) : (decRow2 p lo).Sound := by
  unfold decRow2
  split <;> simp +contextual [Instr.wellFormed.eq_def]

@[simp] theorem sound_decRow3 (lo : Nat) : (decRow3 p lo).Sound := by
  unfold decRow3
  split <;> simp +contextual [Instr.wellFormed.eq_def]

@[simp] theorem sound_decRow4 (lo : Nat) : (decRow4 p lo).Sound := by
  unfold decRow4
  split <;> simp +contextual [Instr.wellFormed.eq_def]

@[simp] theorem sound_decRow5 (lo : Nat) : (decRow5 p lo).Sound := by
  unfold decRow5
  split <;> simp +contextual [Instr.wellFormed.eq_def]

@[simp] theorem sound_decRow6 (lo : Nat) : (decRow6 p lo).Sound := by
  unfold decRow6
  split <;> simp +contextual [Instr.wellFormed.eq_def]

@[simp] theorem sound_decRow7 (lo : Nat) : (decRow7 p lo).Sound := by
  unfold decRow7
  split <;> simp +contextual [Instr.wellFormed.eq_def]

@[simp] theorem sound_decRow8 (lo : Nat) : (decRow8 p lo).Sound := by
  unfold decRow8
  split <;> simp +contextual [Instr.wellFormed.eq_def]

@[simp] theorem sound_decRow9 (lo : Nat) : (decRow9 p lo).Sound := by
  unfold decRow9
  split <;> simp +contextual [Instr.wellFormed.eq_def]

@[simp] theorem sound_decRowA (lo : Nat) : (decRowA p lo).Sound := by
  unfold decRowA
  split <;> simp +contextual [Instr.wellFormed.eq_def]

@[simp] theorem sound_decRowB (lo : Nat) : (decRowB p lo).Sound := by
  unfold decRowB
  split <;> simp +contextual [Instr.wellFormed.eq_def]

@[simp] theorem sound_decRowC (lo : Nat) : (decRowC p lo).Sound := by
  unfold decRowC
  split <;> simp +contextual [Instr.wellFormed.eq_def]

@[simp] theorem sound_decRowD (lo : Nat) : (decRowD p lo).Sound := by
  unfold decRowD
  split <;> simp +contextual [Instr.wellFormed.eq_def]

@[simp] theorem sound_decRowE (lo : Nat) : (decRowE p lo).Sound := by
  unfold decRowE
  split <;> simp +contextual [Instr.wellFormed.eq_def]

@[simp] theorem sound_decRowF (lo : Nat) : (decRowF p lo).Sound := by
  unfold decRowF
  split <;> simp +contextual [Instr.wellFormed.eq_def]

@[simp] theorem sound_decEscRow0 (lo : Nat) : (decEscRow0 gen p lo).Sound := by
  unfold decEscRow0
  split <;> simp +contextual [Instr.wellFormed.eq_def]

@[simp] theorem sound_decEscRow1 (lo : Nat) : (decEscRow1 gen p lo).Sound := trivial

@[simp] theorem sound_decEscRow2 (lo : Nat) : (decEscRow2 gen p lo).Sound := by
  unfold decEscRow2
  split <;> simp

@[simp] theorem sound_decEscRow3 (lo : Nat) : (decEscRow3 gen p lo).Sound := trivial

@[simp] theorem sound_decEscRow4 (lo : Nat) : (decEscRow4 gen p lo).Sound := trivial

@[simp] theorem sound_decEscRow5 (lo : Nat) : (decEscRow5 gen p lo).Sound := trivial

@[simp] theorem sound_decEscRow6 (lo : Nat) : (decEscRow6 gen p lo).Sound := trivial

@[simp] theorem sound_decEscRow7 (lo : Nat) : (decEscRow7 gen p lo).Sound := trivial

@[simp] theorem sound_decEscRow8 (lo : Nat) : (decEscRow8 gen p lo).Sound := by
  unfold decEscRow8
  split <;> simp +contextual [Instr.wellFormed.eq_def]

@[simp] theorem sound_decEscRow9 (lo : Nat) : (decEscRow9 gen p lo).Sound := by
  unfold decEscRow9
  split <;> simp +contextual [Instr.wellFormed.eq_def]

@[simp] theorem sound_decEscRowA (lo : Nat) : (decEscRowA gen p lo).Sound := by
  unfold decEscRowA
  split <;> simp +contextual [Instr.wellFormed.eq_def]

@[simp] theorem sound_decEscRowB (lo : Nat) : (decEscRowB gen p lo).Sound := by
  unfold decEscRowB
  split <;> simp +contextual [Instr.wellFormed.eq_def]

@[simp] theorem sound_decEscRowC (lo : Nat) : (decEscRowC gen p lo).Sound := by
  unfold decEscRowC
  split <;> simp +contextual [Instr.wellFormed.eq_def]

@[simp] theorem sound_decEscRowD (lo : Nat) : (decEscRowD gen p lo).Sound := trivial

@[simp] theorem sound_decEscRowE (lo : Nat) : (decEscRowE gen p lo).Sound := trivial

@[simp] theorem sound_decEscRowF (lo : Nat) : (decEscRowF gen p lo).Sound := by
  unfold decEscRowF
  split <;> simp

theorem sound_decOneByte (op : Nat) : (decOneByte p op).Sound := by
  unfold decOneByte
  split <;> simp

theorem sound_decEscaped (op : Nat) : (decEscaped gen p op).Sound := by
  unfold decEscaped
  split <;> simp

theorem sound_decOpcode (b : Byte) : (decOpcode gen p b).Sound := by
  by_cases hb : b = 0x0F#8
  · rw [hb, decOpcode_escape]
    exact fun b => sound_decEscaped _
  · rw [decOpcode_oneByte hb]
    exact sound_decOneByte _

/-- The decoder's outcomes are sound, after any prefixes. -/
theorem sound_decPrefixes (big : Bool) (n : Nat) (q : Prefixes) : (decPrefixes gen big n q).Sound := by
  induction n generalizing q with
  | zero => trivial
  | succ n ih =>
    intro b
    simp only
    split
    · exact ih _
    · exact sound_decOpcode b

/-! What a run and a fetch answer. -/

theorem Dec.All.mono {P Q : Decoded → Prop} {d : Dec} (h : d.All P) (hq : ∀ r, P r → Q r) : d.All Q := by
  induction d with
  | done r => exact hq r h
  | byte k ih => exact fun b => ih b (h b)

/-- A run over a list of bytes answers an outcome of the decoder, or that the bytes are too many or too few. -/
theorem Dec.All.run {P : Decoded → Prop} {d : Dec} (h : d.All P) (long : P .tooLong) (short : P .truncated) (n : Nat) (bs : List Byte) :
    P (d.run n bs).1 := by
  induction d generalizing n bs with
  | done r => rwa [Machine.Dec.run_done]
  | byte k ih =>
    cases n with
    | zero => exact long
    | succ n =>
      cases bs with
      | nil => exact short
      | cons b bs => exact ih b (h b) n bs

/-- A fetch that goes on answers an outcome of the decoder. -/
theorem Dec.All.fetch {P : Decoded → Prop} {d : Dec} (h : d.All P) {seen bs : List Byte} {s t : Machine.State} {r : Decoded}
    (hf : Machine.fetchDec d seen s = .ok (r, bs) t) : P r := by
  induction d generalizing seen s with
  | done r' =>
    cases hf
    exact h
  | byte k ih =>
    obtain ⟨b, u, _, hu⟩ := Machine.bind_eq_ok.1 hf
    exact ih b (h b) hu

theorem sound_decInstr (big : Bool) (q : Prefixes) : (decInstr gen big q).Sound := by
  unfold decInstr
  exact sound_decPrefixes big 15 q

/-- Settles O3: a list that ends too early or goes on too long gives no instruction, and every outcome of the decoder itself is sound. -/
theorem decodedIsWellFormed : Obligations.DecodedIsWellFormed := by
  intro gen big bs rest p i h
  have outcomes : (decInstr gen big .clear).All fun r => ∀ p i, r = .instr p i → i.wellFormed p.osz p.asz = true :=
    Dec.All.mono (sound_decInstr big .clear) fun r hr p i e => by rwa [e] at hr
  have read := Dec.All.run outcomes (fun _ _ e => by cases e) (fun _ _ e => by cases e) 15 bs
  rw [← decode, h] at read
  exact read p i rfl

/-- Settles O4: a fetch has no end of a list to run into. -/
theorem fetchEndsInAnOutcome : Obligations.FetchEndsInAnOutcome := by
  rintro s t d bs h rfl
  unfold Machine.fetchInstr at h
  exact Dec.All.fetch (sound_decInstr s.codeBig s.prefixes) h

end Sys2Proof
end

section
/-! PROOFS. A step runs the instruction decoded (spec/60_exceptions.md R731), instructions that raise #UD (spec/30_encoding.md R208, R221), relative
branches (spec/46_control_transfer.md R550 to R559), and words of the opcode table. -/

namespace Sys2Proof.Machine

variable {i : Instr} {s u : State}

/-- Settles O1: the decoder is evaluated on each word. -/
theorem wordsOfEveryFamilyDecode : Obligations.WordsOfEveryFamilyDecode :=
  ⟨rfl, rfl, rfl, rfl, rfl, rfl, rfl, rfl, rfl, rfl, rfl⟩

/-- Settles O5: what is fetched is what is run. -/
theorem stepRunsTheDecodedInstruction : Obligations.StepRunsTheDecodedInstruction := by
  intro s t p i bs hm ha hh fetched
  rw [step_executes hm ha hh]
  unfold runInstr
  rw [fetched, endInstr_startInstr]

/-! #UD before an instruction executes. -/

/-- Every instruction is a body behind the generation and the LOCK rule of its row (spec/30_encoding.md R208, R221). -/
theorem exec_gated (i : Instr) (s : State) : ∃ body, exec i s = perform (firstGen i) (lockAllowed i) body s := by
  unfold exec firstGen lockAllowed
  cases i <;> exact ⟨_, rfl⟩

/-- UD2 raises #UD where its row does not (R681). -/
theorem exec_ud2 (s : State) : exec .ud2 s = .next (deliver 6#8 none .fault s.eipStart (rollback s s)) := by
  rw [exec_ud2_eq]
  by_cases lock : s.pfx.lock = true
  · exact perform_undefined (.inr ⟨lock, rfl⟩)
  · by_cases gen : s.cfg.gen.num < CpuGen.g386.num
    · exact perform_undefined (.inl gen)
    · rw [perform_allowed ⟨Nat.le_of_not_lt gen, fun h => absurd h lock⟩]
      rfl

/-- Settles O52: the gate of the row refuses, or the instruction is UD2. -/
theorem undefinedInstructionTraps : Obligations.UndefinedInstructionTraps := by
  intro i s h
  obtain ⟨body, gated⟩ := exec_gated i s
  rcases h with lock | gen | rfl
  · rw [gated]
    exact perform_undefined (.inr lock)
  · rw [gated]
    exact perform_undefined (.inl gen)
  · exact exec_ud2 s

/-! Relative branches. -/

theorem sizedTarget_eq (osz : Size) (v : Word) : sizedTarget osz v = if osz = .w16 then v &&& 0xFFFF#32 else v := by
  cases osz <;> rfl

/-- A near target within the CS limit (R550). -/
theorem jumpNear_within {osz : Size} {v : Word} (h : (sizedTarget osz v).toNat ≤ s.segs.cs.limit.toNat) :
    jumpNear osz v s = .ok () { s with eip := sizedTarget osz v } := by
  unfold jumpNear nearTarget
  simp only [bind_apply, look_apply]
  rw [if_neg (Nat.not_lt.2 h)]
  rfl

/-- A near target beyond the CS limit (R550). -/
theorem jumpNear_beyond {osz : Size} {v : Word} (h : s.segs.cs.limit.toNat < (sizedTarget osz v).toNat) :
    jumpNear osz v s = .error (.fault 13#8 (some 0#32)) s := by
  unfold jumpNear nearTarget
  simp only [bind_apply, look_apply]
  rw [if_pos h]
  rfl

/-- Relative branches: a loop has counted down when the branch is decided (R553 to R559). -/
theorem exec_branch {taken : Bool} {rel : Word} (ha : s.allows .g386 false) (h : branchParts s.pfx s i = some (u, taken, rel)) :
    exec i s = finish s ((if taken then jumpNear s.pfx.osz (s.eip + rel) else pure ()) u) := by
  cases i with
  | jccRel8 cc rel => cases h; rw [exec_jccRel8_eq, perform_allowed ha]; rfl
  | jccRelz cc rel => cases h; rw [exec_jccRelz_eq, perform_allowed ha]; rfl
  | jmpRel8 rel => cases h; rw [exec_jmpRel8_eq, perform_allowed ha]; rfl
  | jmpRelz rel => cases h; rw [exec_jmpRelz_eq, perform_allowed ha]; rfl
  | loopRel8 rel =>
    cases h
    rw [exec_loopRel8_eq, perform_allowed ha, ← Bool.and_true ((s.countDown s.pfx).counter s.pfx != 0#32)]
    rfl
  | loopeRel8 rel => cases h; rw [exec_loopeRel8_eq, perform_allowed ha]; rfl
  | loopneRel8 rel => cases h; rw [exec_loopneRel8_eq, perform_allowed ha]; rfl
  | jcxzRel8 rel => cases h; rw [exec_jcxzRel8_eq, perform_allowed ha]; rfl
  | _ => cases h

/-- Before it is decided, a branch has changed the count register at most. -/
theorem branchParts_state {p : Pfx} {taken : Bool} {rel : Word} (h : branchParts p s i = some (u, taken, rel)) : u = s ∨ u = s.countDown p := by
  cases i with
  | jccRel8 | jccRelz | jmpRel8 | jmpRelz | jcxzRel8 => cases h; exact .inl rfl
  | loopRel8 | loopeRel8 | loopneRel8 => cases h; exact .inr rfl
  | _ => cases h

/-- Settles O43: the target is taken within the CS limit alone, and a fault discards the count. -/
theorem relativeBranchesComplete : Obligations.RelativeBranchesComplete := by
  refine ⟨fun cc v => by cases cc <;> simp [condHolds, getFlag, Flag.bit], ?_⟩
  intro i s u taken rel h ha target
  have sized : sizedTarget s.pfx.osz (s.eip + rel) = target := sizedTarget_eq ..
  have cs : u.segs = s.segs := by rcases branchParts_state h with rfl | rfl <;> rfl
  have discarded : rollback s u = rollback s s := by rcases branchParts_state h with rfl | rfl <;> rfl
  rw [exec_branch ha h]
  refine ⟨?_, ?_, ?_⟩
  · rintro rfl
    rfl
  · rintro rfl within
    rw [if_pos rfl, jumpNear_within (by rwa [sized, cs]), sized]
    rfl
  · rintro rfl beyond
    rw [if_pos rfl, jumpNear_beyond (by rwa [sized, cs]), finish_fault, discarded]

end Sys2Proof.Machine
end

section
/-! PROOFS. Moves and the stack instructions complete when their operands can be accessed (spec/40_data_movement.md R302 to R324). -/

namespace Sys2Proof.Machine

variable {α β : Type} {i : Instr} {s t : State}

/-! Bodies that complete. -/

/-- An allowed instruction whose body goes on ends in the state the body reached. -/
theorem exec_completes {gen : CpuGen} {lockable : Bool} {body : Pfx → Act Unit} (hb : exec i s = perform gen lockable body s)
    (allowed : s.allows gen lockable) (ha : body s.pfx s = .ok () t) : exec i s = .next t := by
  rw [hb, perform_allowed allowed, ha, finish_ok]

theorem movRead_ok {a : Act α} {f : α → Act Unit} {v : α} (h : a s = .ok v t) : movRead a f s = f v t := bind_ok h

theorem readReg_apply (w : Width) (r : Reg) (s : State) : readReg w r s = .ok (s.gpr w r) s := rfl

/-- XCHG reads the register before either write (R309). -/
theorem exchange_ok {s1 s2 s3 : State} {w : Width} {p : Pfx} {rm : RM} {r : Reg} {pl : Place} {a : BitVec w.bits}
    (hr : resolveRM w true p rm s = .ok pl s1) (ha : readPlace w pl s1 = .ok a s2) (hw : writePlace w pl (s.gpr w r) s2 = .ok () s3) :
    exchange w p rm r s = .ok () (s3.setGpr w r a) := by
  have reg : s2.gpr w r = s.gpr w r :=
    (((readPlace_touches ..).1 _ _ _ ha).gpr w r).trans (((resolveRM_touches ..).1 _ _ _ hr).gpr w r)
  unfold exchange
  rw [bind_ok hr, bind_ok ha, bind_ok (readReg_apply w r s2), reg, bind_ok hw]
  rfl

theorem extendTo_eq {n : Nat} (signed : Bool) (v : BitVec n) (m : Nat) :
    extendTo signed v m = if signed then BitVec.ofInt m v.toInt else BitVec.ofNat m v.toNat := by
  unfold extendTo
  rw [BitVec.ofNat_toNat]
  rfl

/-- CBW and CWDE (R314). -/
theorem convertAcc_apply (osz : Size) (s : State) : convertAcc osz s = .ok () (match osz with
    | .w16 => s.setGpr .b16 .eax (BitVec.ofInt 16 (s.gpr .b8 .eax).toInt)
    | .w32 => s.setGpr .b32 .eax (BitVec.ofInt 32 (s.gpr .b16 .eax).toInt)) := by
  cases osz with
  | w16 => rfl
  | w32 => rfl

/-- CWD and CDQ (R315). -/
theorem signFill_apply (w : Width) (s : State) :
    signFill w s = .ok () (s.setGpr w .edx (if (s.gpr w .eax).toInt < 0 then BitVec.allOnes w.bits else 0#w.bits)) := by
  have sign : (s.gpr w .eax).msb = decide ((s.gpr w .eax).toInt < 0) := BitVec.msb_eq_toInt
  unfold signFill
  rw [bind_ok (readReg_apply w .eax s), sign]
  simp only [decide_eq_true_eq]
  rfl

/-- Settles O41, one body at a time. -/
theorem movesComplete : Obligations.MovesComplete := by
  intro s s1 s2 s3 p w
  refine ⟨fun i w' dst src v h ha hv hw => ?_, fun off v ha hv => ?_, fun off v ha hv => ?_, fun off ha hw => ?_, fun off ha hw => ?_,
    fun i w' rm r pl a h ha hr hv hw => ?_, fun ha => ?_, fun m r ha => ?_, fun i signed w' rm r v h ha hv => ?_, fun ha => ?_, fun ha => ?_,
    fun v ha hv => ?_⟩
  · exact exec_completes (exec_mov h) ha ((movRead_ok hv).trans hw)
  · exact exec_completes (exec_movAlMoffs_eq s off) ha (bind_ok hv)
  · exact exec_completes (exec_movEaxMoffs_eq s off) ha (bind_ok hv)
  · exact exec_completes (exec_movMoffsAl_eq s off) ha hw
  · exact exec_completes (exec_movMoffsEax_eq s off) ha hw
  · exact exec_completes (exec_xchg h) ha (exchange_ok hr hv hw)
  · exact exec_completes (exec_nop_eq s) ha rfl
  · exact exec_completes (exec_leaRM_eq s m r) ha rfl
  · exact exec_completes (exec_extend h) ha ((bind_ok hv).trans (by rw [extendTo_eq]; rfl))
  · exact exec_completes (exec_cbw_eq s) ha (convertAcc_apply ..)
  · exact exec_completes (exec_cwd_eq s) ha (signFill_apply ..)
  · exact exec_completes (exec_xlat_eq s) ha (bind_ok hv)

/-! The stack pointer. -/

theorem bits_eq_bytes (w : Width) : w.bits / 8 = w.bytes := by cases w <;> rfl

theorem setStackTop_stackBig (s : State) (v : Word) : (s.setStackTop v).stackBig = s.stackBig := by
  unfold State.stackBig
  rw [State.setStackTop_segs]

theorem toNat_and_low_half (v : Word) : (v &&& 0xFFFF#32).toNat = v.toNat % 65536 := Nat.and_two_pow_sub_one_eq_mod v.toNat 16

/-- The low half of a word. -/
theorem setWidth_low_half (v : Word) : (v.setWidth 16).setWidth 32 = v &&& 0xFFFF#32 := by
  apply BitVec.eq_of_toNat_eq
  rw [toNat_and_low_half, BitVec.toNat_setWidth, BitVec.toNat_setWidth]
  omega

/-- The stack pointer reads back what its width holds of the value written (R302). -/
theorem stackTop_setStackTop (s : State) (v : Word) : (s.setStackTop v).stackTop = stackWrap s.stackBig v := by
  unfold State.stackTop
  rw [setStackTop_stackBig]
  unfold State.setStackTop stackWrap
  cases s.stackBig with
  | true => exact s.gpr_setGpr .b32 .esp v
  | false => exact (congrArg (·.setWidth 32) (s.gpr_setGpr .b16 .esp (v.setWidth 16))).trans (setWidth_low_half v)

/-- Moving the stack pointer writes no 32-bit register but ESP (R302). -/
theorem get_setStackTop (s : State) (v : Word) {r : Reg} (hr : r ≠ .esp) : (s.setStackTop v).regs.get r = s.regs.get r := by
  unfold State.setStackTop
  split
  · exact s.gpr32_setGpr_ne .b32 v (by simpa [destRegs] using hr)
  · exact s.gpr32_setGpr_ne .b16 (v.setWidth 16) (by simpa [destRegs] using hr)

/-- No view of another register changes with it: no byte register is part of ESP (R31). -/
theorem gpr_setStackTop (s : State) (v : Word) (w : Width) {r : Reg} (hr : r ≠ .esp) : (s.setStackTop v).gpr w r = s.gpr w r := by
  have parent : byteParent r ≠ .esp := by cases r <;> decide
  cases w with
  | b8 => exact congrArg (fun x : Word => if byteIsHigh r then x.extractLsb' 8 8 else x.extractLsb' 0 8) (get_setStackTop s v parent)
  | b16 => exact congrArg (·.extractLsb' 0 16) (get_setStackTop s v hr)
  | b32 => exact get_setStackTop s v hr

/-! Pushes and pops. -/

/-- A push stores below the stack pointer, then moves it there (R302). -/
theorem push_ok {n : Nat} {v : BitVec n} {off : Word} (ho : off = s.pushOffset (n / 8)) (h : memWriteBits .ss off v s = .ok () t) :
    push v s = .ok () (t.setStackTop off) := by
  subst ho
  exact bind_ok h

/-- A pop reads at the stack pointer, then moves it (R303). -/
theorem pop_ok {w : Width} {v : BitVec w.bits} (h : memReadBits w.bits .ss s.stackTop s = .ok v t) :
    pop w.bits s = .ok v (t.setStackTop (s.stackTop + BitVec.ofNat 32 w.bytes)) := by
  have top := ((memReadBits_touches ..).1 _ _ _ h).stackTop
  have read : readTop w.bits s = .ok v t := h
  unfold pop
  rw [bind_ok read, bits_eq_bytes]
  unfold State.dropStack
  rw [← top]
  rfl

/-- A sequence depends on its second part only in the states its first part reaches. -/
theorem bind_congr_on {R : State → State → Prop} {a : Act α} {f g : α → Act β} (ha : Keeps R a) (h : ∀ v t, R s t → f v t = g v t) :
    (a >>= f) s = (a >>= g) s := by
  rw [bind_apply, bind_apply]
  cases e : a s with
  | ok v t => exact h v t (ha.1 _ _ _ e)
  | error => rfl

/-- Every register but the stack pointer has the same views. -/
def SameOthers (s t : State) : Prop := ∀ (w : Width) (r : Reg), r ≠ .esp → t.gpr w r = s.gpr w r

theorem sameOthers_steady : Steady SameOthers where
  refl _ _ _ _ := rfl
  trans _ _ _ h k w r hr := (k w r hr).trans (h w r hr)

theorem push_sameOthers {n : Nat} (v : BitVec n) : Keeps SameOthers (push v) :=
  .bind sameOthers_steady (.look sameOthers_steady _) fun _ =>
    .bind sameOthers_steady ((memWriteBits_touches ..).mono fun _ _ h w r _ => h.gpr w r) fun _ =>
      .update fun s w _ hr => gpr_setStackTop s _ w hr

/-- After other pushes, a push of a register pushes the value it had before them. -/
theorem pushReg_then {u : State} {w : Width} {r : Reg} {f g : Unit → Act α} (hr : r ≠ .esp) (hu : SameOthers s u)
    (h : ∀ t, SameOthers s t → f () t = g () t) : (movRead (readReg w r) push >>= f) u = (push (s.gpr w r) >>= g) u := by
  have value : movRead (readReg w r) push u = push (s.gpr w r) u := congrArg (push · u) (hu w r hr)
  rw [← bind_congr_on (push_sameOthers _) fun _ t k => h t (sameOthers_steady.trans _ _ _ hu k), bind_apply, bind_apply, value]

/-- PUSHA pushes the registers as they were, the old stack pointer among them (R321). -/
theorem pushAll_eq (w : Width) (s : State) :
    pushAll w s = pushEach ([Reg.eax, .ecx, .edx, .ebx, .esp, .ebp, .esi, .edi].map (s.gpr w)) s := by
  refine (bind_ok (readReg_apply w .esp s)).trans ?_
  refine pushReg_then nofun (sameOthers_steady.refl s) fun _ h => pushReg_then nofun h fun _ h => pushReg_then nofun h fun _ h =>
    pushReg_then nofun h fun t h => bind_congr_on (push_sameOthers _) fun _ t k => ?_
  have h := sameOthers_steady.trans _ _ _ h k
  refine pushReg_then nofun h fun _ h => pushReg_then nofun h fun t h => ?_
  rw [← bind_pure (movRead (readReg w .edi) push)]
  exact pushReg_then nofun h fun _ _ => rfl

/-- Settles O42, one body at a time. -/
theorem stackInstructionsComplete : Obligations.StackInstructionsComplete := by
  intro s s1 s2 w ha
  refine ⟨fun i src v h hv hw => ?_, fun r v hv => ?_, fun rm v hv hw => ?_, fun hp => ?_, ?_, fun v hv => ?_⟩
  · have got := (Src.get_touches ..).1 _ _ _ hv
    refine exec_completes (exec_push h) ha ((movRead_ok hv).trans (push_ok ?_ hw))
    rw [got.pushOffset, bits_eq_bytes]
    rfl
  · exact exec_completes (exec_popR_eq s r) ha (movRead_ok (pop_ok hv))
  · exact exec_completes (exec_popRm_eq s rm) ha ((movRead_ok (pop_ok hv)).trans hw)
  · exact exec_completes (exec_pusha_eq s) ha ((pushAll_eq w s).trans hp)
  · intro di si bp sp bx dx cx ax t1 t2 t3 t4 t5 t6 t7 t8 h1 h2 h3 h4 h5 h6 h7 h8
    refine exec_completes (exec_popa_eq s) ha ?_
    have one {r : Reg} {x : BitVec w.bits} {u t : State} (h : pop w.bits u = .ok x t) :
        movRead (pop w.bits) (writeReg w r) u = .ok () (t.setGpr w r x) := movRead_ok h
    have skipped : movRead (pop w.bits) (fun _ => pure ()) (t3.setGpr w .ebp bp) = .ok () t4 := movRead_ok h4
    exact (bind_ok (one h1)).trans <| (bind_ok (one h2)).trans <| (bind_ok (one h3)).trans <| (bind_ok skipped).trans <|
      (bind_ok (one h5)).trans <| (bind_ok (one h6)).trans <| (bind_ok (one h7)).trans (one h8)
  · have top := stackTop_setStackTop s (s.gpr32 .ebp)
    refine exec_completes (exec_leave_eq s) ha ((bind_ok (update_apply _ s)).trans ?_)
    rw [← top] at hv ⊢
    exact bind_ok (pop_ok hv)

end Sys2Proof.Machine
end

section
/-! PROOFS. A fault of an operand is delivered from the registers the instruction began with (spec/60_exceptions.md R700, R703, R704). -/

namespace Sys2Proof.Machine

variable {i : Instr} {s t : State} {v : Byte} {err : Option Word}

/-- An allowed instruction whose body faults delivers the fault, with registers as they were (R700). -/
theorem exec_faults {gen : CpuGen} {lockable : Bool} {body : Pfx → Act Unit} (hb : exec i s = perform gen lockable body s)
    (allowed : s.allows gen lockable) (ha : body s.pfx s = .error (.fault v err) t) :
    exec i s = .next (deliver v err .fault s.eipStart (rollback s t)) := by
  rw [hb, perform_allowed allowed, ha, finish_fault]

/-- INC, DEC, NOT and NEG resolve their operand first. -/
theorem unaryBody_error {op : UnaryOp} {w : Width} {p : Pfx} {rm : RM} {e : Stop} (h : resolveRM w true p rm s = .error e t) :
    unaryBody op w p rm s = .error e t := by
  cases op with
  | inc | dec | not | neg => exact bind_error h

/-- MUL and one-operand IMUL read their operand first. -/
theorem multiply_error {signed : Bool} {w : Width} {p : Pfx} {rm : RM} {e : Stop} (h : readRM w p rm s = .error e t) :
    (if signed then imul w p rm else mul w p rm) s = .error e t := by
  cases signed with
  | true | false => exact bind_error h

/-- DIV and IDIV read their divisor first. -/
theorem quotient_error {signed : Bool} {w : Width} {p : Pfx} {rm : RM} {e : Stop} (h : readRM w p rm s = .error e t) :
    (if signed then idiv w p rm else div w p rm) s = .error e t := by
  cases signed with
  | true | false => exact bind_error h

/-- Settles O54, one shape of instruction at a time: its body stops where its operand does. -/
theorem operandFaultsAreDelivered : Obligations.OperandFaultsAreDelivered := by
  intro i s t v err
  refine ⟨fun x h ha hr => ?_, fun x s1 s2 pl a h ha hr hv hs => ?_, fun w dst src h ha he => ?_, fun op w rm h ha hr => ?_,
    fun op w rm count h ha hr => ?_, fun signed w rm h ha hv => ?_, fun src h ha hv => ?_, fun w dst src a u h ha hv hw => ?_,
    fun w dst src h ha hv => ?_, fun src a u h ha hv hw => ?_⟩
  · exact exec_faults (exec_alu h) ha (bind_error hr)
  · exact exec_faults (exec_alu h) ha ((bind_ok hr).trans ((bind_ok hv).trans (bind_error hs)))
  · rcases he with first | ⟨a, s1, first, second⟩
    · exact exec_faults (exec_test h) ha (bind_error first)
    · exact exec_faults (exec_test h) ha ((bind_ok first).trans (bind_error second))
  · exact exec_faults (exec_unary h) ha (unaryBody_error hr)
  · exact exec_faults (exec_shift h) ha ((bind_ok (look_apply count s)).trans (bind_error hr))
  · rcases h with h | h
    · exact exec_faults (exec_mul h) ha (multiply_error hv)
    · exact exec_faults (exec_div h) ha (quotient_error hv)
  · exact exec_faults (exec_push h) ha (bind_error hv)
  · exact exec_faults (exec_mov h) ha ((bind_ok hv).trans hw)
  · exact exec_faults (exec_mov h) ha (bind_error hv)
  · exact exec_faults (exec_push h) ha ((bind_ok hv).trans hw)

end Sys2Proof.Machine
end

section
/-! PROOFS. Reading with paging off changes no memory, and an operand resolves to the same bytes as long as segments and maps stay
(spec/20_memory.md R121, R140 to R146). -/

namespace Sys2Proof.Machine

variable {α β : Type} {s t : State}

/-! Reads. -/

/-- An access that with paging off leaves memory alone. -/
structure Reads (s t : State) : Prop where
  touches : Touches s t
  mem : s.pg = false → t.mem = s.mem

theorem reads_steady : Steady Reads where
  refl s := ⟨touches_steady.refl s, fun _ => rfl⟩
  trans _ _ _ h k := ⟨touches_steady.trans _ _ _ h.touches k.touches, fun hpg => (k.mem (h.touches.pg.trans hpg)).trans (h.mem hpg)⟩

theorem Keeps.reads {a : Act α} (ht : Keeps Touches a) (hm : Keeps StillFlat a) : Keeps Reads a :=
  ⟨fun _ _ _ e => ⟨ht.1 _ _ _ e, fun hpg => (hm.1 _ _ _ e hpg).mem⟩, fun _ _ _ e => ⟨ht.2 _ _ _ e, fun hpg => (hm.2 _ _ _ e hpg).mem⟩⟩

theorem resolveMem_reads (r : SegReg) (off : Word) (n : Nat) (write : Bool) : Keeps Reads (resolveMem r off n write) :=
  (resolveMem_touches ..).reads (stillFlat_resolves.resolvesMem ..)

theorem readSpan_reads (sp : Span) : Keeps Reads (readSpan sp) := (readSpan_touches sp).reads (stillFlat_resolves.readsSpan sp)

theorem memReadBits_reads (n : Nat) (r : SegReg) (off : Word) : Keeps Reads (memReadBits n r off) :=
  .bind reads_steady (resolveMem_reads ..) fun _ => .bind reads_steady (readSpan_reads _) fun _ => .pure reads_steady _

theorem readTop_reads (n : Nat) : Keeps Reads (readTop n) := .bind reads_steady (.look reads_steady _) fun _ => memReadBits_reads ..

theorem resolveRM_reads (w : Width) (write : Bool) (p : Pfx) (rm : RM) : Keeps Reads (resolveRM w write p rm) := by
  have st := reads_steady
  cases rm with
  | reg r => exact .pure st _
  | mem m => exact .bind st (.look st _) fun _ => .bind st (resolveMem_reads ..) fun _ => .pure st _

theorem readPlace_reads (w : Width) (pl : Place) : Keeps Reads (readPlace w pl) := by
  have st := reads_steady
  cases pl with
  | reg r => exact .look st _
  | mem sp => exact .bind st (readSpan_reads _) fun _ => .pure st _

theorem readRM_reads (w : Width) (p : Pfx) (rm : RM) : Keeps Reads (readRM w p rm) :=
  .bind reads_steady (resolveRM_reads ..) fun _ => readPlace_reads ..

theorem Src.get_reads (w : Width) (p : Pfx) (x : Src) : Keeps Reads (x.get w p) := by
  cases x with
  | reg r => exact .look reads_steady _
  | rm x => exact readRM_reads ..
  | imm v => exact .pure reads_steady _

theorem readFarPointer_reads (p : Pfx) (m : Mem) : Keeps Reads (readFarPointer p m) := by
  have st := reads_steady
  exact .bind st (.look st _) fun _ => .bind st (memReadBits_reads ..) fun _ => .bind st (memReadBits_reads ..) fun _ => .pure st _

theorem nearTarget_reads (osz : Size) (v : Word) : Keeps Reads (nearTarget osz v) :=
  .bind reads_steady (.look reads_steady _) fun _ => .ite (.stop reads_steady _) (.pure reads_steady _)

theorem bitByReg_reads (w : Width) (write : Bool) (p : Pfx) (m : Mem) (r : Reg) : Keeps Reads (bitByReg w write p (.mem m) r) := by
  have st := reads_steady
  exact .bind st (.look st _) fun _ => .bind st (.look st _) fun _ => .bind st (resolveMem_reads ..) fun _ => .pure st _

/-! Resolutions with paging off. -/

/-- With paging off, what goes on from a state goes on alike from one with the same segments and maps, and changes nothing. -/
def Settled (a : Act α) : Prop := ∀ s t : State, s.pg = false → Moves s t → ∀ v u, a t = .ok v u → a s = .ok v s ∧ u = t

theorem Settled.bind {a : Act α} {f : α → Act β} (ha : Settled a) (hf : ∀ v, Settled (f v)) : Settled (a >>= f) := by
  intro s t hpg h w u e
  obtain ⟨v, t', first, second⟩ := bind_eq_ok.1 e
  obtain ⟨first, unchanged⟩ := ha s t hpg h _ _ first
  rw [unchanged] at second
  obtain ⟨second, unchanged⟩ := hf v s t hpg h _ _ second
  exact ⟨(bind_ok first).trans second, unchanged⟩

theorem Settled.pure (v : α) : Settled (pure v : Act α) := fun _ _ _ _ _ _ e => by cases e; exact ⟨rfl, rfl⟩

theorem Settled.stop (e : Stop) : Settled (stop e : Act α) := fun _ _ _ _ _ _ => nofun

theorem Settled.look {f : State → α} (hf : ∀ s t, Moves s t → f t = f s) : Settled (look f) := fun s t _ h _ _ e => by
  cases e
  exact ⟨congrArg (EStateM.Result.ok · s) (hf s t h).symm, rfl⟩

theorem Settled.ite {c : Prop} [Decidable c] {a b : Act α} (ha : Settled a) (hb : Settled b) : Settled (if c then a else b) := by
  split
  · exact ha
  · exact hb

theorem translate_settled (la : Word) (write : Bool) : Settled (translate la write) := fun s t hpg h v u e => by
  have same : translateOff t la = translateOff s la := by
    unfold translateOff
    rw [h.fmap]
  rw [translate_off (h.pg.trans hpg), same] at e
  cases e
  exact ⟨translate_off hpg la write, rfl⟩

theorem resolveMem_settled (r : SegReg) (off : Word) (n : Nat) (write : Bool) : Settled (resolveMem r off n write) := by
  have seg {γ : Type} (f : SegCache → γ) : Settled (look fun s => f (s.seg r)) := .look fun _ _ h => congrArg f (h.seg r)
  have checked : Settled (segCheck r off n) := (seg id).bind fun _ => .ite (.stop _) (.ite (.pure _) (.ite (.stop _) (.stop _)))
  have lin (la : Word) : Settled (resolveLin la n write) :=
    .ite (.bind (translate_settled _ _) fun _ => .pure _)
      (.bind (translate_settled _ _) fun _ => .bind (translate_settled _ _) fun _ => .pure _)
  exact checked.bind fun _ => (seg SegCache.base).bind fun _ => lin _

end Sys2Proof.Machine
end

section
/-! PROOFS. With paging off, what stores to direct offsets, string elements, the stack and selected bits leave alone (spec/40_data_movement.md
R302, R308, R320; spec/43_bit_manipulation.md R461; spec/44_string.md R495; spec/46_control_transfer.md R551, R552). -/

namespace Sys2Proof.Machine

variable {α β : Type} {i : Instr} {s t : State} {b : Nat}

/-! A byte outside the stored ones. -/

/-- The byte is the same, and the history only grew. -/
structure Spares (b : Nat) (s t : State) : Prop where
  byte : memByte t.mem b = memByte s.mem b
  history : s.history <:+ t.history

theorem spares_calm (b : Nat) : Calm (Spares b) where
  steady := ⟨fun _ => ⟨rfl, List.suffix_refl _⟩, fun _ _ _ h k => ⟨k.byte.trans h.byte, h.history.trans k.history⟩⟩
  still _ _ h := ⟨by rw [h.mem], h.history⟩

theorem Reads.spares (h : Reads s t) (hpg : s.pg = false) : Spares b s t := ⟨by rw [h.mem hpg], h.touches.history⟩

theorem writeSpan_spares {whole sp : Span} (hb : b ∉ spanBytes whole) (h : spanBytes sp ⊆ spanBytes whole) (bs : List Byte) :
    Keeps (Spares b) (writeSpan sp bs) := (writeSpan_confined sp h bs).mono fun _ _ k => ⟨k.outside b hb, k.history⟩

theorem writable_spares {sp : Span} (hb : b ∉ spanBytes sp) : Writable (Spares b) (.mem sp) := writeSpan_spares hb (List.Subset.refl _)

/-- The byte is none of those a slot (a segment, an offset and a length) resolves to for a write. -/
def Misses (b : Nat) (s : State) (x : SegReg × Word × Nat) : Prop := ∀ sp u, resolveMem x.1 x.2.1 x.2.2 true s = .ok sp u → b ∉ spanBytes sp

/-- With paging off a slot stays where it is. -/
theorem Misses.moved {x : SegReg × Word × Nat} (h : Misses b s x) (hpg : s.pg = false) (hm : Moves s t) : Misses b t x := fun sp u e =>
  h sp s (resolveMem_settled _ _ _ _ s t hpg hm sp u e).1

/-- A sequence leaves a related state when its first part does and its second part does from there. -/
theorem Ends.seq {R : State → State → Prop} (hR : Steady R) {a : Act α} {f : α → Act β} (ha : Ends (R s) (a s))
    (hf : ∀ v t, a s = .ok v t → Ends (R t) (f v t)) : Ends (R s) ((a >>= f) s) := by
  rw [bind_apply]
  cases e : a s with
  | ok v t =>
    rw [e] at ha
    exact (hf v t e).mono fun _ h => hR.trans _ _ _ ha h
  | error => rwa [e] at ha

/-- With paging off a read spares every byte. -/
theorem Ends.afterRead (hpg : s.pg = false) {a : Act α} {f : α → Act β} (ha : Keeps Reads a)
    (hf : ∀ v t, a s = .ok v t → Reads s t → Ends (Spares b t) (f v t)) : Ends (Spares b s) ((a >>= f) s) :=
  .seq (spares_calm b).steady ((ha.ends s).mono fun _ h => h.spares hpg) fun v t e => hf v t e (ha.1 _ _ _ e)

/-- What comes after may do all that leaves memory alone. -/
theorem Ends.thenKeeps {a : Act α} {f : α → Act β} (ha : Ends (Spares b s) (a s)) (hf : ∀ v, Keeps (Spares b) (f v)) :
    Ends (Spares b s) ((a >>= f) s) := .seq (spares_calm b).steady ha fun v t _ => (hf v).ends t

/-- An instruction that delivers no event spares the byte when its body does, for a fault or a refusal keeps memory (R700). -/
theorem exec_spares {gen : CpuGen} {lockable : Bool} {body : Pfx → Act Unit} (e : exec i s = .next t) (hd : sameDeliveries s t)
    (hb : exec i s = perform gen lockable body s) (he : Ends (Spares b s) (body s.pfx s)) : memByte t.mem b = memByte s.mem b := by
  obtain ⟨u, spared, same⟩ := exec_ends hb he (fun _ h => h.history) e hd
  rw [same]
  exact spared.byte

theorem memWriteBits_spares {n k : Nat} {r : SegReg} {off : Word} (hpg : s.pg = false) (hk : n / 8 = k) (miss : Misses b s (r, off, k))
    (v : BitVec n) : Ends (Spares b s) (memWriteBits r off v s) := by
  subst hk
  exact .afterRead hpg (resolveMem_reads ..) fun sp t e _ => (writable_spares (miss sp t e) _).ends t

/-- A memory operand is written where its effective offset says. -/
theorem writeRM_mem (w : Width) (p : Pfx) (m : Mem) (v : BitVec w.bits) (s : State) :
    writeRM w p (.mem m) v s = memWriteBits (effSeg p m) (effOffset s m) v s := by
  unfold writeRM resolveRM memWriteBits
  rw [bits_eq_bytes]
  simp only [bind_apply, look_apply]
  cases resolveMem (effSeg p m) (effOffset s m) w.bytes true s with
  | ok | error => rfl

/-! The stack. -/

/-- The k-th slot of n bytes below the stack pointer (R302). -/
def stackSlot (s : State) (n k : Nat) : SegReg × Word × Nat := (.ss, stackWrap s.stackBig (s.stackTop - BitVec.ofNat 32 (k * n)), n)

theorem stackSlot_one (s : State) (n : Nat) : stackSlot s n 1 = (.ss, s.pushOffset n, n) := by
  unfold stackSlot State.pushOffset
  rw [one_mul]

/-- Differences modulo the stack's width may be cut at any time. -/
theorem stackWrap_sub (big : Bool) (x y : Word) : stackWrap big (stackWrap big x - y) = stackWrap big (x - y) := by
  cases big with
  | true => rfl
  | false =>
    apply BitVec.eq_of_toNat_eq
    show ((x &&& 0xFFFF#32) - y &&& 0xFFFF#32).toNat = (x - y &&& 0xFFFF#32).toNat
    simp only [toNat_and_low_half, BitVec.toNat_sub]
    omega

theorem stackWrap_wrapped (big : Bool) (x : Word) : stackWrap big (stackWrap big x) = stackWrap big x := by
  simpa using stackWrap_sub big x 0#32

/-- After a push the slots below are one further. -/
theorem stackSlot_pushed {n : Nat} (hm : Moves s t) (top : t.stackTop = s.pushOffset n) (k : Nat) : stackSlot t n k = stackSlot s n (k + 1) := by
  unfold stackSlot
  rw [top, hm.stackBig]
  unfold State.pushOffset
  rw [stackWrap_sub, BitVec.sub_sub, ← BitVec.ofNat_add, Nat.add_mul, one_mul, Nat.add_comm]

theorem Reads.stackSlot (h : Reads s t) (n k : Nat) : stackSlot t n k = stackSlot s n k := by
  unfold Machine.stackSlot
  rw [h.touches.stackBig, h.touches.stackTop]

/-- A read leaves the slots where they are. -/
theorem Misses.read {n k : Nat} (h : Misses b s (stackSlot s n k)) (hpg : s.pg = false) (read : Reads s t) : Misses b t (stackSlot t n k) := by
  rw [read.stackSlot]
  exact h.moved hpg read.touches.moves

/-- The action stores in the next slot of n bytes and moves the stack pointer there. -/
structure Pushes (n : Nat) (a : Act Unit) : Prop where
  spares : ∀ (s : State) (b : Nat), s.pg = false → Misses b s (stackSlot s n 1) → Ends (Spares b s) (a s)
  moved : ∀ s t, a s = .ok () t → Moves s t ∧ t.stackTop = s.pushOffset n

theorem moved_setStackTop {n : Nat} (h : Touches s t) :
    Moves s (t.setStackTop (s.pushOffset n)) ∧ (t.setStackTop (s.pushOffset n)).stackTop = s.pushOffset n := by
  refine ⟨moves_steady.trans _ _ _ h.moves (moves_setStackTop ..), ?_⟩
  rw [stackTop_setStackTop, h.stackBig]
  exact stackWrap_wrapped ..

theorem push_pushes {n k : Nat} (hk : n / 8 = k) (v : BitVec n) : Pushes k (push v) := by
  subst hk
  refine ⟨fun s b hpg miss => ?_, fun s t e => ?_⟩
  · rw [stackSlot_one] at miss
    exact (memWriteBits_spares hpg rfl miss v).thenKeeps fun _ => (spares_calm b).setsStackTop _
  · obtain ⟨_, u, store, done⟩ := bind_eq_ok.1 (show (memWriteBits .ss (s.pushOffset (n / 8)) v >>= _) s = .ok () t from e)
    cases done
    exact moved_setStackTop ((memWriteBits_touches ..).1 _ _ _ store)

theorem spanBytes_lowTwo (sp : Span) : spanBytes (lowTwo sp) ⊆ spanBytes sp := by
  match sp with
  | [] => exact List.Subset.refl _
  | [c] =>
    intro x hx
    simp only [lowTwo, spanBytes_cons, List.mem_append, mem_byteAddrs] at hx ⊢
    exact hx.imp_left fun ⟨k, hk, e⟩ => ⟨k, lt_of_lt_of_le hk (min_le_left ..), e⟩
  | c :: d :: sp =>
    intro x hx
    simp only [lowTwo, spanBytes_cons, List.mem_append] at hx ⊢
    exact hx.imp_right fun h => h.imp_right nofun

/-- A selector is pushed in a slot of opsize, of which it may leave the upper half (R551). -/
theorem pushSel_pushes (osz : Size) (v : Sel) : Pushes osz.bytes (pushSel osz v) := by
  cases osz with
  | w16 => exact push_pushes rfl v
  | w32 =>
    refine ⟨fun s b hpg miss => ?_, fun s t e => ?_⟩
    · rw [stackSlot_one] at miss
      have h := spares_calm b
      show Ends _ ((resolveMem .ss (s.pushOffset 4) 4 true >>= _) s)
      refine .afterRead hpg (resolveMem_reads ..) fun sp t e _ => Keeps.ends (h.seq h.draws fun zero => ?_) t
      have missed : b ∉ spanBytes sp := miss sp t e
      refine h.seq (.ite ?_ ?_) fun _ => h.setsStackTop _
      · exact writeSpan_spares missed (List.Subset.refl _) _
      · exact writeSpan_spares missed (spanBytes_lowTwo sp) _
    · obtain ⟨sp, t1, resolve, e⟩ := bind_eq_ok.1 (show (resolveMem .ss (s.pushOffset 4) 4 true >>= _) s = .ok () t from e)
      obtain ⟨zero, t2, drawn, e⟩ := bind_eq_ok.1 e
      obtain ⟨_, t3, store, done⟩ := bind_eq_ok.1 e
      cases done
      have stored : Keeps Touches (writeSelSlot sp v zero) := .ite (writeSpan_touches ..) (writeSpan_touches ..)
      refine moved_setStackTop (touches_steady.trans _ _ _ ((resolveMem_touches ..).1 _ _ _ resolve) ?_)
      exact touches_steady.trans _ _ _ (drawBit_touches.1 _ _ _ drawn) (stored.1 _ _ _ store)

/-- What comes after a push finds the slots one further. -/
theorem Pushes.followed {n : Nat} {a : Act Unit} {f : Unit → Act α} (h : Pushes n a) (hpg : s.pg = false) (miss : Misses b s (stackSlot s n 1))
    (hf : ∀ t, t.pg = false → (∀ k, Misses b s (stackSlot s n (k + 1)) → Misses b t (stackSlot t n k)) → Ends (Spares b t) (f () t)) :
    Ends (Spares b s) ((a >>= f) s) := by
  refine .seq (spares_calm b).steady (h.spares s b hpg miss) fun _ t e => ?_
  obtain ⟨moved, top⟩ := h.moved s t e
  refine hf t (moved.pg.trans hpg) fun k missed => ?_
  rw [stackSlot_pushed moved top]
  exact missed.moved hpg moved

/-- A push after a read. -/
theorem Keeps.thenPushes {n : Nat} {a : Act α} {f : α → Act Unit} (ha : Keeps Reads a) (h : ∀ v, Pushes n (f v)) (hpg : s.pg = false)
    (miss : Misses b s (stackSlot s n 1)) : Ends (Spares b s) ((a >>= f) s) :=
  .afterRead hpg ha fun v t _ read => (h v).spares t b (read.touches.pg.trans hpg) (miss.read hpg read)

/-- Pushes of several values store in as many slots. -/
theorem pushEach_spares {w : Width} (vs : List (BitVec w.bits)) (hpg : s.pg = false)
    (miss : ∀ k, 1 ≤ k → k ≤ vs.length → Misses b s (stackSlot s w.bytes k)) : Ends (Spares b s) (pushEach vs s) := by
  induction vs generalizing s with
  | nil => exact (spares_calm b).steady.refl s
  | cons v vs ih =>
    refine (push_pushes (bits_eq_bytes w) v).followed hpg (miss 1 le_rfl (Nat.succ_pos _)) fun t hpg' next => ih hpg' fun k first last => ?_
    exact next k (miss (k + 1) (by omega) (Nat.succ_le_succ last))

/-! The bodies. -/

/-- A near CALL past its target check stores the return offset alone (R561, R562). -/
theorem callTo_spares (osz : Size) (target : Word) (hpg : s.pg = false) (miss : Misses b s (stackSlot s osz.width.bytes 1)) :
    Ends (Spares b s) (callTo osz target s) :=
  .afterRead hpg (.look reads_steady State.eip) fun next _ e _ => by
    cases e
    exact ((push_pushes (bits_eq_bytes osz.width) _).spares s b hpg miss).thenKeeps fun _ => (spares_calm b).jumps _

/-- A near CALL of any target. -/
theorem call_spares {osz : Size} {target : Act Word} (ht : Keeps Reads target) (hpg : s.pg = false)
    (miss : Misses b s (stackSlot s osz.width.bytes 1)) : Ends (Spares b s) ((target >>= callTo osz) s) :=
  .afterRead hpg ht fun v _ _ read => callTo_spares osz v (read.touches.pg.trans hpg) (miss.read hpg read)

theorem pushFlags_spares (osz : Size) (hpg : s.pg = false) (miss : Misses b s (stackSlot s osz.width.bytes 1)) :
    Ends (Spares b s) (pushFlags osz s) := by
  cases osz with
  | w16 | w32 => exact (push_pushes rfl _).spares s b hpg miss

/-- A far CALL in real mode pushes CS and the return offset (R566, R567). -/
theorem farCall_real_spares {p : Pfx} {target : Act (Word × Sel)} (ht : Keeps Reads target) (hpg : s.pg = false) (hpe : s.pe = false)
    (miss : ∀ k, k = 1 ∨ k = 2 → Misses b s (stackSlot s p.osz.bytes k)) : Ends (Spares b s) (farCall p target s) := by
  refine .afterRead hpg ht fun v t _ read => ?_
  rw [bind_ok (look_apply _ t), read.touches.pe, hpe]
  have hpg := read.touches.pg.trans hpg
  refine .afterRead hpg (nearTarget_reads ..) fun _ u _ checked => ?_
  have read := reads_steady.trans _ _ _ read checked
  have hpg := checked.touches.pg.trans hpg
  have missed {k : Nat} (hk : k = 1 ∨ k = 2) : Misses b u (stackSlot u p.osz.bytes k) := (miss k hk).read ‹_› read
  rw [bind_ok (look_apply _ u), bind_ok (look_apply _ u)]
  refine (pushSel_pushes ..).followed hpg (missed (.inl rfl)) fun t' hpg' next => ?_
  refine .thenKeeps ?_ fun _ => (spares_calm b).farLoadReal ..
  exact (push_pushes ((bits_eq_bytes _).trans (width_bytes _)) _).spares t' b hpg' (next 1 (missed (.inr rfl)))

/-- A far CALL that PM_FAR_TRANSFER refuses stores nothing (R552). -/
theorem farCall_refused_spares {p : Pfx} {target : Act (Word × Sel)} (ht : Keeps Reads target) (hpg : s.pg = false) (hpe : s.pe = true)
    (refuses : s.cfg.pmFarTransfer = .refuse) : Ends (Spares b s) (farCall p target s) := by
  refine .afterRead hpg ht fun v t _ read => ?_
  rw [bind_ok (look_apply _ t), read.touches.pe, hpe]
  have refused : pmFarTransfer .call p.osz v.2 v.1 t = .refuse := by
    unfold pmFarTransfer
    rw [read.touches.cfg, refuses]
  show Ends _ (farTransferPm .call p.osz v.2 v.1 t)
  unfold farTransferPm
  rw [refused]
  exact (spares_calm b).steady.refl t

/-- The target of a far CALL is found by reads. -/
theorem farParts_reads {p : Pfx} {kind : FarKind} {target : Act (Word × Sel)} (h : farParts p i = some (kind, target)) : Keeps Reads target := by
  cases i with
  | jmpPtr | callPtr => cases h; exact .pure reads_steady _
  | jmpMemFar | callMemFar => cases h; exact readFarPointer_reads ..
  | _ => cases h

theorem storeMoffs_spares {w : Width} {p : Pfx} {off : Word} (hpg : s.pg = false) (miss : Misses b s (dataSeg p, off, w.bytes)) :
    Ends (Spares b s) (storeMoffs w p off s) := memWriteBits_spares hpg (bits_eq_bytes w) miss _

/-- MOVS and STOS store at the destination index they begin with (R495, R497, R499). -/
theorem element_spares {op : StringOp} {w : Width} {p : Pfx} (ho : op = .mov ∨ op = .sto) (hpg : s.pg = false)
    (miss : Misses b s (.es, addrReg p.asz .edi s, w.bytes)) : Ends (Spares b s) (op.element w p s) := by
  have dest (t : State) (read : Reads s t) (v : BitVec w.bits) : Ends (Spares b t) (writeDest w p v t) := by
    have at_t : Misses b t (.es, addrReg p.asz .edi t, w.bytes) := by
      rw [read.touches.addrReg]
      exact miss.moved hpg read.touches.moves
    exact memWriteBits_spares (read.touches.pg.trans hpg) (bits_eq_bytes w) at_t v
  have advances (r : Reg) : Keeps (Spares b) (update (advance w p r)) := (spares_calm b).updates fun _ => rfl
  rcases ho with rfl | rfl
  · refine .afterRead hpg (.bind reads_steady (.look reads_steady _) fun _ => memReadBits_reads ..) fun v t _ read => ?_
    exact (dest t read v).thenKeeps fun _ => (spares_calm b).seq (advances _) fun _ => advances _
  · exact (dest s (reads_steady.refl s) (s.gpr w .eax)).thenKeeps fun _ => advances _

/-- A repetition is at most one element. -/
theorem repeated_spares {p : Pfx} {stopNow : State → Bool} {a : Act Unit} (ha : Ends (Spares b s) (a s)) :
    Ends (Spares b s) (repeated p stopNow a s) := by
  have h := spares_calm b
  unfold repeated
  cases p.rep with
  | none => exact ha
  | repe | repne =>
    show Ends _ ((look (addrReg p.asz .ecx) >>= _) s)
    rw [bind_ok (look_apply _ s)]
    split
    · exact h.steady.refl s
    · exact ha.thenKeeps fun _ => h.seq (h.updates fun _ => rfl) fun _ => h.updates fun s => by split <;> rfl

/-- An effective offset depends on the general registers alone (R212 to R214). -/
theorem effOffset_of_regs (h : t.regs = s.regs) (m : Mem) : effOffset t m = effOffset s m := by
  have gpr32 : t.gpr32 = s.gpr32 := by funext r; rw [State.gpr32, h]; rfl
  have gpr16 : t.gpr16 = s.gpr16 := by funext r; rw [State.gpr16, h]; rfl
  cases m <;> simp only [effOffset, baseValue16, indexValue, gpr32, gpr16]

theorem regs_setStackTop (read : Touches s t) (v : Word) : (t.setStackTop v).regs = (s.setStackTop v).regs := by
  unfold State.setStackTop
  rw [read.stackBig]
  split
  · exact congrArg (RegFile.setW · .b32 .esp v) read.regs
  · exact congrArg (RegFile.setW · .b16 .esp (v.setWidth 16)) read.regs

/-- POP r/m writes its memory operand at the offset that the moved stack pointer gives it (R320). -/
theorem popMem_spares {w : Width} {p : Pfx} {m : Mem} (hpg : s.pg = false)
    (miss : Misses b s (effSeg p m, effOffset (s.setStackTop (s.stackTop + BitVec.ofNat 32 w.bytes)) m, w.bytes)) :
    Ends (Spares b s) (movRead (pop w.bits) (writeRM w p (.mem m)) s) := by
  have read_first : movRead (pop w.bits) (writeRM w p (.mem m)) s =
      (readTop w.bits >>= fun v => update (·.dropStack (BitVec.ofNat 32 (w.bits / 8))) >>= fun _ => writeRM w p (.mem m) v) s := by
    unfold movRead pop
    simp only [bind_assoc, pure_bind]
  rw [read_first]
  refine .afterRead hpg (readTop_reads _) fun v t _ read => ?_
  have dropped : t.dropStack (BitVec.ofNat 32 (w.bits / 8)) = t.setStackTop (s.stackTop + BitVec.ofNat 32 w.bytes) := by
    rw [State.dropStack, read.touches.stackTop, bits_eq_bytes]
  have moved := moves_steady.trans _ _ _ read.touches.moves (moves_setStackTop t (s.stackTop + BitVec.ofNat 32 w.bytes))
  refine .seq (spares_calm b).steady (((spares_calm b).setsStackTop _).ends t) fun _ u e => ?_
  cases e
  show Ends (Spares b (t.dropStack _)) (writeRM w p (.mem m) v (t.dropStack _))
  rw [dropped, writeRM_mem, effOffset_of_regs (regs_setStackTop read.touches _)]
  exact memWriteBits_spares (moved.pg.trans hpg) (bits_eq_bytes w) (miss.moved hpg moved) v

/-- A bit test by a register stores at the selected unit alone, if at all (R461, R464). -/
theorem bitByReg_spares {op : BitOp} {w : Width} {p : Pfx} {m : Mem} {r : Reg} (hpg : s.pg = false)
    (miss : Misses b s (effSeg p m, addrWrap p.asz (effOffset s m + bitDisplacement w (s.gpr w r)), w.bytes)) :
    Ends (Spares b s) (bitTest op w (bitTarget op w p (.mem m) (.inl r)) s) := by
  refine .afterRead hpg (bitByReg_reads ..) fun x t e _ => ?_
  have e : (resolveMem (effSeg p m) (addrWrap p.asz (effOffset s m + bitDisplacement w (s.gpr w r))) w.bytes op.writes >>= fun sp =>
      pure (.mem sp, ((s.gpr w r).toInt % w.bits).toNat)) s = .ok x t := e
  obtain ⟨sp, u, resolve, done⟩ := bind_eq_ok.1 e
  cases done
  refine Keeps.ends ((spares_calm b).testsBitOf (op := op) (w := w) (pl := .mem sp) _ fun writes => ?_) t
  exact writable_spares (miss sp t (writes ▸ resolve))

/-! The instructions. -/

/-- The instruction stores one slot of opsize on the stack. -/
def PushesOnce (i : Instr) : Prop :=
  (pushParts i).isSome = true ∨ (pushSegParts i).isSome = true ∨ i = .pushf ∨ (∃ rel, i = .callRelz rel) ∨ ∃ rm, i = .callRm rm

section

variable (hpg : s.pg = false) (e : exec i s = .next t) (hd : sameDeliveries s t)
include hpg e hd

theorem string_spares {op : StringOp} {w : Width} (hi : stringParts s.pfx i = some (op, w)) (ho : op = .mov ∨ op = .sto)
    (miss : Misses b s (.es, addrReg s.pfx.asz .edi s, w.bytes)) : memByte t.mem b = memByte s.mem b :=
  exec_spares e hd (exec_string hi) (repeated_spares (element_spares ho hpg miss))

theorem pushesOnce_spares (hi : PushesOnce i) (miss : Misses b s (stackSlot s s.pfx.osz.width.bytes 1)) : memByte t.mem b = memByte s.mem b := by
  rcases hi with hi | hi | rfl | ⟨rel, rfl⟩ | ⟨rm, rfl⟩
  · obtain ⟨src, hi⟩ := Option.isSome_iff_exists.1 hi
    exact exec_spares e hd (exec_push hi) ((Src.get_reads ..).thenPushes (push_pushes (bits_eq_bytes _)) hpg miss)
  · obtain ⟨r, hi⟩ := Option.isSome_iff_exists.1 hi
    have selector : Keeps Reads (look fun s => (s.seg r).sel) := .look reads_steady _
    rw [width_bytes] at miss
    exact exec_spares e hd (exec_pushSeg hi) (selector.thenPushes (pushSel_pushes _) hpg miss)
  · exact exec_spares e hd (exec_pushf_eq s) (pushFlags_spares _ hpg miss)
  · have target : Keeps Reads (nearTarget s.pfx.osz (s.eip + relSized s.pfx.osz rel)) := nearTarget_reads ..
    exact exec_spares e hd (exec_callRelz_eq s rel) (call_spares target hpg miss)
  · have target : Keeps Reads (readRM s.pfx.osz.width s.pfx rm >>= fun v => nearTarget s.pfx.osz (v.setWidth 32)) :=
      .bind reads_steady (readRM_reads ..) fun _ => nearTarget_reads ..
    have body := call_spares target hpg miss
    rw [bind_assoc] at body
    exact exec_spares e hd (exec_callRm_eq s rm) body

end

/-- Settles O60, one class of stores at a time: what a body stores lies in its slots, and before each store it has only read or stored in the
slots before. -/
theorem otherStoresFrame : Obligations.OtherStoresFrame := by
  intro i s t p w keeps slot hpg e hd
  have one {x : SegReg × Word × Nat} (h : ∀ b, Misses b s x → memByte t.mem b = memByte s.mem b) : keeps [x] := fun b miss =>
    h b (miss x (List.mem_singleton_self x))
  refine ⟨?_, ?_, ?_, ?_, fun hi => one fun b miss => ?_, ?_, fun hpe ⟨target, hi⟩ b miss => ?_, fun hpe refuses ⟨target, hi⟩ b _ => ?_, ?_,
    fun op m r hi => one fun b miss => ?_⟩
  · rintro off rfl
    exact one fun b miss => exec_spares e hd (exec_movMoffsAl_eq s off) (storeMoffs_spares hpg miss)
  · rintro off rfl
    exact one fun b miss => exec_spares e hd (exec_movMoffsEax_eq s off) (storeMoffs_spares hpg miss)
  · intro hi
    rcases List.mem_pair.1 hi with rfl | rfl
    · exact one fun b miss => string_spares hpg e hd (w := .b8) rfl (.inl rfl) miss
    · exact one fun b miss => string_spares hpg e hd (w := .b8) rfl (.inr rfl) miss
  · intro hi
    rcases List.mem_pair.1 hi with rfl | rfl
    · exact one fun b miss => string_spares hpg e hd rfl (.inl rfl) miss
    · exact one fun b miss => string_spares hpg e hd rfl (.inr rfl) miss
  · exact pushesOnce_spares hpg e hd hi miss
  · rintro rfl b miss
    have missed (k : Nat) (first : 1 ≤ k) (last : k ≤ 8) : Misses b s (stackSlot s w.bytes k) :=
      miss (stackSlot s w.bytes k) (by interval_cases k <;> simp [slot, stackSlot])
    exact exec_spares e hd (exec_pusha_eq s) (pushAll_eq w s ▸ pushEach_spares _ hpg missed)
  · have missed (k : Nat) (hk : k = 1 ∨ k = 2) : Misses b s (stackSlot s p.osz.bytes k) := by
      rw [← width_bytes]
      exact miss (stackSlot s w.bytes k) (by rcases hk with rfl | rfl <;> simp [slot, stackSlot])
    exact exec_spares e hd (exec_far hi) (farCall_real_spares (farParts_reads hi) hpg hpe missed)
  · exact exec_spares e hd (exec_far hi) (farCall_refused_spares (farParts_reads hi) hpg hpe refuses)
  · rintro m rfl u
    exact one fun b miss => exec_spares e hd (exec_popRm_eq s _) (popMem_spares hpg miss)
  · exact exec_spares e hd (exec_bit hi) (bitByReg_spares hpg miss)

end Sys2Proof.Machine
end

section
/-! PROOFS. The flags of sums and differences are facts about integers (spec/41_arithmetic.md R350 to R352). -/

namespace Sys2Proof.Machine

variable {n : Nat}

/-! Sums. -/

theorem carryIn_eq_setWidth (n : Nat) (c : Bool) : carryIn n c = (BitVec.ofBool c).setWidth n := by
  cases c with
  | false => exact (BitVec.setWidth_zero ..).symm
  | true => exact BitVec.eq_of_toNat_eq (by simp [carryIn])

theorem carryIn_eq_ofInt (n : Nat) (c : Bool) : carryIn n c = BitVec.ofInt n c.toNat := by
  cases c with
  | false | true => rfl

theorem toNat_addResult (a b : BitVec n) (c : Bool) : (addResult a b c).toNat = (a.toNat + b.toNat + c.toNat) % 2 ^ n := by
  cases c <;> simp [addResult, carryIn, BitVec.toNat_add]

theorem toInt_addResult (a b : BitVec n) (c : Bool) : (addResult a b c).toInt = (a.toInt + b.toInt + c.toNat).bmod (2 ^ n) := by
  rw [addResult, carryIn_eq_ofInt, BitVec.toInt_add, BitVec.toInt_add, BitVec.toInt_ofInt, Int.bmod_add_bmod, Int.add_bmod_bmod]

/-- AF of a sum is the carry of the low four bits (R351). -/
theorem flagsAdd_af (hn : 4 < n) (a b : BitVec n) (c : Bool) :
    (flagsAdd a b c).af = true ↔ 16 ≤ a.toNat % 16 + b.toNat % 16 + c.toNat := by
  have bit : (addResult a b c).getLsbD 4 = (a.getLsbD 4 ^^ (b.getLsbD 4 ^^ BitVec.carry 4 a b c)) := by
    rw [addResult, carryIn_eq_setWidth, BitVec.getLsbD_add_add_bool hn]
  have carried : (flagsAdd a b c).af = BitVec.carry 4 a b c := by
    simp only [flagsAdd, BitVec.getLsbD_xor, bit]
    cases a.getLsbD 4 <;> cases b.getLsbD 4 <;> simp
  rw [carried, BitVec.carry, decide_eq_true_eq]

/-- An integer is the value of n signed bits. -/
abbrev FitsSigned (n : Nat) (x : Int) : Prop := -(2 ^ (n - 1) : Int) ≤ x ∧ x < 2 ^ (n - 1)

/-- A value within twice the range is one modulus off where it leaves the range. -/
theorem bmod_of_within_twice {m : Nat} {z : Int} (low : -m ≤ z) (high : z < m) :
    z.bmod m = if 2 * z < -m then z + m else if m ≤ 2 * z then z - m else z := by
  split_ifs
  · rw [← Int.add_bmod_right, Int.bmod_eq_of_le_mul_two] <;> omega
  · rw [← Int.sub_bmod_right, Int.bmod_eq_of_le_mul_two] <;> omega
  · rw [Int.bmod_eq_of_le_mul_two] <;> omega

/-- OF of a sum says that the signed sum does not fit (R351). -/
theorem flagsAdd_of (hn : 0 < n) (a b : BitVec n) (c : Bool) :
    (flagsAdd a b c).of = true ↔ ¬FitsSigned n (a.toInt + b.toInt + c.toNat) := by
  have half : (2 ^ n : Int) = 2 * 2 ^ (n - 1) := (mul_pow_sub_one hn.ne' 2).symm
  have carry : c.toNat ≤ 1 := c.toNat_le
  have a_low := a.le_toInt
  have a_high := a.toInt_lt
  have b_low := b.le_toInt
  have b_high := b.toInt_lt
  have sum := toInt_addResult a b c
  rw [bmod_of_within_twice (by push_cast; omega) (by push_cast; omega)] at sum
  push_cast at sum
  simp only [flagsAdd, BitVec.msb_eq_toInt, Bool.and_eq_true, beq_iff_eq, bne_iff_ne, ne_eq, decide_eq_decide]
  omega

/-! Differences. -/

/-- A difference is the sum with the complement, and a borrow is a carry that is missing. -/
theorem subResult_eq_addResult (a b : BitVec n) (c : Bool) : subResult a b c = addResult a (~~~b) (!c) := by
  simp only [subResult, addResult, BitVec.not_eq_neg_add, BitVec.sub_eq_add_neg, BitVec.add_assoc]
  cases c with
  | false | true => simp [carryIn]

theorem toInt_complement (hn : 0 < n) (b : BitVec n) : (~~~b).toInt = -b.toInt - 1 := by
  have half : 2 ^ n = 2 * 2 ^ (n - 1) := (mul_pow_sub_one hn.ne' 2).symm
  have high := b.isLt
  rw [BitVec.toInt_eq_toNat_cond, BitVec.toInt_eq_toNat_cond, BitVec.toNat_not]
  omega

theorem toNat_not_carry (c : Bool) : ((!c).toNat : Int) = 1 - c.toNat := by
  cases c with
  | false | true => rfl

theorem signedSum_complement (hn : 0 < n) (a b : BitVec n) (c : Bool) :
    a.toInt + (~~~b).toInt + (!c).toNat = a.toInt - b.toInt - c.toNat := by
  rw [toInt_complement hn, toNat_not_carry]
  ring

theorem toInt_subResult (hn : 0 < n) (a b : BitVec n) (c : Bool) :
    (subResult a b c).toInt = (a.toInt - b.toInt - c.toNat).bmod (2 ^ n) := by
  rw [subResult_eq_addResult, toInt_addResult, signedSum_complement hn]

/-- OF of a difference says that the signed difference does not fit (R352). -/
theorem flagsSub_of (hn : 0 < n) (a b : BitVec n) (c : Bool) :
    (flagsSub a b c).of = true ↔ ¬FitsSigned n (a.toInt - b.toInt - c.toNat) := by
  have complement : (flagsSub a b c).of = (flagsAdd a (~~~b) (!c)).of := by
    simp only [flagsSub, flagsAdd, subResult_eq_addResult, BitVec.msb_not, hn, decide_true, Bool.true_and]
    cases a.msb <;> cases b.msb <;> rfl
  rw [complement, flagsAdd_of hn, signedSum_complement hn]

/-- AF of a difference is the borrow of the low four bits (R352). -/
theorem flagsSub_af (hn : 4 < n) (a b : BitVec n) (c : Bool) :
    (flagsSub a b c).af = true ↔ a.toNat % 16 < b.toNat % 16 + c.toNat := by
  have complement : (flagsSub a b c).af = !(flagsAdd a (~~~b) (!c)).af := by
    simp [flagsSub, flagsAdd, subResult_eq_addResult, hn]
  have low : (~~~b).toNat % 16 = 15 - b.toNat % 16 := by
    have blocks : 2 ^ n = 16 * 2 ^ (n - 4) := (pow_mul_pow_sub 2 hn.le).symm
    have high := b.isLt
    rw [BitVec.toNat_not]
    omega
  have borrow := toNat_not_carry c
  rw [complement, Bool.not_eq_true', ← Bool.not_eq_true, flagsAdd_af hn, low]
  omega

/-! Flags of a result. -/

/-- The exclusive or of bits says whether an odd number of them is set. -/
theorem foldr_xor_eq_odd {α : Type} (p : α → Bool) (l : List α) : l.foldr (fun k b => p k ^^ b) false = decide (l.countP p % 2 = 1) := by
  induction l with
  | nil => rfl
  | cons k l ih =>
    rw [List.foldr_cons, List.countP_cons, ih]
    cases p k with
    | false => simp
    | true =>
      have flips : (l.countP p + 1) % 2 = 1 ↔ ¬l.countP p % 2 = 1 := by omega
      simp only [if_true, flips, decide_not, Bool.true_xor]

/-- PF says that the low eight bits have an even number of ones, at every width (R350). -/
theorem parity_iff (r : BitVec n) : parity r = true ↔ ((List.range 8).countP fun k => r.getLsbD k) % 2 = 0 := by
  have odd : parity r = !(List.range 8).foldr (fun k b => r.getLsbD k ^^ b) false := by
    simp [parity, List.range, List.range.loop]
  rw [odd, foldr_xor_eq_odd, Bool.not_eq_true', decide_eq_false_iff_not]
  exact Nat.mod_two_ne_one

/-- SF says that the result is negative (R350). -/
theorem sign_iff (r : BitVec n) : r.msb = true ↔ r.toInt < 0 := by rw [BitVec.msb_eq_toInt, decide_eq_true_eq]

theorem four_lt_bits (w : Width) : 4 < w.bits := by cases w <;> decide

/-- Settles O27: a difference is a sum with the complement, so each flag is shown of a sum and carried over. -/
theorem addAndSubFlagsAreIntegerFacts : Obligations.AddAndSubFlagsAreIntegerFacts := by
  intro w a b c inRange common sum diff
  have four := four_lt_bits w
  have pos : 0 < w.bits := Nat.zero_lt_of_lt four
  have zero (r : BitVec w.bits) : (r == 0#w.bits) = true ↔ r = 0#w.bits := beq_iff_eq
  refine ⟨⟨toNat_addResult a b c, ?_, decide_eq_true_iff, flagsAdd_of pos a b c, flagsAdd_af four a b c⟩,
    toInt_subResult pos a b c, ?_, decide_eq_true_iff, flagsSub_of pos a b c, flagsSub_af four a b c⟩
  · exact ⟨zero sum, sign_iff sum, rfl, parity_iff sum⟩
  · exact ⟨zero diff, sign_iff diff, rfl, parity_iff diff⟩

end Sys2Proof.Machine
end

section
/-! PROOFS. ADD to CMP, TEST, INC, DEC, NOT and NEG complete when their operands can be accessed (spec/41_arithmetic.md R354 to R367). -/

namespace Sys2Proof.Machine

variable {n : Nat} {i : Instr} {s s1 s2 s3 s4 : State} {w : Width} {p : Pfx} {rm : RM} {pl : Place}

/-! ADD to CMP and TEST. -/

theorem addResult_false (a b : BitVec n) : addResult a b false = a + b := BitVec.add_zero _

theorem subResult_false (a b : BitVec n) : subResult a b false = a - b := BitVec.sub_zero _

theorem drawIf_ok (c : Bool) (s : State) : ∃ b : Bool, drawIf c s = .ok b (s.drawn c.toNat) := by
  cases c with
  | false => exact ⟨false, rfl⟩
  | true => exact drawBit_ok s

/-- An ALU operation takes CF from before it, and draws AF where it is undefined (R354 to R362). -/
theorem alu_ok {op : AluOp} {src : Act (BitVec w.bits)} {a b : BitVec w.bits} (hsrc : Keeps Touches src)
    (hr : resolveRM w op.writes p rm s = .ok pl s1) (ha : readPlace w pl s1 = .ok a s2) (hb : src s2 = .ok b s3)
    (hw : onlyIf op.writes (writePlace w pl (aluResult op a b (s.flag .cf))) s3 = .ok () s4) :
    ∃ af : Bool, alu op w p rm src s = .ok () ((s4.drawn op.isLogic.toNat).setStatus (aluStatus op a b (s.flag .cf) af)) := by
  have cf : s3.flag .cf = s.flag .cf :=
    ((hsrc.1 _ _ _ hb).flag _).trans <| (((readPlace_touches ..).1 _ _ _ ha).flag _).trans (((resolveRM_touches ..).1 _ _ _ hr).flag _)
  obtain ⟨af, drawn⟩ := drawIf_ok op.isLogic s4
  refine ⟨af, ?_⟩
  unfold alu
  rw [bind_ok hr, bind_ok ha, bind_ok hb, bind_ok (look_apply _ s3), cf, bind_ok hw, bind_ok drawn]
  rfl

/-- TEST draws AF (R363). -/
theorem test_ok {src : Act (BitVec w.bits)} {a b : BitVec w.bits} (ha : readRM w p rm s = .ok a s1) (hb : src s1 = .ok b s2) :
    ∃ af : Bool, test w p rm src s = .ok () ((s2.drawn 1).setStatus (flagsLogic (a &&& b) af)) := by
  obtain ⟨af, drawn⟩ := drawBit_ok s2
  refine ⟨af, ?_⟩
  unfold test
  rw [bind_ok ha, bind_ok hb, bind_ok drawn]
  rfl

/-- Settles O30: what each operation writes and the flags it sets, from the one body they share. -/
theorem aluCompletes : Obligations.AluCompletes := by
  refine ⟨fun i s s1 s2 s3 s4 x pl a b h allowed hr ha hb => ?_, fun i s s1 s2 w dst src a b h allowed ha hb => ?_⟩
  · have completes (s4 : State) (hw : onlyIf x.op.writes (writePlace x.w pl (aluResult x.op a b (s.flag .cf))) s3 = .ok () s4) :
        ∃ af : Bool, exec i s = .next ((s4.drawn x.op.isLogic.toNat).setStatus (aluStatus x.op a b (s.flag .cf) af)) :=
      (alu_ok (Src.get_touches ..) hr ha hb hw).imp fun af body => exec_completes (exec_alu h) allowed body
    intro c done drawn
    obtain ⟨op, w, dst, src⟩ := x
    cases op with
    | add => exact fun hw => (completes s4 ((congrArg (writePlace w pl · s3) (addResult_false a b)).trans hw)).elim fun _ e => e
    | sub => exact fun hw => (completes s4 ((congrArg (writePlace w pl · s3) (subResult_false a b)).trans hw)).elim fun _ e => e
    | adc | sbb => exact fun hw => (completes s4 hw).elim fun _ e => e
    | cmp => exact (completes s3 rfl).elim fun _ e => e
    | and | or | xor => exact completes s4
  · obtain ⟨af, body⟩ := test_ok ha hb
    exact ⟨af, exec_completes (exec_test h) allowed body⟩

/-! INC, DEC, NOT and NEG. -/

/-- The four operations read, change and write their operand (R364 to R367). -/
theorem unaryBody_eq (op : UnaryOp) (w : Width) (p : Pfx) (rm : RM) : unaryBody op w p rm = modify w p rm op.result op.status := by
  cases op with
  | inc => exact congrArg (modify w p rm · (UnaryOp.status .inc)) (funext fun a => addResult_false a 1#w.bits)
  | dec => exact congrArg (modify w p rm · (UnaryOp.status .dec)) (funext fun a => subResult_false a 1#w.bits)
  | not => rfl
  | neg => exact congrArg (modify w p rm · (UnaryOp.status .neg)) (funext fun a => (subResult_false 0#w.bits a).trans (BitVec.zero_sub a))

theorem modify_ok {f : BitVec w.bits → BitVec w.bits} {st : Status → BitVec w.bits → Status} {a : BitVec w.bits}
    (hr : resolveRM w true p rm s = .ok pl s1) (ha : readPlace w pl s1 = .ok a s2) (hw : writePlace w pl (f a) s2 = .ok () s3) :
    modify w p rm f st s = .ok () (s3.setStatus (st s.status a)) := by
  have status : s3.status = s.status :=
    ((writePlace_moves ..).1 _ _ _ hw).status.trans <| ((readPlace_touches ..).1 _ _ _ ha).status.trans ((resolveRM_touches ..).1 _ _ _ hr).status
  unfold modify
  rw [bind_ok hr, bind_ok ha, bind_ok hw, ← status]
  rfl

/-- Settles O31: the four operations are one body. -/
theorem unaryCompletes : Obligations.UnaryCompletes := by
  intro i s s1 s2 s3 op w rm pl a h allowed hr ha hw
  exact exec_completes (exec_unary h) allowed (unaryBody_eq op w s.pfx rm ▸ modify_ok hr ha hw)

end Sys2Proof.Machine
end

section
/-! PROOFS. MUL, IMUL, DIV and IDIV give the exact product, quotient and remainder (spec/41_arithmetic.md R368 to R373; spec/60_exceptions.md
R700, R701). -/

namespace Sys2Proof.Machine

variable {n : Nat} {i : Instr} {s s1 : State} {w : Width} {p : Pfx} {rm : RM}

/-! Halves of a product. -/

theorem natCast_toNat_ofInt (n : Nat) (z : Int) : ((BitVec.ofInt n z).toNat : Int) = z % 2 ^ n := by
  rw [BitVec.toNat_ofInt, Int.toNat_of_nonneg (Int.emod_nonneg _ (by positivity))]
  push_cast
  rfl

/-- The low half of a product is the product modulo 2^n. -/
theorem lowHalf_ofInt (z : Int) : lowHalf (BitVec.ofInt (n + n) z) = BitVec.ofInt n z := by
  apply BitVec.eq_of_toNat_eq
  zify
  rw [lowHalf, BitVec.toNat_setWidth]
  push_cast
  rw [natCast_toNat_ofInt, natCast_toNat_ofInt, Int.emod_emod_of_dvd z (pow_dvd_pow 2 (Nat.le_add_left n n))]

/-- The high half of a product. -/
theorem highHalf_ofInt (z : Int) : highHalf (BitVec.ofInt (n + n) z) = BitVec.ofInt n (z / 2 ^ n) := by
  apply BitVec.eq_of_toNat_eq
  zify
  rw [highHalf, BitVec.extractLsb'_toNat, Nat.shiftRight_eq_div_pow]
  push_cast
  rw [natCast_toNat_ofInt, natCast_toNat_ofInt, pow_add, Int.emod_def z, mul_assoc,
    Int.sub_mul_ediv_left _ _ (by positivity), Int.sub_mul_emod_self_left]

/-! MUL and IMUL. -/

theorem imulOverflows_iff (a b : BitVec n) : imulOverflows a b = true ↔ a.toInt * b.toInt ≠ (a * b).toInt := bne_iff_ne

theorem ofInt_signedProduct (a b : BitVec n) : BitVec.ofInt n (a.toInt * b.toInt) = a * b := by
  rw [BitVec.ofInt_mul, BitVec.ofInt_toInt, BitVec.ofInt_toInt]

/-- A multiply draws the six flags and then sets CF and OF alike (R368 to R371). -/
theorem mulFlags_ok (b : Bool) (s : State) : ∃ st : Status, st.cf = b ∧ st.of = b ∧ mulFlags b s = .ok () ((s.drawn 6).setStatus st) := by
  obtain ⟨d, drawn⟩ := drawStatus_ok s
  exact ⟨{ d with cf := b, of := b }, rfl, rfl, bind_ok drawn⟩

/-- MUL writes both halves of the exact product (R368). -/
theorem mul_eq {a : BitVec w.bits} (ha : readRM w p rm s = .ok a s1) :
    let product : Int := (s.gpr w .eax).toNat * a.toNat
    let hi := BitVec.ofInt w.bits (product / 2 ^ w.bits)
    mul w p rm s = mulFlags (hi != 0#w.bits) (setAccPair w hi (BitVec.ofInt w.bits product) s1) := by
  intro product hi
  have acc := ((readRM_touches ..).1 _ _ _ ha).gpr w .eax
  have exact_product : mulProduct (s.gpr w .eax) a = BitVec.ofInt (w.bits + w.bits) product := rfl
  unfold mul
  rw [bind_ok ha, bind_ok (readReg_apply w .eax s1), acc, exact_product, lowHalf_ofInt, highHalf_ofInt]
  rfl

/-- IMUL with one operand writes both halves of the exact product (R369). -/
theorem imul_eq {a : BitVec w.bits} (ha : readRM w p rm s = .ok a s1) :
    let product := (s.gpr w .eax).toInt * a.toInt
    let hi := BitVec.ofInt w.bits (product / 2 ^ w.bits)
    imul w p rm s = mulFlags (imulOverflows (s.gpr w .eax) a) (setAccPair w hi (BitVec.ofInt w.bits product) s1) := by
  intro product hi
  have acc := ((readRM_touches ..).1 _ _ _ ha).gpr w .eax
  unfold imul imulProduct
  rw [bind_ok ha, bind_ok (readReg_apply w .eax s1), acc, lowHalf_ofInt, highHalf_ofInt]
  rfl

/-- Settles O32: each multiply writes its product and leaves the flags to `mulFlags`. -/
theorem multiplyCompletes : Obligations.MultiplyCompletes := by
  refine ⟨fun i s s1 signed w rm a h allowed ha => ?_, fun i s s1 s2 w r x y a b h allowed ha hb => ?_⟩
  · intro acc product lo hi big
    cases signed with
    | true =>
      obtain ⟨st, cf, of, flags⟩ := mulFlags_ok (imulOverflows acc a) (setAccPair w hi lo s1)
      have overflows : imulOverflows acc a = true ↔ product ≠ lo.toInt := by
        rw [imulOverflows_iff, ← ofInt_signedProduct]
        rfl
      exact ⟨st, cf ▸ overflows, of.trans cf.symm, exec_completes (exec_mul h) allowed ((imul_eq ha).trans flags)⟩
    | false =>
      obtain ⟨st, cf, of, flags⟩ := mulFlags_ok (hi != 0#w.bits) (setAccPair w hi lo s1)
      exact ⟨st, cf ▸ bne_iff_ne, of.trans cf.symm, exec_completes (exec_mul h) allowed ((mul_eq ha).trans flags)⟩
  · obtain ⟨st, cf, of, flags⟩ := mulFlags_ok (imulOverflows a b) (s2.setGpr w r (a * b))
    refine ⟨st, cf ▸ imulOverflows_iff a b, of.trans cf.symm, exec_completes (exec_imul h) allowed ?_⟩
    rw [ofInt_signedProduct]
    exact (bind_ok ha).trans <| (bind_ok hb).trans flags

/-! DIV and IDIV. -/

/-- DIV gives quotient and remainder exactly where the divisor is not 0 and the quotient fits (R372). -/
theorem divide_eq (x : BitVec (n + n)) (d : BitVec n) :
    divide n x d = if (d.toNat : Int) ≠ 0 ∧ (x.toNat : Int).tdiv d.toNat < 2 ^ n then
      some (BitVec.ofInt n ((x.toNat : Int).tdiv d.toNat), BitVec.ofInt n ((x.toNat : Int).tmod d.toNat)) else none := by
  have zero : d = 0#n ↔ (d.toNat : Int) = 0 := by rw [← BitVec.toNat_inj]; simp
  have small : x.toNat / d.toNat < 2 ^ n ↔ (x.toNat : Int).tdiv d.toNat < 2 ^ n := by rw [← Int.ofNat_tdiv]; norm_cast
  rw [ite_and, ite_not, ← if_congr zero rfl rfl, ← if_congr small rfl rfl]
  rfl

/-- IDIV gives the quotient, truncated toward zero, and the remainder exactly where the divisor is not 0 and the quotient fits (R373). -/
theorem divideSigned_eq (x : BitVec (n + n)) (d : BitVec n) :
    divideSigned n x d = if d.toInt ≠ 0 ∧ FitsSigned n (x.toInt.tdiv d.toInt) then
      some (BitVec.ofInt n (x.toInt.tdiv d.toInt), BitVec.ofInt n (x.toInt.tmod d.toInt)) else none := by
  have zero : d = 0#n ↔ d.toInt = 0 := by rw [← BitVec.toInt_inj]; simp
  have outside (q : Int) : q < -(2 ^ (n - 1) : Int) ∨ (2 ^ (n - 1) : Int) - 1 < q ↔ ¬FitsSigned n q := by omega
  rw [ite_and, ite_not, ← if_congr zero rfl rfl, ← ite_not (FitsSigned n _), ← if_congr (outside _) rfl rfl, Int.tmod_def, mul_comm d.toInt]
  rfl

section

variable {f : BitVec (w.bits + w.bits) → BitVec w.bits → Option (BitVec w.bits × BitVec w.bits)} {d q m : BitVec w.bits}

theorem divideBy_ok (hd : readRM w p rm s = .ok d s1) (hf : f (accPair w s) d = some (q, m)) :
    ∃ st : Status, divideBy w p rm f s = .ok () (((setAccPair w m q s1).drawn 6).setStatus st) := by
  obtain ⟨st, drawn⟩ := drawStatus_ok (setAccPair w m q s1)
  refine ⟨st, ?_⟩
  unfold divideBy
  rw [bind_ok hd, bind_ok (look_apply _ s1), ((readRM_touches ..).1 _ _ _ hd).accPair, hf]
  exact (bind_ok (update_apply _ s1)).trans (bind_ok drawn)

theorem divideBy_traps (hd : readRM w p rm s = .ok d s1) (hf : f (accPair w s) d = none) :
    divideBy w p rm f s = .error (.fault 0#8 none) s1 := by
  unfold divideBy
  rw [bind_ok hd, bind_ok (look_apply _ s1), ((readRM_touches ..).1 _ _ _ hd).accPair, hf]
  rfl

/-- A division completes where its function gives a quotient, and otherwise raises #DE from the registers it began with (R372, R373, R700). -/
theorem exec_divideBy {c : Prop} [Decidable c] (e : exec i s = perform .g386 false (fun _ => divideBy w s.pfx rm f) s)
    (allowed : s.allows .g386 false) (hd : readRM w s.pfx rm s = .ok d s1) (hf : f (accPair w s) d = if c then some (q, m) else none) :
    (c → ∃ st : Status, exec i s = .next (((setAccPair w m q s1).drawn 6).setStatus st)) ∧
      (¬c → exec i s = .next (deliver 0#8 none .fault s.eipStart (rollback s s1))) :=
  ⟨fun h => (divideBy_ok hd (hf.trans (if_pos h))).imp fun _ body => exec_completes e allowed body,
    fun h => exec_faults e allowed (divideBy_traps hd (hf.trans (if_neg h)))⟩

end

/-- Settles O33: each division is `divideBy` of a function that gives a quotient exactly where one fits. -/
theorem divideCompletesOrTraps : Obligations.DivideCompletesOrTraps := by
  intro i s s1 signed w rm d h allowed hd both num den q fits
  have e := exec_div h
  have outside (c : Prop) (trap : den = 0 ∨ ¬c) : ¬(den ≠ 0 ∧ c) := not_and_or.2 (trap.imp_left not_not.2)
  cases signed with
  | true =>
    obtain ⟨completes, traps⟩ := exec_divideBy e allowed hd (divideSigned_eq _ _)
    exact ⟨completes, fun trap => traps (outside _ trap)⟩
  | false =>
    obtain ⟨completes, traps⟩ := exec_divideBy e allowed hd (divide_eq _ _)
    exact ⟨completes, fun trap => traps (outside _ trap)⟩

end Sys2Proof.Machine
end

section
/-! PROOFS. The results of the shifts and rotates are facts about integers and bit positions (spec/42_shift_rotate.md R421 to R430). -/

namespace Sys2Proof.Machine

variable {n : Nat}

/-! Rotates. -/

/-- A rotate left moves bit i to i + c, modulo the width. -/
theorem getLsbD_rotateLeft_add (a : BitVec n) (c : Nat) {i : Nat} (hi : i < n) :
    (a.rotateLeft (c % n)).getLsbD ((i + c) % n) = a.getLsbD i := by
  have pos : 0 < n := Nat.zero_lt_of_lt hi
  have hk : c % n < n := Nat.mod_lt c pos
  rw [BitVec.getLsbD_rotateLeft_of_le hk, Nat.add_mod_eq_ite, Nat.mod_eq_of_lt hi]
  by_cases wraps : n ≤ i + c % n
  · have source : n - c % n + (i + c % n - n) = i := by omega
    have low : i + c % n - n < c % n := by omega
    simp [wraps, low, source]
  · simp [wraps, not_le.1 wraps]

/-- A rotate right takes bit i from i + c, modulo the width. -/
theorem getLsbD_rotateRight_eq (a : BitVec n) (c : Nat) {i : Nat} (hi : i < n) :
    (a.rotateRight (c % n)).getLsbD i = a.getLsbD ((i + c) % n) := by
  have pos : 0 < n := Nat.zero_lt_of_lt hi
  have hk : c % n < n := Nat.mod_lt c pos
  rw [BitVec.getLsbD_rotateRight, Nat.mod_mod, Nat.add_mod_eq_ite, Nat.mod_eq_of_lt hi]
  by_cases wraps : n ≤ i + c % n
  · have source : i - (n - c % n) = i + c % n - n := by omega
    have high : ¬i < n - c % n := by omega
    simp [wraps, high, hi, source]
  · have low : i < n - c % n := by omega
    simp [wraps, low, add_comm]

/-! Rotates through carry. -/

/-- The n + 1 bits of a rotate through carry: its result with CF on top (R426, R427). -/
theorem bits_under_carry (t : BitVec (n + 1)) {k : Nat} (hk : k ≤ n) :
    (if k = n then some t.msb = some true else (t.setWidth n).getLsbD k = true) ↔ t.getLsbD k = true := by
  by_cases top : k = n
  · rw [if_pos top, top, BitVec.msb_eq_getLsbD_last, Option.some_inj]
    rfl
  · rw [if_neg top, BitVec.getLsbD_setWidth, decide_eq_true (Nat.lt_of_le_of_ne hk top), Bool.true_and]

theorem getLsbD_cons_iff (cf : Bool) (a : BitVec n) (k : Nat) :
    (BitVec.cons cf a).getLsbD k = true ↔ if k = n then cf = true else a.getLsbD k = true := by
  rw [BitVec.getLsbD_cons]
  split_ifs <;> rfl

theorem rclOut_bits (a : BitVec n) (cf : Bool) (c : Nat) {i : Nat} (hi : i ≤ n) :
    (if (i + c) % (n + 1) = n then (rclOut a cf c).cf = some true else (rclOut a cf c).r.getLsbD ((i + c) % (n + 1)) = true) ↔
      if i = n then cf = true else a.getLsbD i = true := by
  have target : (i + c) % (n + 1) ≤ n := Nat.le_of_lt_succ (Nat.mod_lt _ n.succ_pos)
  refine (bits_under_carry _ target).trans ?_
  rw [getLsbD_rotateLeft_add _ c (Nat.lt_succ_of_le hi), getLsbD_cons_iff]

theorem rcrOut_bits (a : BitVec n) (cf : Bool) (c : Nat) {i : Nat} (hi : i ≤ n) :
    (if i = n then (rcrOut a cf c).cf = some true else (rcrOut a cf c).r.getLsbD i = true) ↔
      if (i + c) % (n + 1) = n then cf = true else a.getLsbD ((i + c) % (n + 1)) = true := by
  refine (bits_under_carry _ hi).trans ?_
  rw [getLsbD_rotateRight_eq _ c (Nat.lt_succ_of_le hi), getLsbD_cons_iff]

/-- An RCL by 1 carries out the operand's top bit (R426). -/
theorem rclOut_carry_one (hn : 0 < n) (a : BitVec n) (cf : Bool) : (rclOut a cf 1).cf = some (a.getLsbD (n - 1)) := by
  have moved := getLsbD_rotateLeft_add (BitVec.cons cf a) 1 (i := n - 1) (by omega)
  have below : n - 1 ≠ n := by omega
  rw [Nat.sub_add_cancel hn, Nat.mod_eq_of_lt n.lt_succ_self, BitVec.getLsbD_cons, if_neg below] at moved
  rw [← moved]
  exact congrArg some (BitVec.msb_eq_getLsbD_last _)

theorem rclOut_of1 (hn : 0 < n) (a : BitVec n) (cf : Bool) :
    (rclOut a cf 1).of1 = ((rclOut a cf 1).r.getLsbD (n - 1) ^^ a.getLsbD (n - 1)) := by
  rw [← BitVec.msb_eq_getLsbD_last (rclOut a cf 1).r, ← Option.some.inj (rclOut_carry_one hn a cf)]
  rfl

/-! Shifts. -/

theorem toNat_shlOut (a : BitVec n) (c : Nat) : (shlOut a c).r.toNat = a.toNat * 2 ^ c % 2 ^ n := by
  rw [← Nat.shiftLeft_eq]
  exact BitVec.toNat_shiftLeft

theorem toNat_shrOut (a : BitVec n) (c : Nat) : (shrOut a c).r.toNat = a.toNat / 2 ^ c := by
  rw [← Nat.shiftRight_eq_div_pow]
  exact BitVec.toNat_ushiftRight a c

theorem toInt_sarOut (a : BitVec n) (c : Nat) : (sarOut a c).r.toInt = a.toInt / 2 ^ c := by
  have shifted : (sarOut a c).r.toInt = a.toInt >>> c := BitVec.toInt_sshiftRight
  rw [shifted, Int.shiftRight_eq_div_pow]
  push_cast
  rfl

/-- The last bit a SAR shifts out is a sign bit from a count of the width on (R430). -/
theorem sarOut_cf (a : BitVec n) (c : Nat) : (sarOut a c).cf = some (a.getLsbD (min c n - 1)) := by
  by_cases h : c < n
  · rw [min_eq_left h.le]
    exact congrArg some (if_pos h)
  · rw [min_eq_right (not_lt.1 h), ← BitVec.msb_eq_getLsbD_last]
    exact congrArg some (if_neg h)

theorem bits_pos (w : Width) : 0 < w.bits := Nat.zero_lt_of_lt (four_lt_bits w)

/-- Settles O28: what each operation answers, at every width. -/
theorem shiftResults : Obligations.ShiftResults := by
  intro w a cf c _ _ n wide
  have top (r : BitVec n) : r.msb = r.getLsbD (n - 1) := BitVec.msb_eq_getLsbD_last r
  refine ⟨toNat_shlOut a c, toNat_shrOut a c, toInt_sarOut a c, fun i hi => getLsbD_rotateLeft_add a c hi,
    fun i hi => getLsbD_rotateRight_eq a c hi, fun i hi => rclOut_bits a cf c hi, fun i hi => rcrOut_bits a cf c hi, rfl, rfl, sarOut_cf a c,
    ⟨rfl, fun _ => ?rol⟩, ⟨?ror_cf, fun _ => ?ror⟩, ⟨rfl, fun one => ?rcl⟩, ⟨rfl, fun _ => ?rcr⟩, fun one => ?shl, fun _ => top a, fun _ => rfl⟩
  case rol | ror_cf | ror | rcr =>
    rw [← top]
    rfl
  case rcl =>
    subst one
    exact rclOut_of1 (bits_pos w) a cf
  case shl =>
    subst one
    rw [← top]
    rfl

end Sys2Proof.Machine
end

section
/-! PROOFS. The shifts, rotates and double shifts complete when their operand can be accessed (spec/42_shift_rotate.md R420 to R432). -/

namespace Sys2Proof.Machine

variable {n : Nat} {i : Instr} {s s1 s2 : State} {w : Width} {p : Pfx} {rm : RM} {pl : Place}

/-! The flags. -/

theorem shiftStatus_cf (rotate : Bool) (st : Status) (r : BitVec n) (cf of af : Bool) : (shiftStatus rotate st r cf of af).cf = cf := by
  cases rotate <;> rfl

theorem shiftStatus_of (rotate : Bool) (st : Status) (r : BitVec n) (cf of af : Bool) : (shiftStatus rotate st r cf of af).of = of := by
  cases rotate <;> rfl

/-- A flag that is defined takes its value, any other a draw (R26, R423). -/
theorem settle_ok (b : Option Bool) (s : State) :
    ∃ k ≤ b.isNone.toNat, ∃ v : Bool, settle b s = .ok v (s.drawn k) ∧ ∀ x, b = some x → v = x := by
  cases b with
  | some v => exact ⟨0, le_rfl, v, rfl, fun _ e => Option.some.inj e⟩
  | none => exact ⟨1, le_rfl, (drawBit_ok s).imp fun _ drawn => ⟨drawn, nofun⟩⟩

theorem drawn_drawn (s : State) (j k : Nat) : (s.drawn j).drawn k = s.drawn (j + k) := by
  unfold State.drawn
  rw [Nat.add_assoc]

/-! Writing the result. -/

/-- A shift by c ≠ 0 draws what its rule leaves undefined, CF among it at most, and then writes its result and its flags (R423). -/
theorem shiftWrite_ok (w : Width) (rotate : Bool) (pl : Place) (out : ShiftOut w.bits) (c : Nat) (s : State) :
    ∃ k ≤ out.cf.isNone.toNat + 2, ∀ s3, writePlace w pl out.r (s.drawn k) = .ok () s3 →
      ∃ cf of af : Bool, shiftWrite w rotate pl out c s = .ok () (s3.setStatus (shiftStatus rotate s.status out.r cf of af)) ∧
        (∀ x, out.cf = some x → cf = x) ∧ (c = 1 → of = out.of1) := by
  obtain ⟨j, cf_draws, cf, cf_settled, cf_defined⟩ := settle_ok out.cf s
  obtain ⟨k, of_draws, of, of_settled, of_defined⟩ := settle_ok (if c = 1 then some out.of1 else none) (s.drawn j)
  obtain ⟨af, af_drawn⟩ := drawIf_ok (!rotate) ((s.drawn j).drawn k)
  have of_at_most := of_draws.trans (Bool.toNat_le _)
  have af_at_most := (!rotate).toNat_le
  refine ⟨j + k + (!rotate).toNat, by omega, fun s3 hw => ⟨cf, of, af, ?_, cf_defined, fun one => of_defined _ (if_pos one)⟩⟩
  have status : s3.status = s.status := ((writePlace_moves ..).1 _ _ _ hw).status
  rw [← drawn_drawn, ← drawn_drawn] at hw
  unfold shiftWrite
  rw [bind_ok cf_settled, bind_ok of_settled, bind_ok af_drawn, bind_ok hw, ← status]
  rfl

/-- A double shift beyond the width draws its result and its flags (R431, R432). -/
theorem shiftUndefined_ok (w : Width) (pl : Place) (s : State) :
    ∃ x : BitVec w.bits, ∀ s3, writePlace w pl x (s.drawn 7) = .ok () s3 →
      ∃ st : Status, shiftUndefined w pl s = .ok () (s3.setStatus st) := by
  obtain ⟨st, drawn⟩ := drawStatus_ok (s.drawn 1)
  refine ⟨(Config.freeValue s.draws).setWidth w.bits, fun s3 hw => ⟨st, ?_⟩⟩
  exact (bind_ok rfl).trans ((bind_ok drawn).trans (bind_ok hw))

/-! The bodies. -/

theorem act_ite_apply {α : Type} (c : Prop) [Decidable c] (a b : Act α) (s : State) : (if c then a else b) s = if c then a s else b s :=
  ite_apply c a b s

/-- A shift or rotate reads its operand, and goes on where its masked count is not 0 (R420 to R423). -/
theorem shift_eq {op : ShiftOp} {count : State → Byte} {a : BitVec w.bits} (hr : resolveRM w true p rm s = .ok pl s1)
    (ha : readPlace w pl s1 = .ok a s2) :
    let c := maskedCount (count s)
    shift op w p rm (look count) s = if c = 0 then .ok () s2 else shiftWrite w op.isRotate pl (shiftOut op a (s.flag .cf) c) c s2 := by
  intro c
  have cf : s2.flag .cf = s.flag .cf := (((readPlace_touches ..).1 _ _ _ ha).flag _).trans (((resolveRM_touches ..).1 _ _ _ hr).flag _)
  unfold shift
  rw [bind_ok (look_apply count s), bind_ok hr, bind_ok ha, bind_ok (look_apply _ s2), cf]
  exact act_ite_apply ..

/-- SHLD and SHRD read both operands, and go on where their masked count is not 0 (R421, R422, R431, R432). -/
theorem doubleShift_eq {left : Bool} {r : Reg} {count : State → Byte} {a : BitVec w.bits} (hr : resolveRM w true p rm s = .ok pl s1)
    (ha : readPlace w pl s1 = .ok a s2) :
    let c := maskedCount (count s)
    doubleShift left w p rm r (look count) s = if c = 0 then .ok () s2 else if w.bits < c then shiftUndefined w pl s2
      else shiftWrite w false pl (if left then shldOut a (s.gpr w r) c else shrdOut a (s.gpr w r) c) c s2 := by
  intro c
  have reg : s2.gpr w r = s.gpr w r :=
    (((readPlace_touches ..).1 _ _ _ ha).gpr w r).trans (((resolveRM_touches ..).1 _ _ _ hr).gpr w r)
  unfold doubleShift
  rw [bind_ok (look_apply count s), bind_ok hr, bind_ok ha, bind_ok (readReg_apply w r s2), reg, act_ite_apply, act_ite_apply]
  rfl

/-- Settles O34: a count of 0 ends after the operand is read, any other writes the result and the flags the rules define. -/
theorem shiftCompletes : Obligations.ShiftCompletes := by
  intro i s s1 s2 op w rm count pl a h allowed hr ha c out
  have body := shift_eq (op := op) (count := count) hr ha
  refine ⟨fun zero => exec_completes (exec_shift h) allowed (body.trans (if_pos zero)), fun nonzero => ?_⟩
  obtain ⟨k, draws, writes⟩ := shiftWrite_ok w op.isRotate pl out c s2
  have undefined_cf := out.cf.isNone.toNat_le
  refine ⟨k, by omega, fun s3 hw => ?_⟩
  obtain ⟨cf, of, af, written, cf_defined, of_defined⟩ := writes s3 hw
  have status : s2.status = s.status := ((readPlace_touches ..).1 _ _ _ ha).status.trans ((resolveRM_touches ..).1 _ _ _ hr).status
  rw [status] at written
  refine ⟨_, exec_completes (exec_shift h) allowed (body.trans ((if_neg nonzero).trans written)), ?_, ?_, ?_⟩
  · rwa [shiftStatus_cf]
  · rwa [shiftStatus_of]
  · cases op.isRotate with
    | true => exact ⟨rfl, rfl, rfl, rfl⟩
    | false => exact ⟨rfl, beq_iff_eq, rfl⟩

/-- Settles O35, by the three ranges of the masked count. -/
theorem doubleShiftCompletes : Obligations.DoubleShiftCompletes := by
  intro i s s1 s2 left rm r count pl a w h allowed hr ha c b v out
  have body := doubleShift_eq (left := left) (r := r) (count := count) hr ha
  have completes {t : State} (ends : doubleShift left w s.pfx rm r (look count) s = .ok () t) : exec i s = .next t :=
    exec_completes (exec_double h) allowed ends
  refine ⟨fun zero => completes (body.trans (if_pos zero)), fun ⟨low, high⟩ => ?_, fun beyond => ?_⟩
  · have nonzero : c ≠ 0 := by omega
    have shifted : (if left then shldOut a b c else shrdOut a b c) = { r := v, cf := some out, of1 := v.msb ^^ a.msb } := by
      cases left with
      | true | false => rfl
    obtain ⟨k, draws, writes⟩ := shiftWrite_ok w false pl { r := v, cf := some out, of1 := v.msb ^^ a.msb } c s2
    refine ⟨k, draws, fun s3 hw => ?_⟩
    obtain ⟨cf, of, af, written, cf_defined, of_defined⟩ := writes s3 hw
    have writing := congrArg (shiftWrite w false pl · c s2) shifted
    exact ⟨_, completes (body.trans ((if_neg nonzero).trans ((if_neg (not_lt.2 high)).trans (writing.trans written)))), cf_defined out rfl,
      of_defined, rfl, beq_iff_eq, rfl⟩
  · obtain ⟨x, writes⟩ := shiftUndefined_ok w pl s2
    refine ⟨x, fun s3 hw => ?_⟩
    obtain ⟨st, written⟩ := writes s3 hw
    exact ⟨st, completes (body.trans ((if_neg (Nat.ne_zero_of_lt beyond)).trans ((if_pos beyond).trans written)))⟩

end Sys2Proof.Machine
end

section
/-! PROOFS. The bit tests, the bit scans and BSWAP complete when their operands can be accessed (spec/43_bit_manipulation.md R460 to R470). -/

namespace Sys2Proof.Machine

variable {n k : Nat} {s s1 s2 s3 : State} {w : Width} {p : Pfx} {rm : RM} {pl : Place}

/-! Bit tests. -/

/-- A bit of a register is selected modulo the width (R461). -/
theorem bitByReg_reg (w : Width) (write : Bool) (p : Pfx) (q r : Reg) (s : State) :
    bitByReg w write p (.reg q) r s = .ok (.reg q, (s.gpr w r).toNat % w.bits) s := rfl

/-- A signed bit offset into memory moves the operand by whole units, and leaves a bit number within one (R461). -/
theorem bitByReg_mem {write : Bool} {m : Mem} {r : Reg} {sp : Span} (bit : (n : Int) = (s.gpr w r).toInt % w.bits)
    (resolved : resolveMem (effSeg p m) (addrWrap p.asz (effOffset s m + bitDisplacement w (s.gpr w r))) w.bytes write s = .ok sp s1) :
    bitByReg w write p (.mem m) r s = .ok (.mem sp, n) s1 := by
  have number : ((s.gpr w r).toInt % w.bits).toNat = n := by rw [← bit, Int.toNat_natCast]
  rw [← number]
  exact (bind_ok (readReg_apply w r s)).trans <| (bind_ok (look_apply _ s)).trans (bind_ok resolved)

/-- An immediate bit offset is taken modulo the width (R462). -/
theorem bitByImm_ok {write : Bool} (resolved : resolveRM w write p rm s = .ok pl s1) (imm : Byte) :
    bitByImm w write p rm imm s = .ok (pl, imm.toNat % w.bits) s1 := bind_ok resolved

/-- A bit test takes CF from the selected bit, keeps ZF from before it, and draws the other flags (R463 to R467). -/
theorem bitTest_ok {op : BitOp} {target : Act (Place × Nat)} {v : BitVec w.bits} (accesses : Keeps Touches target)
    (ht : target s = .ok (pl, n) s1) (hv : readPlace w pl s1 = .ok v s2)
    (hw : onlyIf op.writes (writePlace w pl (op.result v n)) s2 = .ok () s3) :
    ∃ d : Status, bitTest op w target s = .ok () ((s3.drawn 6).setStatus (bitStatus s.status d (v.getLsbD n))) := by
  have writes : Keeps Moves (onlyIf op.writes (writePlace w pl (op.result v n))) := .ite (writePlace_moves ..) (.pure moves_steady _)
  have status : s3.status = s.status :=
    (writes.1 _ _ _ hw).status.trans <| ((readPlace_touches ..).1 _ _ _ hv).status.trans (accesses.1 _ _ _ ht).status
  obtain ⟨d, drawn⟩ := drawStatus_ok s3
  refine ⟨d, ?_⟩
  unfold bitTest
  rw [bind_ok ht, bind_ok hv, bind_ok hw, bind_ok drawn, ← status]
  rfl

/-- Settles O36: the offset selects the operand and the bit, and the four operations are one body on them. -/
theorem bitTestCompletes : Obligations.BitTestCompletes := by
  intro i s s1 s2 s3 op rm k pl v n w h allowed selected hv hw
  have target : bitTarget op w s.pfx rm k s = .ok (pl, n) s1 := by
    cases k with
    | inr imm =>
      obtain ⟨resolved, rfl⟩ := selected
      exact bitByImm_ok resolved imm
    | inl r =>
      cases rm with
      | reg q =>
        obtain ⟨rfl, rfl, rfl⟩ := selected
        exact bitByReg_reg w op.writes s1.pfx q r s1
      | mem m =>
        obtain ⟨sp, rfl, bit, resolved⟩ := selected
        exact bitByReg_mem bit resolved
  have written : onlyIf op.writes (writePlace w pl (op.result v n)) s2 = .ok () s3 := by
    cases op with
    | bt =>
      cases hw
      rfl
    | bts | btr | btc => exact hw
  obtain ⟨d, body⟩ := bitTest_ok (Stays.bitTarget_touches ..) target hv written
  exact ⟨bitStatus s.status d (v.getLsbD n), rfl, rfl, exec_completes (exec_bit h) allowed body⟩

/-! The lowest and the highest 1 bit. -/

theorem lowestBit_zero (n : Nat) : lowestBit 0#n = none := List.find?_eq_none.2 fun i _ => by simp

theorem highestBit_zero (n : Nat) : highestBit 0#n = none := List.find?_eq_none.2 fun i _ => by simp

theorem lowestBit_eq_some {v : BitVec n} (hk : k < n) (one : v.getLsbD k = true) (below : ∀ j < k, v.getLsbD j = false) :
    lowestBit v = some k :=
  List.find?_range_eq_some.2 ⟨one, List.mem_range.2 hk, fun j hj => by rw [below j hj, Bool.not_false]⟩

/-- A search downward finds the last number that passes. -/
theorem find?_reverse_range {f : Nat → Bool} (hk : k < n) (last : f k = true) (above : ∀ j, k < j → f j = false) :
    (List.range n).reverse.find? f = some k := by
  induction n with
  | zero => exact absurd hk k.not_lt_zero
  | succ n ih =>
    rw [List.range_succ, List.reverse_concat]
    obtain lower | rfl := Nat.lt_succ_iff_lt_or_eq.1 hk
    · rw [List.find?_cons_of_neg (Bool.eq_false_iff.1 (above n lower)), ih lower]
    · exact List.find?_cons_of_pos last

theorem highestBit_eq_some {v : BitVec n} (hk : k < n) (one : v.getLsbD k = true) (above : ∀ j, k < j → v.getLsbD j = false) :
    highestBit v = some k := find?_reverse_range hk one above

/-! Bit scans. -/

section

variable {r : Reg} {find : BitVec w.bits → Option Nat} {v : BitVec w.bits}

/-- A scan that finds no bit draws the flags and the register (R468, R469). -/
theorem bitScan_none (hv : readRM w p rm s = .ok v s1) (hf : find v = none) :
    ∃ (x : BitVec w.bits) (st : Status), st.zf = true ∧ bitScan w p rm r find s = .ok () (((s1.setGpr w r x).drawn 7).setStatus st) := by
  obtain ⟨d, drawn⟩ := drawStatus_ok s1
  refine ⟨(Config.freeValue (s1.draws + 6)).setWidth w.bits, { d with zf := true }, rfl, ?_⟩
  unfold bitScan
  rw [bind_ok hv, bind_ok drawn, hf]
  rfl

/-- A scan that finds a bit writes its index and draws the flags but ZF (R468, R469). -/
theorem bitScan_some (hv : readRM w p rm s = .ok v s1) (hf : find v = some k) :
    ∃ st : Status, st.zf = false ∧
      bitScan w p rm r find s = .ok () (((s1.setGpr w r (BitVec.ofNat w.bits k)).drawn 6).setStatus st) := by
  obtain ⟨d, drawn⟩ := drawStatus_ok s1
  refine ⟨{ d with zf := false }, rfl, ?_⟩
  unfold bitScan
  rw [bind_ok hv, bind_ok drawn, hf]
  rfl

end

/-! BSWAP. -/

/-- A byte below a number is the low digit of the whole. -/
theorem toNat_append_byte (x : BitVec n) (b : Byte) : (x ++ b).toNat = b.toNat + 256 * x.toNat := by
  rw [BitVec.toNat_append, ← Nat.shiftLeft_add_eq_or_of_lt b.isLt, Nat.shiftLeft_eq, Nat.mul_comm, Nat.add_comm]

/-- The bytes of a register, the lowest first. -/
theorem leBytes_word (v : Word) :
    leBytes 4 v.toNat = [v.extractLsb' 0 8, v.extractLsb' 8 8, v.extractLsb' 16 8, v.extractLsb' 24 8] := by
  simp [leBytes, BitVec.extractLsb', Nat.shiftRight_eq_div_pow, Nat.div_div_eq_div_mul]

/-- The bytes of a register in reverse are the number its little-endian bytes give from the other end (R470). -/
theorem reverseBytes_eq (v : Word) : reverseBytes v = BitVec.ofNat 32 (leNat (leBytes 4 v.toNat).reverse) := by
  have digits : leNat (leBytes 4 v.toNat).reverse = (reverseBytes v).toNat := by
    rw [leBytes_word, reverseBytes, toNat_append_byte, toNat_append_byte, toNat_append_byte]
    rfl
  rw [digits, BitVec.ofNat_toNat, BitVec.setWidth_eq]

/-- Settles O37: a scan is one body for either end, and BSWAP is one case for each operand size. -/
theorem bitScanAndByteSwapComplete : Obligations.BitScanAndByteSwapComplete := by
  refine ⟨fun s s1 rm r v => ?_, fun s r allowed => ⟨fun size => ?_, fun size => ?_⟩⟩
  · intro w allowed hv
    refine ⟨fun zero i hi => ?_, fun k hk one below => ?_, fun k hk one above => ?_⟩
    · subst zero
      obtain rfl | rfl := List.mem_pair.1 hi
      · obtain ⟨x, st, zf, body⟩ := bitScan_none hv (lowestBit_zero _)
        exact ⟨x, st, zf, exec_completes (exec_bsfRRm_eq s rm r) allowed body⟩
      · obtain ⟨x, st, zf, body⟩ := bitScan_none hv (highestBit_zero _)
        exact ⟨x, st, zf, exec_completes (exec_bsrRRm_eq s rm r) allowed body⟩
    · obtain ⟨st, zf, body⟩ := bitScan_some hv (lowestBit_eq_some hk one below)
      exact ⟨st, zf, exec_completes (exec_bsfRRm_eq s rm r) allowed body⟩
    · obtain ⟨st, zf, body⟩ := bitScan_some hv (highestBit_eq_some hk one above)
      exact ⟨st, zf, exec_completes (exec_bsrRRm_eq s rm r) allowed body⟩
  · have body : byteSwap s.pfx.osz r s = .ok () (s.setGpr .b32 r (reverseBytes (s.gpr32 r))) := by
      rw [size]
      rfl
    rw [← reverseBytes_eq]
    exact exec_completes (exec_bswapR32_eq s r) allowed body
  · have body : byteSwap s.pfx.osz r s = .ok () ((s.setGpr .b16 r ((Config.freeValue s.draws).setWidth 16)).drawn 1) := by
      rw [size]
      rfl
    exact ⟨_, exec_completes (exec_bswapR32_eq s r) allowed body⟩

end Sys2Proof.Machine
end

section
/-! PROOFS. A string instruction completes on one element, and under REP, REPE or REPNE a step runs one element (spec/44_string.md R490 to R501). -/

namespace Sys2Proof.Machine

variable {s t u : State} {w : Width} {p : Pfx} {r : Reg}

/-! Index registers. -/

/-- An index register depends on its 32-bit register alone (R495). -/
theorem addrReg_of_gpr32 {asz : Size} (h : t.gpr32 r = s.gpr32 r) : addrReg asz r t = addrReg asz r s := by
  cases asz with
  | w16 => exact congrArg (fun x : Word => (x.extractLsb' 0 16).setWidth 32) h
  | w32 => exact congrArg (fun x : Word => x.setWidth 32) h

/-- DF is none of the status flags (R37). -/
theorem flag_df_setStatus (s : State) (st : Status) : (s.setStatus st).flag .df = s.flag .df := st.getLsbD_put s.eflags (by decide)

/-- A later state of an element moves an index register as the state it began with does (R496). -/
structure SameIndex (p : Pfx) (r : Reg) (s t : State) : Prop where
  index : addrReg p.asz r t = addrReg p.asz r s
  df : t.flag .df = s.flag .df

namespace SameIndex

theorem touches (h : Touches s t) : SameIndex p r s t := ⟨h.addrReg .., h.flag _⟩

theorem setStatus (h : SameIndex p r s t) (st : Status) : SameIndex p r s (t.setStatus st) :=
  ⟨h.index, (flag_df_setStatus t st).trans h.df⟩

theorem setGpr (h : SameIndex p r s t) {q : Reg} (v : BitVec w.bits) (other : r ∉ destRegs w (.reg q)) :
    SameIndex p r s (t.setGpr w q v) :=
  ⟨(addrReg_of_gpr32 (t.gpr32_setGpr_ne w v other)).trans h.index, h.df⟩

theorem setAddrReg (h : SameIndex p r s t) {q : Reg} (v : Word) (other : r ≠ q) : SameIndex p r s (setAddrReg p.asz q v t) :=
  h.setGpr _ <| by
    rw [destRegs_sized]
    simpa [destRegs] using other

end SameIndex

/-- The index register of the first state, moved by one element, in a later state (R496). -/
def advanceFrom (w : Width) (p : Pfx) (s : State) (r : Reg) (t : State) : State :=
  setAddrReg p.asz r (addrReg p.asz r s + stringDelta w s) t

/-- An advance moves the index register from where the element began (R496). -/
theorem SameIndex.advance (h : SameIndex p r s t) (w : Width) : advance w p r t = advanceFrom w p s r t := by
  unfold Machine.advance advanceFrom stringDelta
  rw [h.index, h.df]

/-- The end of MOVS and CMPS: both index registers move (R497, R498). -/
theorem advances_ok (hsi : SameIndex p .esi s t) (hdi : SameIndex p .edi s t) :
    (update (advance w p .esi) >>= fun _ => update (advance w p .edi)) t =
      .ok () (advanceFrom w p s .edi (advanceFrom w p s .esi t)) := by
  have moved : SameIndex p .edi s (advanceFrom w p s .esi t) := hdi.setAddrReg _ (by decide)
  rw [bind_ok (update_apply _ t), update_apply, hsi.advance, moved.advance]

/-! One element. -/

theorem readSource_apply (w : Width) (p : Pfx) (s : State) :
    readSource w p s = memReadBits w.bits (p.seg.getD .ds) (addrReg p.asz .esi s) s := bind_ok (look_apply _ s)

theorem readDest_apply (w : Width) (p : Pfx) (s : State) : readDest w p s = memReadBits w.bits .es (addrReg p.asz .edi s) s :=
  bind_ok (look_apply _ s)

theorem writeDest_apply (p : Pfx) (v : BitVec w.bits) (s : State) :
    writeDest w p v s = memWriteBits .es (addrReg p.asz .edi s) v s := bind_ok (look_apply _ s)

section

variable {a b v : BitVec w.bits}

/-- MOVS (R497). -/
theorem movs_ok (read : memReadBits w.bits (p.seg.getD .ds) (addrReg p.asz .esi s) s = .ok v t)
    (write : memWriteBits .es (addrReg p.asz .edi s) v t = .ok () u) :
    movs w p s = .ok () (advanceFrom w p s .edi (advanceFrom w p s .esi u)) := by
  have first : Touches s t := (memReadBits_touches ..).1 _ _ _ read
  have both : Touches s u := touches_steady.trans _ _ _ first ((memWriteBits_touches ..).1 _ _ _ write)
  rw [← readSource_apply] at read
  rw [← first.addrReg, ← writeDest_apply] at write
  unfold movs
  rw [bind_ok read, bind_ok write, advances_ok (.touches both) (.touches both)]

/-- CMPS (R498). -/
theorem cmps_ok (source : memReadBits w.bits (p.seg.getD .ds) (addrReg p.asz .esi s) s = .ok a t)
    (dest : memReadBits w.bits .es (addrReg p.asz .edi s) t = .ok b u) :
    cmps w p s = .ok () (advanceFrom w p s .edi (advanceFrom w p s .esi (u.setStatus (flagsSub a b false)))) := by
  have first : Touches s t := (memReadBits_touches ..).1 _ _ _ source
  have both : Touches s u := touches_steady.trans _ _ _ first ((memReadBits_touches ..).1 _ _ _ dest)
  have same (r : Reg) : SameIndex p r s (u.setStatus (flagsSub a b false)) := .setStatus (.touches both) _
  rw [← readSource_apply] at source
  rw [← first.addrReg, ← readDest_apply] at dest
  unfold cmps
  rw [bind_ok source, bind_ok dest, bind_ok (update_apply _ u), advances_ok (same .esi) (same .edi)]

/-- STOS (R499). -/
theorem stos_ok (write : memWriteBits .es (addrReg p.asz .edi s) (s.gpr w .eax) s = .ok () t) :
    stos w p s = .ok () (advanceFrom w p s .edi t) := by
  have same : SameIndex p .edi s t := .touches ((memWriteBits_touches ..).1 _ _ _ write)
  rw [← writeDest_apply] at write
  unfold stos
  rw [bind_ok (readReg_apply w .eax s), bind_ok write, update_apply, same.advance]

/-- LODS: the accumulator is no part of the index register (R500). -/
theorem lods_ok (read : memReadBits w.bits (p.seg.getD .ds) (addrReg p.asz .esi s) s = .ok v t) :
    lods w p s = .ok () (advanceFrom w p s .esi (t.setGpr w .eax v)) := by
  have apart : Reg.esi ∉ destRegs w (.reg .eax) := by cases w <;> decide
  have same : SameIndex p .esi s (t.setGpr w .eax v) := .setGpr (.touches ((memReadBits_touches ..).1 _ _ _ read)) v apart
  have written : writeReg w .eax v t = .ok () (t.setGpr w .eax v) := update_apply _ t
  rw [← readSource_apply] at read
  unfold lods
  rw [bind_ok read, bind_ok written, update_apply, same.advance]

/-- SCAS (R501). -/
theorem scas_ok (read : memReadBits w.bits .es (addrReg p.asz .edi s) s = .ok b t) :
    scas w p s = .ok () (advanceFrom w p s .edi (t.setStatus (flagsSub (s.gpr w .eax) b false))) := by
  have same : SameIndex p .edi s (t.setStatus (flagsSub (s.gpr w .eax) b false)) :=
    .setStatus (.touches ((memReadBits_touches ..).1 _ _ _ read)) _
  rw [← readDest_apply] at read
  unfold scas
  rw [bind_ok (readReg_apply w .eax s), bind_ok read, bind_ok (update_apply _ t), update_apply, same.advance]

end

/-! Repetition. -/

section

variable {stopNow : State → Bool} {body : Act Unit}

/-- Without REP, REPE or REPNE the body runs once (R490). -/
theorem repeated_none (h : p.rep = .none) : repeated p stopNow body = body := by
  unfold repeated
  rw [h]

/-- In a repetition a count of 0 does nothing (R490). -/
theorem repeated_zero (h : p.rep ≠ .none) (zero : addrReg p.asz .ecx s = 0#32) : repeated p stopNow body s = .ok () s := by
  unfold repeated
  cases hp : p.rep with
  | none => exact absurd hp h
  | repe | repne => exact (bind_ok (look_apply _ s)).trans (congrFun (if_pos zero) s)

/-- In a repetition with a count left, a body that goes on is counted, and eip goes back unless the repetition ends (R490). -/
theorem repeated_ok (h : p.rep ≠ .none) (nonzero : addrReg p.asz .ecx s ≠ 0#32) (ends : body s = .ok () t) :
    let u := setAddrReg p.asz .ecx (addrReg p.asz .ecx s - 1#32) t
    repeated p stopNow body s = .ok () (if addrReg p.asz .ecx s = 1#32 ∨ stopNow u then u else { u with eip := t.eipStart }) := by
  unfold repeated
  cases hp : p.rep with
  | none => exact absurd hp h
  | repe | repne => exact (bind_ok (look_apply _ s)).trans ((congrFun (if_neg nonzero) s).trans (bind_ok ends))

end

/-- Settles O38: unrepeated, the instruction is one element, and each operation ends where its own lemma says. -/
theorem stringElementCompletes : Obligations.StringElementCompletes := by
  intro i s op w h allowed rep p step source dest acc
  have completes {t : State} (element : op.element w p s = .ok () t) : exec i s = .next t :=
    exec_completes (exec_string h) allowed ((congrFun (repeated_none rep) s).trans element)
  cases op with
  | mov => exact fun v t u read write => completes (movs_ok read write)
  | cmp => exact fun a b t u source dest => completes (cmps_ok source dest)
  | sto => exact fun t write => completes (stos_ok write)
  | lod => exact fun v t read => completes (lods_ok read)
  | sca => exact fun b t read => completes (scas_ok read)

/-- A repetition stops by a comparison alone, where ZF is 0 under REPE and 1 under REPNE (R494). -/
theorem stop_iff (op : StringOp) {rep : Rep} (h : rep ≠ .none) (u : State) :
    (if op.compares then compareStop rep else neverStop) u = true ↔ op.compares = true ∧ (u.flag .zf = true ↔ rep = .repne) := by
  cases op.compares with
  | false => simp [neverStop]
  | true =>
    cases rep with
    | none => exact absurd rfl h
    | repe | repne => simp [compareStop]

/-- No ordinary body writes where its instruction began (R36). -/
theorem keepsEipStart_routine : Routine fun s t => t.eipStart = s.eipStart where
  steady := ⟨fun _ => rfl, fun _ _ _ h k => k.trans h⟩
  touches _ _ h := h.eipStart
  regs _ _ _ := rfl
  eip _ _ := rfl
  status _ _ := rfl
  flag _ _ _ _ := rfl
  lowFlags _ _ := rfl

/-- Settles O39: the body answers as R490 says for either count, and a stop is what R494 says. -/
theorem stringRepetition : Obligations.StringRepetition := by
  intro i s t op w h allowed rep p count
  refine ⟨fun zero => exec_completes (exec_string h) allowed (repeated_zero rep zero), fun nonzero element => ?_⟩
  intro u done
  have start : t.eipStart = s.eipStart := (keepsEipStart_routine.element op w p).1 _ _ _ element
  have counted := exec_completes (exec_string h) allowed (repeated_ok rep nonzero element)
  have ends : (count = 1#32 ∨ (if op.compares then compareStop p.rep else neverStop) u = true) ↔ done := or_congr_right (stop_iff op rep u)
  rw [start] at counted
  exact ⟨fun ended => counted.trans (congrArg Host.Outcome.next (if_pos (ends.2 ended))),
    fun more => counted.trans (congrArg Host.Outcome.next (if_neg fun ended => more (ends.1 ended)))⟩

end Sys2Proof.Machine
end

section
/-! PROOFS. CMPXCHG, XADD and CMPXCHG8B complete when their destination can be read and written, and write it on a match and on a miss
(spec/45_compare_exchange.md R520 to R524). -/

namespace Sys2Proof.Machine

variable {i : Instr} {s s1 s2 s3 : State} {w : Width} {p : Pfx} {rm : RM} {r : Reg} {pl : Place} {d : BitVec w.bits}

/-- Resolving an operand and reading it are accesses alone. -/
theorem operand_touches {write : Bool} (hr : resolveRM w write p rm s = .ok pl s1) (hd : readPlace w pl s1 = .ok d s2) : Touches s s2 :=
  touches_steady.trans _ _ _ ((resolveRM_touches ..).1 _ _ _ hr) ((readPlace_touches ..).1 _ _ _ hd)

/-! CMPXCHG. -/

/-- CMPXCHG compares with the accumulator it began with, sets the flags, and only then writes (R520, R522). -/
theorem compareExchange_eq (hr : resolveRM w true p rm s = .ok pl s1) (hd : readPlace w pl s1 = .ok d s2) :
    compareExchange w p rm r s =
      (if s.gpr w .eax = d then writePlace w pl (s.gpr w r) else writePlace w pl d >>= fun _ => writeReg w .eax d)
        (s2.setStatus (flagsSub (s.gpr w .eax) d false)) := by
  have same := operand_touches hr hd
  unfold compareExchange
  rw [bind_ok hr, bind_ok hd, bind_ok (readReg_apply w .eax s2), bind_ok (readReg_apply w r s2), bind_ok (update_apply _ s2), same.gpr, same.gpr]

/-- On a match the destination takes the source (R522). -/
theorem compareExchange_match (hr : resolveRM w true p rm s = .ok pl s1) (hd : readPlace w pl s1 = .ok d s2) (equal : s.gpr w .eax = d)
    (hw : writePlace w pl (s.gpr w r) (s2.setStatus (flagsSub (s.gpr w .eax) d false)) = .ok () s3) :
    compareExchange w p rm r s = .ok () s3 :=
  (compareExchange_eq hr hd).trans ((congrFun (if_pos equal) _).trans hw)

/-- On a miss the destination is written back, and then the accumulator takes it (R520, R522). -/
theorem compareExchange_miss (hr : resolveRM w true p rm s = .ok pl s1) (hd : readPlace w pl s1 = .ok d s2) (differ : s.gpr w .eax ≠ d)
    (hw : writePlace w pl d (s2.setStatus (flagsSub (s.gpr w .eax) d false)) = .ok () s3) :
    compareExchange w p rm r s = .ok () (s3.setGpr w .eax d) :=
  (compareExchange_eq hr hd).trans ((congrFun (if_neg differ) _).trans (bind_ok hw))

theorem exec_cmpxchg (h : (i = .cmpxchgRm8R8 rm r ∧ w = .b8) ∨ (i = .cmpxchgRmR rm r ∧ w = s.pfx.osz.width)) :
    exec i s = perform .g486 (isMem rm) (fun _ => compareExchange w s.pfx rm r) s := by
  rcases h with ⟨rfl, rfl⟩ | ⟨rfl, rfl⟩
  · exact exec_body (exec_cmpxchgRm8R8_eq s rm r) rfl
  · exact exec_body (exec_cmpxchgRmR_eq s rm r) rfl

/-! XADD. -/

/-- XADD reads its register before it writes it, and writes the destination last (R523). -/
theorem exchangeAdd_ok (hr : resolveRM w true p rm s = .ok pl s1) (hd : readPlace w pl s1 = .ok d s2)
    (hw : writePlace w pl (d + s.gpr w r) (s2.setGpr w r d) = .ok () s3) :
    exchangeAdd w p rm r s = .ok () (s3.setStatus (flagsAdd d (s.gpr w r) false)) := by
  have written : writeReg w r d s2 = .ok () (s2.setGpr w r d) := update_apply _ s2
  rw [← addResult_false] at hw
  unfold exchangeAdd
  rw [bind_ok hr, bind_ok hd, bind_ok (readReg_apply w r s2), (operand_touches hr hd).gpr, bind_ok written, bind_ok hw, update_apply]

theorem exec_xadd (h : (i = .xaddRm8R8 rm r ∧ w = .b8) ∨ (i = .xaddRmR rm r ∧ w = s.pfx.osz.width)) :
    exec i s = perform .g486 (isMem rm) (fun _ => exchangeAdd w s.pfx rm r) s := by
  rcases h with ⟨rfl, rfl⟩ | ⟨rfl, rfl⟩
  · exact exec_body (exec_xaddRm8R8_eq s rm r) rfl
  · exact exec_body (exec_xaddRmR_eq s rm r) rfl

/-! CMPXCHG8B. -/

section

variable {m : Mem} {sp : Span} {bs : List Byte}

/-- Resolving the eight bytes and reading them are accesses alone. -/
theorem eight_touches {seg : SegReg} {off : Word} (hr : resolveMem seg off 8 true s = .ok sp s1) (hb : readSpan sp s1 = .ok bs s2) :
    Touches s s2 :=
  touches_steady.trans _ _ _ ((resolveMem_touches ..).1 _ _ _ hr) ((readSpan_touches ..).1 _ _ _ hb)

/-- CMPXCHG8B compares with the EDX:EAX it began with, and writes in either case (R520, R524). -/
theorem compareExchange8_eq (hr : resolveMem (effSeg p m) (effOffset s m) 8 true s = .ok sp s1) (hb : readSpan sp s1 = .ok bs s2) :
    compareExchange8 p m s =
      (if s.gpr32 .edx ++ s.gpr32 .eax = ofBytes 64 bs then do
        update fun t => t.setFlag .zf true
        writeSpan sp (toBytes (s.gpr32 .ecx ++ s.gpr32 .ebx))
      else do
        update fun t => t.setFlag .zf false
        writeSpan sp (toBytes (ofBytes 64 bs))
        update fun t => (t.setGpr .b32 .edx ((ofBytes 64 bs).extractLsb' 32 32)).setGpr .b32 .eax ((ofBytes 64 bs).extractLsb' 0 32)) s2 := by
  have same := eight_touches hr hb
  unfold compareExchange8
  rw [bind_ok (look_apply _ s), bind_ok hr, bind_ok hb, bind_ok (look_apply _ s2), bind_ok (look_apply _ s2), same.gpr32, same.gpr32, same.gpr32,
    same.gpr32]

/-- ZF is bit 6: writing it keeps the other flags that the accesses left (R37, R524). -/
theorem setZf_touches (same : Touches s s2) (b : Bool) :
    s2.setFlag .zf b = { s2 with eflags := if b then s.eflags ||| 0x40#32 else s.eflags &&& ~~~0x40#32 } := by
  unfold State.setFlag
  rw [same.eflags]
  rfl

/-- On a match ZF is set and the eight bytes take ECX:EBX (R524). -/
theorem compareExchange8_match (hr : resolveMem (effSeg p m) (effOffset s m) 8 true s = .ok sp s1) (hb : readSpan sp s1 = .ok bs s2)
    (equal : s.gpr32 .edx ++ s.gpr32 .eax = ofBytes 64 bs)
    (hw : writeSpan sp (toBytes (s.gpr32 .ecx ++ s.gpr32 .ebx)) { s2 with eflags := s.eflags ||| 0x40#32 } = .ok () s3) :
    compareExchange8 p m s = .ok () s3 := by
  have zf : update (fun t => t.setFlag .zf true) s2 = .ok () { s2 with eflags := s.eflags ||| 0x40#32 } :=
    congrArg (EStateM.Result.ok ()) (setZf_touches (eight_touches hr hb) true)
  rw [compareExchange8_eq hr hb, if_pos equal, bind_ok zf, hw]

/-- On a miss ZF is cleared, the eight bytes are written back, and then EDX:EAX takes them (R520, R524). -/
theorem compareExchange8_miss (hr : resolveMem (effSeg p m) (effOffset s m) 8 true s = .ok sp s1) (hb : readSpan sp s1 = .ok bs s2)
    (differ : s.gpr32 .edx ++ s.gpr32 .eax ≠ ofBytes 64 bs)
    (hw : writeSpan sp (toBytes (ofBytes 64 bs)) { s2 with eflags := s.eflags &&& ~~~0x40#32 } = .ok () s3) :
    compareExchange8 p m s =
      .ok () ((s3.setGpr .b32 .edx ((ofBytes 64 bs).extractLsb' 32 32)).setGpr .b32 .eax ((ofBytes 64 bs).extractLsb' 0 32)) := by
  have zf : update (fun t => t.setFlag .zf false) s2 = .ok () { s2 with eflags := s.eflags &&& ~~~0x40#32 } :=
    congrArg (EStateM.Result.ok ()) (setZf_touches (eight_touches hr hb) false)
  rw [compareExchange8_eq hr hb, if_neg differ, bind_ok zf, bind_ok hw, update_apply]

end

/-- Settles O40: each body ends on a match and on a miss where its own lemma says. -/
theorem compareExchangeCompletes : Obligations.CompareExchangeCompletes := by
  refine ⟨fun s s1 s2 s3 w i rm r pl d h allowed hr hd => ?_, fun s s1 s2 s3 w i rm r pl d h allowed hr hd hw => ?_,
    fun s s1 s2 s3 m sp bs allowed hr hb => ?_⟩
  · exact ⟨fun equal hw => exec_completes (exec_cmpxchg h) allowed (compareExchange_match hr hd equal hw),
      fun differ hw => exec_completes (exec_cmpxchg h) allowed (compareExchange_miss hr hd differ hw)⟩
  · exact exec_completes (exec_xadd h) allowed (exchangeAdd_ok hr hd hw)
  · exact ⟨fun equal hw => exec_completes (exec_cmpxchg8bM64_eq s m) allowed (compareExchange8_match hr hb equal hw),
      fun differ hw => exec_completes (exec_cmpxchg8bM64_eq s m) allowed (compareExchange8_miss hr hb differ hw)⟩

end Sys2Proof.Machine
end

section
/-! PROOFS. The software interrupts deliver their vector, and the near transfers complete within the CS limit (spec/46_control_transfer.md R550,
R560 to R563, R570, R571; spec/60_exceptions.md R706). -/

namespace Sys2Proof.Machine

variable {i : Instr} {s s1 s2 t u : State} {osz : Size} {p : Pfx} {rm : RM} {x : Word}

/-! Software interrupts. -/

/-- An allowed instruction whose body traps delivers its vector after the instruction, failing back to its first byte (R706). -/
theorem exec_traps {n : Byte} {kind : EventKind} {gen : CpuGen} {lockable : Bool} {body : Pfx → Act Unit}
    (hb : exec i s = perform gen lockable body s) (allowed : s.allows gen lockable) (ha : body s.pfx s = .error (.trap n kind) s) :
    exec i s = .next (deliver n none kind s.eip { s with eip := s.eipStart }) := by
  rw [hb, perform_allowed allowed, ha, finish_trap]
  rfl

/-- INTO is the test of OF (R571). -/
theorem trapOnOverflow_apply (s : State) : trapOnOverflow s = if s.flag .of then .error (.trap 4#8 .trap) s else .ok () s := by
  unfold trapOnOverflow
  rw [bind_ok (look_apply _ s)]
  split
  · rfl
  · rfl

/-- Settles O47: each body stops with its trap before it changes anything. -/
theorem softwareInterruptsDeliver : Obligations.SoftwareInterruptsDeliver := by
  intro s allowed
  refine ⟨fun n => exec_traps (exec_intIb_eq s n) allowed rfl, exec_traps (exec_int3_eq s) allowed rfl, fun of => ?_, fun of => ?_⟩
  · exact exec_traps (exec_into_eq s) allowed ((trapOnOverflow_apply s).trans (if_pos of))
  · exact exec_completes (exec_into_eq s) allowed ((trapOnOverflow_apply s).trans (if_neg (Bool.eq_false_iff.1 of)))

/-! Near targets. -/

/-- A near target within the CS limit (R550). -/
theorem nearTarget_within {v : Word} (segs : t.segs = s.segs) (sized : sizedTarget osz v = x) (within : x.toNat ≤ s.segs.cs.limit.toNat) :
    nearTarget osz v t = .ok x t := by
  rw [← segs] at within
  unfold nearTarget
  rw [bind_ok (look_apply _ t), sized, if_neg (Nat.not_lt.2 within)]
  rfl

/-- A near target beyond the CS limit raises #GP(0) (R550). -/
theorem nearTarget_beyond {v : Word} (segs : t.segs = s.segs) (sized : sizedTarget osz v = x) (beyond : s.segs.cs.limit.toNat < x.toNat) :
    nearTarget osz v t = .error (.fault 13#8 (some 0#32)) t := by
  rw [← segs] at beyond
  unfold nearTarget
  rw [bind_ok (look_apply _ t), sized, if_pos beyond]
  rfl

/-- An operand of opsize has no bits to cut (R550). -/
theorem sizedTarget_operand (osz : Size) (v : BitVec osz.width.bits) : sizedTarget osz (v.setWidth 32) = v.setWidth 32 := by
  cases osz with
  | w16 =>
    have cut : (v.setWidth 32).setWidth 16 = v := BitVec.setWidth_setWidth_of_le v (by decide)
    exact (setWidth_low_half _).symm.trans (congrArg (·.setWidth 32) cut)
  | w32 => rfl

/-! Near transfers. -/

/-- A CALL pushes the return offset and goes to its checked target (R561, R562). -/
theorem callTo_ok (pushed : push (t.eip.setWidth osz.width.bits) t = .ok () u) : callTo osz x t = .ok () { u with eip := x } :=
  (bind_ok (look_apply _ t)).trans (bind_ok pushed)

/-- CALL relz checks its target first (R561). -/
theorem callRelative_eq (p : Pfx) (rel : Word) (s : State) :
    callRelative p rel s = (nearTarget p.osz (s.eip + rel) >>= callTo p.osz) s := bind_ok (look_apply _ s)

section

variable {v : BitVec p.osz.width.bits}

/-- JMP r/m reads its target and checks it (R560). -/
theorem jumpIndirect_eq (read : readRM p.osz.width p rm s = .ok v s1) :
    jumpIndirect p rm s = (nearTarget p.osz (v.setWidth 32) >>= jumpTo) s1 := bind_ok read

/-- CALL r/m reads its target and checks it (R562). -/
theorem callIndirect_eq (read : readRM p.osz.width p rm s = .ok v s1) :
    callIndirect p rm s = (nearTarget p.osz (v.setWidth 32) >>= callTo p.osz) s1 := bind_ok read

/-- RET pops its target and checks it before it drops the immediate's bytes (R563). -/
theorem returnNear_eq (popped : pop p.osz.width.bits s = .ok v t) (imm : BitVec 16) :
    returnNear p imm s =
      (nearTarget p.osz (v.setWidth 32) >>= fun x => update (·.dropStack (imm.setWidth 32)) >>= fun _ => jumpTo x) t := bind_ok popped

end

/-! Dropping no bytes. -/

theorem RegFile.set_set (f : RegFile) (r : Reg) (v v' : Word) : (f.set r v).set r v' = f.set r v' := by cases r <;> rfl

theorem RegFile.set16_set16 (f : RegFile) (r : Reg) (v v' : BitVec 16) : (f.set16 r v).set16 r v' = f.set16 r v' := by
  have upper := f.upper_set16 r v
  unfold RegFile.set16 at upper ⊢
  rw [upper, RegFile.set_set]

/-- A write of a 16- or 32-bit register replaces an earlier one (R32). -/
theorem State.setGpr_setGpr (s : State) (osz : Size) (r : Reg) (v v' : BitVec osz.width.bits) :
    (s.setGpr osz.width r v).setGpr osz.width r v' = s.setGpr osz.width r v' := by
  have regs : (s.regs.setW osz.width r v).setW osz.width r v' = s.regs.setW osz.width r v' := by
    cases osz with
    | w16 => exact s.regs.set16_set16 r v v'
    | w32 => exact s.regs.set_set r v v'
  unfold State.setGpr
  simp only [regs, BitVec.or_assoc, BitVec.or_self]

/-- The stack pointer written again with what it holds (R302). -/
theorem setStackTop_wrapped (t : State) (x : Word) : (t.setStackTop x).setStackTop (stackWrap t.stackBig x) = t.setStackTop x := by
  have again := setStackTop_stackBig t x
  cases big : t.stackBig with
  | true =>
    have wide (u : State) (y : Word) (h : u.stackBig = true) : u.setStackTop y = u.setGpr .b32 .esp y := if_pos h
    rw [wide _ _ (again.trans big), wide _ _ big]
    exact t.setGpr_setGpr .w32 .esp x x
  | false =>
    have narrow (u : State) (y : Word) (h : u.stackBig = false) : u.setStackTop y = u.setGpr .b16 .esp (y.setWidth 16) :=
      if_neg (Bool.eq_false_iff.1 h)
    have cut : (x &&& 0xFFFF#32).setWidth 16 = x.setWidth 16 := by
      rw [← setWidth_low_half]
      exact BitVec.setWidth_setWidth_of_le _ (by decide)
    rw [narrow _ _ (again.trans big), narrow _ _ big]
    exact (congrArg _ cut).trans (t.setGpr_setGpr .w16 .esp _ _)

/-- After a pop, dropping no bytes leaves the stack pointer as it is (R303, R563). -/
theorem dropStack_zero_setStackTop (t : State) (x : Word) : (t.setStackTop x).dropStack 0#32 = t.setStackTop x := by
  unfold State.dropStack
  rw [BitVec.add_zero, stackTop_setStackTop, setStackTop_wrapped]

/-- Settles O44: each body reads its target by accesses alone and checks it before it changes anything else. -/
theorem nearTransfersComplete : Obligations.NearTransfersComplete := by
  intro s s1 s2 p w limit cut gp allowed
  refine ⟨fun rm v read => ?_, fun rel => ?_, fun v read => ?_⟩
  · have same := (readRM_touches ..).1 _ _ _ read
    have near := nearTarget_within same.segs (sizedTarget_operand p.osz v)
    have far := nearTarget_beyond same.segs (sizedTarget_operand p.osz v)
    refine ⟨fun within => ?_, fun beyond => ⟨?_, ?_⟩, fun within pushed => ?_⟩
    · exact exec_completes (exec_jmpRm_eq s rm) allowed ((jumpIndirect_eq read).trans (bind_ok (near within)))
    · exact exec_faults (exec_jmpRm_eq s rm) allowed ((jumpIndirect_eq read).trans (bind_error (far beyond)))
    · exact exec_faults (exec_callRm_eq s rm) allowed ((callIndirect_eq read).trans (bind_error (far beyond)))
    · rw [← same.eip] at pushed
      exact exec_completes (exec_callRm_eq s rm) allowed ((callIndirect_eq read).trans ((bind_ok (near within)).trans (callTo_ok pushed)))
  · intro t
    have sized : sizedTarget p.osz (s.eip + relSized p.osz rel) = t := sizedTarget_eq ..
    refine ⟨fun beyond => ?_, fun within pushed => ?_⟩
    · exact exec_faults (exec_callRelz_eq s rel) allowed ((callRelative_eq ..).trans (bind_error (nearTarget_beyond rfl sized beyond)))
    · exact exec_completes (exec_callRelz_eq s rel) allowed
        ((callRelative_eq ..).trans ((bind_ok (nearTarget_within rfl sized within)).trans (callTo_ok pushed)))
  · intro u
    have popped : pop w.bits s = .ok v u := pop_ok read
    have segs : u.segs = s.segs := (State.setStackTop_segs ..).trans ((memReadBits_touches ..).1 _ _ _ read).segs
    have near (imm : BitVec 16) (within : (v.setWidth 32).toNat ≤ limit) :
        returnNear p imm s = .ok () { u.dropStack (imm.setWidth 32) with eip := v.setWidth 32 } :=
      (returnNear_eq popped imm).trans (bind_ok (nearTarget_within segs (sizedTarget_operand p.osz v) within))
    have far (imm : BitVec 16) (beyond : limit < (v.setWidth 32).toNat) : returnNear p imm s = .error (.fault 13#8 (some 0#32)) u :=
      (returnNear_eq popped imm).trans (bind_error (nearTarget_beyond segs (sizedTarget_operand p.osz v) beyond))
    refine ⟨fun within => ?_, fun imm within => ?_, fun beyond => ⟨?_, fun imm => ?_⟩⟩
    · have body := near 0#16 within
      rw [BitVec.setWidth_zero, dropStack_zero_setStackTop] at body
      exact exec_completes (exec_ret_eq s) allowed body
    · exact exec_completes (exec_retIw_eq s imm) allowed (near imm within)
    · exact exec_faults (exec_ret_eq s) allowed (far 0#16 beyond)
    · exact exec_faults (exec_retIw_eq s imm) allowed (far imm beyond)

end Sys2Proof.Machine
end

section
/-! PROOFS. In real mode the far transfers complete within the CS limit (spec/46_control_transfer.md R550 to R552, R564 to R569). -/

namespace Sys2Proof.Machine

variable {i : Instr} {s s1 s2 s3 t : State} {osz : Size} {p : Pfx} {sel : Sel} {off : Word} {target : Act (Word × Sel)}

/-! Loading CS and eip. -/

/-- The state with CS loaded as in real mode, and eip taken as the operand size keeps it (R552). -/
def farLoaded (osz : Size) (sel : Sel) (off : Word) (t : State) : State :=
  { t.setSeg .cs ((t.seg .cs).loadReal sel) with eip := sizedTarget osz off }

theorem farLoadReal_within (segs : t.segs = s.segs) (within : (sizedTarget osz off).toNat ≤ s.segs.cs.limit.toNat) :
    farLoadReal osz sel off t = .ok () (farLoaded osz sel off t) := bind_ok (nearTarget_within segs rfl within)

theorem farLoadReal_beyond (segs : t.segs = s.segs) (beyond : s.segs.cs.limit.toNat < (sizedTarget osz off).toNat) :
    farLoadReal osz sel off t = .error (.fault 13#8 (some 0#32)) t := bind_error (nearTarget_beyond segs rfl beyond)

/-- Loading CS and eip is apart from moving the stack pointer (R552, R568). -/
theorem dropStack_farLoaded (n : Word) : (farLoaded osz sel off t).dropStack n = farLoaded osz sel off (t.dropStack n) := by
  have big : (farLoaded osz sel off t).stackBig = t.stackBig := rfl
  show (farLoaded osz sel off t).setStackTop (t.stackTop + n) = farLoaded osz sel off (t.setStackTop (t.stackTop + n))
  unfold State.setStackTop
  rw [big]
  split
  · rfl
  · rfl

/-! Popping several values. -/

theorem popEach_succ {n k : Nat} {v : BitVec n} {vs : List (BitVec n)} :
    popEach n (k + 1) s = .ok (v :: vs) t ↔ ∃ u, pop n s = .ok v u ∧ popEach n k u = .ok vs t := by
  constructor
  · intro h
    obtain ⟨v', u, first, rest⟩ := bind_eq_ok.1 (show (pop n >>= _) s = .ok (v :: vs) t from h)
    obtain ⟨vs', t', rest, done⟩ := bind_eq_ok.1 rest
    cases done
    exact ⟨u, first, rest⟩
  · rintro ⟨u, first, rest⟩
    exact (bind_ok first).trans (bind_ok rest)

theorem popEach_one {n : Nat} {v : BitVec n} : popEach n 1 s = .ok [v] t ↔ pop n s = .ok v t := by
  refine popEach_succ.trans ⟨?_, fun h => ⟨t, h, rfl⟩⟩
  rintro ⟨u, first, rest⟩
  cases rest
  exact first

/-- A pop has moved the stack pointer, so that dropping no bytes changes nothing (R303). -/
theorem pop_dropStack_zero {n : Nat} {v : BitVec n} (popped : pop n s = .ok v t) : t.dropStack 0#32 = t := by
  obtain ⟨v', u, _, rest⟩ := bind_eq_ok.1 (show (readTop n >>= _) s = .ok v t from popped)
  cases rest
  exact dropStack_zero_setStackTop u _

/-! The bodies. -/

theorem farJump_real (hpe : s1.pe = false) (found : target s = .ok (off, sel) s1) : farJump p target s = farLoadReal p.osz sel off s1 := by
  unfold farJump
  rw [bind_ok found, bind_ok (look_apply _ s1), hpe]
  rfl

/-- A far CALL in real mode checks its target, pushes CS and the return offset, and then loads CS and eip (R566). -/
theorem farCall_real (hpe : s1.pe = false) (found : target s = .ok (off, sel) s1) {x : Word} (checked : nearTarget p.osz off s1 = .ok x s1)
    (pushedCs : pushSel p.osz s1.segs.cs.sel s1 = .ok () s2) (pushedEip : push (s1.eip.setWidth p.osz.width.bits) s2 = .ok () s3) :
    farCall p target s = farLoadReal p.osz sel off s3 := by
  unfold farCall
  rw [bind_ok found, bind_ok (look_apply _ s1), hpe]
  exact (bind_ok checked).trans ((bind_ok (look_apply _ s1)).trans ((bind_ok (look_apply _ s1)).trans ((bind_ok pushedCs).trans (bind_ok pushedEip))))

/-- A far CALL in real mode whose target fails the check stops there (R566). -/
theorem farCall_real_error (hpe : s1.pe = false) (found : target s = .ok (off, sel) s1) {e : Stop}
    (checked : nearTarget p.osz off s1 = .error e s1) : farCall p target s = .error e s1 := by
  unfold farCall
  rw [bind_ok found, bind_ok (look_apply _ s1), hpe]
  exact bind_error checked

section

variable {off sel fl : BitVec p.osz.width.bits}

/-- RETF in real mode loads CS and eip from the popped values, then drops the immediate's bytes (R568). -/
theorem returnFar_real (hpe : s.pe = false) (popped : popEach p.osz.width.bits 2 s = .ok [off, sel] s1) (kind : FarKind) (imm : BitVec 16) :
    returnFar p kind imm s =
      (farLoadReal p.osz (sel.setWidth 16) (off.setWidth 32) >>= fun _ => update (·.dropStack (imm.setWidth 32))) s1 := by
  obtain ⟨u, first, rest⟩ := popEach_succ.1 popped
  unfold returnFar
  rw [bind_ok (look_apply _ s), hpe]
  exact (bind_ok first).trans (bind_ok (popEach_one.1 rest))

/-- IRET in real mode loads CS and eip from the popped values, then the flags of its mask (R569). -/
theorem interruptReturn_real (hpe : s.pe = false) (popped : popEach p.osz.width.bits 3 s = .ok [off, sel, fl] s1) :
    interruptReturn p s = (farLoadReal p.osz (sel.setWidth 16) (off.setWidth 32) >>= fun _ =>
      update (·.setEflags (fl.setWidth 32) (iretMask p.osz))) s1 := by
  obtain ⟨u, first, rest⟩ := popEach_succ.1 popped
  obtain ⟨u', second, third⟩ := popEach_succ.1 rest
  unfold interruptReturn
  rw [bind_ok (look_apply _ s), hpe]
  exact (bind_ok first).trans ((bind_ok second).trans (bind_ok (popEach_one.1 third)))

end

theorem popEach_moves (n k : Nat) : Keeps Moves (popEach n k) := by
  induction k with
  | zero => exact .pure moves_steady _
  | succ k ih => exact .bind moves_steady (pop_moves n) fun _ => .bind moves_steady ih fun _ => .pure moves_steady _

theorem popEach_two_dropStack_zero {n : Nat} {a b : BitVec n} (popped : popEach n 2 s = .ok [a, b] t) : t.dropStack 0#32 = t := by
  obtain ⟨u, _, rest⟩ := popEach_succ.1 popped
  exact pop_dropStack_zero (popEach_one.1 rest)

/-! The instructions. -/

theorem iretMask_eq (osz : Size) : iretMask osz = if osz = .w16 then 0x7FD5#32 else 0x257FD5#32 := by
  cases osz with
  | w16 | w32 => rfl

section

variable (allowed : s.allows .g386 false) (hpe : s.pe = false)
include allowed hpe

theorem exec_farJump_within (h : farParts s.pfx i = some (.jmp, target)) (found : target s = .ok (off, sel) s1)
    (within : (sizedTarget s.pfx.osz off).toNat ≤ s.segs.cs.limit.toNat) : exec i s = .next (farLoaded s.pfx.osz sel off s1) := by
  have same := (farParts_target h).2.1 _ _ _ found
  exact exec_completes (exec_far h) allowed ((farJump_real (same.pe.trans hpe) found).trans (farLoadReal_within same.segs within))

theorem exec_farCall_within (h : farParts s.pfx i = some (.call, target)) (found : target s = .ok (off, sel) s1)
    (within : (sizedTarget s.pfx.osz off).toNat ≤ s.segs.cs.limit.toNat) (pushedCs : pushSel s.pfx.osz s.segs.cs.sel s1 = .ok () s2)
    (pushedEip : push (s.eip.setWidth s.pfx.osz.width.bits) s2 = .ok () s3) : exec i s = .next (farLoaded s.pfx.osz sel off s3) := by
  have same := (farParts_target h).2.1 _ _ _ found
  have first := (pushSel_moves ..).1 _ _ _ pushedCs
  have second := (push_moves _).1 _ _ _ pushedEip
  have segs : s3.segs = s.segs := second.segs.trans (first.segs.trans same.segs)
  rw [← same.segs] at pushedCs
  rw [← same.eip] at pushedEip
  have body := farCall_real (same.pe.trans hpe) found (nearTarget_within same.segs rfl within) pushedCs pushedEip
  exact exec_completes (exec_far h) allowed (body.trans (farLoadReal_within segs within))

/-- A far JMP or CALL checks its target before it changes anything (R552, R566). -/
theorem exec_far_beyond {kind : FarKind} (h : farParts s.pfx i = some (kind, target)) (found : target s = .ok (off, sel) s1)
    (beyond : s.segs.cs.limit.toNat < (sizedTarget s.pfx.osz off).toNat) :
    exec i s = .next (deliver 13#8 (some 0#32) .fault s.eipStart (rollback s s1)) := by
  obtain ⟨jumpOrCall, touches⟩ := farParts_target h
  have same := touches.1 _ _ _ found
  have real := same.pe.trans hpe
  refine exec_faults (exec_far h) allowed ?_
  rcases jumpOrCall with rfl | rfl
  · exact (farJump_real real found).trans (farLoadReal_beyond same.segs beyond)
  · exact farCall_real_error real found (nearTarget_beyond same.segs rfl beyond)

end

/-- Settles O45: each body reads or pops its far pointer, checks the offset against the limit CS began with, and loads CS and eip. -/
theorem farTransfersCompleteInRealMode : Obligations.FarTransfersCompleteInRealMode := by
  intro s s1 s2 s3 p w inLimit gp cut goTo allowed hpe
  have cuts (off : Word) : sizedTarget p.osz off = cut off := sizedTarget_eq ..
  have goes (sel : Sel) (off : Word) (t : State) : farLoaded p.osz sel off t = goTo sel off t := by
    unfold farLoaded
    rw [cuts]
    rfl
  have within {off : Word} (h : inLimit (cut off)) : (sizedTarget p.osz off).toNat ≤ s.segs.cs.limit.toNat := by rwa [cuts]
  have beyond {off : Word} (h : ¬inLimit (cut off)) : s.segs.cs.limit.toNat < (sizedTarget p.osz off).toNat := by
    rw [cuts]
    exact Nat.lt_of_not_le h
  have whole (off : BitVec w.bits) : cut (off.setWidth 32) = off.setWidth 32 := (cuts _).symm.trans (sizedTarget_operand p.osz off)
  have popped {k : Nat} {vs : List (BitVec w.bits)} (h : popEach w.bits k s = .ok vs s1) : s1.segs = s.segs :=
    ((popEach_moves ..).1 _ _ _ h).segs
  refine ⟨fun i target off sel h found fits => ?_, fun i target off sel h found fits pushedCs pushedEip => ?_, fun off sel pops fits => ?_,
    fun off sel fl pops fits => ?_, fun i kind target off sel h found exceeds => ?_, fun off sel pops exceeds => ?_,
    fun off sel fl pops exceeds => ?_⟩
  · rw [← goes]
    exact exec_farJump_within allowed hpe h found (within fits)
  · rw [← goes]
    exact exec_farCall_within allowed hpe h found (within fits) pushedCs pushedEip
  · rw [← whole] at fits
    rw [← goes]
    have body (kind : FarKind) (imm : BitVec 16) :=
      (returnFar_real hpe pops kind imm).trans (bind_ok (farLoadReal_within (popped pops) (within fits)))
    refine ⟨?_, fun imm => exec_completes (exec_retfIw_eq s imm) allowed (body (.retfImm imm) imm)⟩
    have unmoved : (farLoaded p.osz (sel.setWidth 16) (off.setWidth 32) s1).dropStack ((0#16).setWidth 32) =
        farLoaded p.osz (sel.setWidth 16) (off.setWidth 32) s1 :=
      (dropStack_farLoaded _).trans (congrArg _ (popEach_two_dropStack_zero pops))
    exact exec_completes (exec_retf_eq s) allowed ((body .ret 0#16).trans (congrArg (EStateM.Result.ok ()) unmoved))
  · rw [← whole] at fits
    rw [← goes, ← iretMask_eq]
    exact exec_completes (exec_iret_eq s) allowed
      ((interruptReturn_real hpe pops).trans (bind_ok (farLoadReal_within (popped pops) (within fits))))
  · exact exec_far_beyond allowed hpe h found (beyond exceeds)
  · rw [← whole] at exceeds
    have body (kind : FarKind) (imm : BitVec 16) :=
      (returnFar_real hpe pops kind imm).trans (bind_error (farLoadReal_beyond (popped pops) (beyond exceeds)))
    exact ⟨exec_faults (exec_retf_eq s) allowed (body .ret 0#16), fun imm => exec_faults (exec_retfIw_eq s imm) allowed (body (.retfImm imm) imm)⟩
  · rw [← whole] at exceeds
    exact exec_faults (exec_iret_eq s) allowed
      ((interruptReturn_real hpe pops).trans (bind_error (farLoadReal_beyond (popped pops) (beyond exceeds))))

end Sys2Proof.Machine
end

section
/-! PROOFS. The stores of selectors and of the low half of CR0 complete in every mode (spec/46_control_transfer.md R551; spec/48_segment_loads.md
R644, R645; spec/49_system.md R677). -/

namespace Sys2Proof.Machine

variable {i : Instr} {s t u s1 : State} {rm : RM} {v : BitVec 16}

/-- MOV r/m, Sreg and SMSW store a value they find without an access (R644, R677). -/
theorem exec_storeWord (h : (∃ r, i = .movRm16Sreg rm r ∧ v = (s.seg r).sel) ∨ (i = .smswRm16 rm ∧ v = s.cr0.extractLsb' 0 16))
    (allowed : s.allows .g386 false) (stored : storeWord s.pfx rm v s = .ok () t) : exec i s = .next t := by
  rcases h with ⟨r, rfl, rfl⟩ | ⟨rfl, rfl⟩
  · exact exec_completes (exec_movRm16Sreg_eq s rm r) allowed ((movRead_ok (look_apply _ s)).trans stored)
  · rw [← BitVec.setWidth_eq_extractLsb' (by decide)] at stored
    exact exec_completes (exec_smswRm16_eq s rm) allowed ((movRead_ok (look_apply _ s)).trans stored)

theorem storeWord_reg16 {p : Pfx} (h : p.osz = .w16) (q : Reg) (v : BitVec 16) (s : State) :
    storeWord p (.reg q) v s = .ok () (s.setGpr .b16 q v) := by
  unfold storeWord
  rw [h]
  rfl

/-- In a 32-bit register the upper half is a free value (R644). -/
theorem storeWord_reg32 {p : Pfx} (h : p.osz = .w32) (q : Reg) (v : BitVec 16) (s : State) :
    ∃ hi : BitVec 16, storeWord p (.reg q) v s = .ok () ((s.setGpr .b32 q (hi ++ v)).drawn 1) := by
  unfold storeWord
  rw [h]
  exact ⟨_, rfl⟩

/-- A selector pushed at operand size 32 leaves its slot in one of two ways, as the draw decides (R551). -/
theorem pushSel32_cases {v : Sel} {off : Word} {sp : Span} (slot : off = s.pushOffset 4) (resolved : resolveMem .ss off 4 true s = .ok sp t)
    (zeroed : writeSpan sp (toBytes (v.setWidth 32)) (t.drawn 1) = .ok () s1)
    (kept : writeSpan (lowTwo sp) (toBytes v) (t.drawn 1) = .ok () u) :
    pushSel .w32 v s = .ok () (s1.setStackTop off) ∨ pushSel .w32 v s = .ok () (u.setStackTop off) := by
  subst slot
  obtain ⟨zero, drew⟩ := drawBit_ok t
  have pushed {t' : State} (stored : writeSelSlot sp v zero (t.drawn 1) = .ok () t') :
      pushSel .w32 v s = .ok () (t'.setStackTop (s.pushOffset 4)) :=
    (bind_ok (look_apply _ s)).trans ((bind_ok resolved).trans ((bind_ok drew).trans (bind_ok stored)))
  cases zero with
  | true => exact .inl (pushed zeroed)
  | false => exact .inr (pushed kept)

/-- PUSH Sreg pushes the selector (R645). -/
theorem exec_pushSeg_ok {r : SegReg} {osz : Size} (h : pushSegParts i = some r) (allowed : s.allows .g386 false) (size : s.pfx.osz = osz)
    (pushed : pushSel osz (s.seg r).sel s = .ok () t) : exec i s = .next t := by
  subst size
  exact exec_completes (exec_pushSeg h) allowed ((bind_ok (look_apply _ s)).trans pushed)

/-- Settles O50: what a store answers depends on its destination and the operand size alone. -/
theorem selectorStoresComplete : Obligations.SelectorStoresComplete := by
  intro s s1 p allowed
  refine ⟨fun i rm v h => ⟨?_, ?_, ?_⟩, fun i r h => ⟨fun size pushed => ?_, fun size off sp t u slot resolved zeroed kept => ?_⟩⟩
  · rintro q rfl size
    exact exec_storeWord h allowed (storeWord_reg16 size q v s)
  · rintro q rfl size
    exact (storeWord_reg32 size q v s).imp fun _ stored => exec_storeWord h allowed stored
  · rintro m rfl stored
    exact exec_storeWord h allowed stored
  · exact exec_pushSeg_ok h allowed size pushed
  · exact (pushSel32_cases slot resolved zeroed kept).imp (exec_pushSeg_ok h allowed size) (exec_pushSeg_ok h allowed size)

end Sys2Proof.Machine
end

section
/-! PROOFS. The privilege checks, and what unprivileged code may not change: CR0, CR3, CPL, IOPL, and IF where IOPL is below CPL
(spec/47_flags.md R617, R622; spec/49_system.md R682). -/

namespace Sys2Proof.Machine

variable {α β : Type} {s t u : State}

/-! The checks. -/

/-- A privileged instruction stops at its check where the code is unprivileged (R682). -/
theorem privCheck_stops (hpe : s.pe = true) (hcpl : s.cpl ≠ 0#2) : privCheck s = .error (.fault 13#8 (some 0#32)) s := by
  unfold privCheck
  rw [bind_ok (look_apply _ s)]
  simp [hpe, hcpl]

/-- In real mode and at CPL 0 a privileged instruction passes its check (R682). -/
theorem privCheck_passes (h : s.pe = false ∨ s.cpl = 0#2) : privCheck s = .ok () s := by
  unfold privCheck
  rw [bind_ok (look_apply _ s)]
  rcases h with h | h
  · simp [h]
  · simp [h]

/-- CLI and STI may be used: in real mode, or where IOPL is not below CPL (R622). -/
abbrev State.ioplAllows (s : State) : Prop := s.pe = false ∨ s.cpl.toNat ≤ s.iopl.toNat

theorem ioplCheck_stops (h : ¬s.ioplAllows) : ioplCheck s = .error (.fault 13#8 (some 0#32)) s := by
  obtain ⟨hpe, below⟩ := not_or.1 h
  unfold ioplCheck
  rw [bind_ok (look_apply _ s)]
  simp [hpe, Nat.lt_of_not_le below]

theorem ioplCheck_passes (h : s.ioplAllows) : ioplCheck s = .ok () s := by
  unfold ioplCheck
  rw [bind_ok (look_apply _ s)]
  rcases h with h | h
  · simp [h]
  · simp [Nat.not_lt.2 h]

/-- CLI past its check (R622). -/
theorem clearInterrupt_passes (h : s.ioplAllows) : clearInterrupt s = .ok () (s.setFlag .intr false) := bind_ok (ioplCheck_passes h)

/-- STI past its check (R622). -/
theorem setInterrupt_passes (h : s.ioplAllows) :
    setInterrupt s = .ok () { s.setFlag .intr true with shadow := if s.flag .intr then s.shadow else .sti } := by
  unfold setInterrupt
  rw [bind_ok (ioplCheck_passes h), bind_ok (update_apply _ s), update_apply]
  cases s.flag .intr with
  | true => rfl
  | false => rfl

/-! Unprivileged code. -/

/-- Protected mode at a privilege level other than 0, with no parameter supplied. -/
structure Unprivileged (s : State) : Prop where
  refuses : s.pmRefuses
  pe : s.pe = true
  cpl : s.cpl ≠ 0#2

/-- A bit of EFLAGS that unprivileged code may not write: IOPL, and IF where IOPL is below CPL (R617, R622). -/
def State.guards (s : State) (k : Nat) : Prop := k = 12 ∨ k = 13 ∨ k = 9 ∧ s.iopl.toNat < s.cpl.toNat

/-- The launch parameters, CR0, CR3, CPL and the guarded flags are the same. -/
structure SameControl (s t : State) : Prop where
  cfg : t.cfg = s.cfg
  cr0 : t.cr0 = s.cr0
  cr3 : t.cr3 = s.cr3
  cpl : t.cpl = s.cpl
  flags : ∀ k, s.guards k → t.eflags.getLsbD k = s.eflags.getLsbD k

theorem SameControl.iopl (h : SameControl s t) : t.iopl = s.iopl := by
  apply BitVec.eq_of_getLsbD_eq
  intro k hk
  have guarded : s.guards (12 + k) := by
    have : k = 0 ∨ k = 1 := by omega
    exact this.imp (by omega) fun e => .inl (by omega)
  simp only [State.iopl, BitVec.getLsbD_extractLsb', h.flags _ guarded]

theorem SameControl.unprivileged (h : SameControl s t) (hs : Unprivileged s) : Unprivileged t where
  refuses := by
    unfold State.pmRefuses
    rw [h.cfg]
    exact hs.refuses
  pe := (congrArg (BitVec.getLsbD · 0) h.cr0).trans hs.pe
  cpl := by
    rw [h.cpl]
    exact hs.cpl

theorem SameControl.refl (s : State) : SameControl s s := ⟨rfl, rfl, rfl, rfl, fun _ _ => rfl⟩

theorem SameControl.trans (h : SameControl s t) (k : SameControl t u) : SameControl s u := by
  refine ⟨k.cfg.trans h.cfg, k.cr0.trans h.cr0, k.cr3.trans h.cr3, k.cpl.trans h.cpl, fun b guarded => (k.flags b ?_).trans (h.flags b guarded)⟩
  unfold State.guards
  rw [h.iopl, h.cpl]
  exact guarded

/-- The fields of `SameControl`. -/
abbrev State.controlPart (s : State) := (s.cfg, s.cr0, s.cr3, s.cpl, s.eflags)

/-- An update of other fields. -/
theorem sameControl_of_same (h : t.controlPart = s.controlPart) : SameControl s t := by
  simp only [State.controlPart, Prod.mk.injEq] at h
  obtain ⟨cfg, cr0, cr3, cpl, eflags⟩ := h
  exact ⟨cfg, cr0, cr3, cpl, fun _ _ => by rw [eflags]⟩

theorem Touches.sameControl (h : Touches s t) : SameControl s t := by
  rw [h.same]
  exact sameControl_of_same rfl

/-- An update of flags that are not guarded. -/
theorem sameControl_setFlag (s : State) (f : Flag) (b : Bool) (h : ¬s.guards f.bit) : SameControl s (s.setFlag f b) := by
  refine ⟨rfl, rfl, rfl, rfl, fun k guarded => ?_⟩
  have other : k ≠ f.bit := fun e => h (e ▸ guarded)
  have inWord : k < 32 := by rcases guarded with rfl | rfl | ⟨rfl, _⟩ <;> decide
  rw [State.setFlag_eflags, getLsbD_putFlag _ _ _ inWord, if_neg other]

theorem sameControl_setStatus (s : State) (st : Status) : SameControl s (s.setStatus st) := by
  refine ⟨rfl, rfl, rfl, rfl, fun k guarded => ?_⟩
  rcases guarded with rfl | rfl | ⟨rfl, _⟩ <;> exact Status.getLsbD_put st s.eflags (by decide)

/-- A masked write whose mask leaves the guarded flags out (R615). -/
theorem sameControl_setEflags (s : State) (v : Word) {m : Word} (h : ∀ k, s.guards k → m.getLsbD k = false) :
    SameControl s (s.setEflags v m) := by
  refine ⟨rfl, rfl, rfl, rfl, fun k guarded => ?_⟩
  have free : k < 32 ∧ k ≠ 1 ∧ (fixedZero s.cfg.gen).getLsbD k = false := by
    rcases guarded with rfl | rfl | ⟨rfl, _⟩ <;> cases s.cfg.gen <;> decide
  obtain ⟨inWord, notOne, notFixed⟩ := free
  rw [State.setEflags_eflags, getLsbD_mergeFlags_free _ _ _ inWord notOne notFixed, h k guarded, if_neg Bool.false_ne_true]

/-- Unprivileged code leaves the control state as it is. -/
def KeepsControl (s t : State) : Prop := Unprivileged s → SameControl s t

theorem keepsControl_routine : Routine KeepsControl where
  steady := ⟨fun s _ => .refl s, fun _ _ _ h k hs => (h hs).trans (k ((h hs).unprivileged hs))⟩
  touches _ _ h _ := h.sameControl
  regs _ _ _ _ := sameControl_of_same rfl
  eip _ _ _ := sameControl_of_same rfl
  status s st _ := sameControl_setStatus s st
  flag s f b hf _ := sameControl_setFlag s f b (by rcases hf with rfl | rfl | rfl <;> simp [State.guards, Flag.bit])
  lowFlags s v _ := sameControl_setEflags s v (by rintro k (rfl | rfl | ⟨rfl, _⟩) <;> rfl)

/-! The instructions that unprivileged code cannot complete. -/

/-- Unprivileged code stops in the action, after accesses alone. -/
structure Barred (a : Act α) : Prop where
  stops : ∀ s, Unprivileged s → ∃ e t, a s = .error e t ∧ Touches s t

theorem Barred.first {a : Act α} {f : α → Act β} (h : Barred a) : Barred (a >>= f) where
  stops s hs := by
    obtain ⟨e, t, stopped, touches⟩ := h.stops s hs
    exact ⟨e, t, bind_error stopped, touches⟩

theorem Barred.after {a : Act α} {f : α → Act β} (ha : Keeps Touches a) (hf : ∀ v, Barred (f v)) : Barred (a >>= f) where
  stops s hs := by
    cases first : a s with
    | ok v t =>
      have reached := ha.1 s v t first
      obtain ⟨e, u, stopped, touches⟩ := (hf v).stops t (reached.sameControl.unprivileged hs)
      exact ⟨e, u, (bind_ok first).trans stopped, touches_steady.trans s t u reached touches⟩
    | error e t => exact ⟨e, t, bind_error first, ha.2 s e t first⟩

/-- The branch for protected mode is the one taken. -/
theorem Barred.inProtectedMode {a b : Act α} (h : Barred a) : Barred (do let pm ← look State.pe; if pm then a else b) where
  stops s hs := by
    rw [bind_ok (look_apply _ s), if_pos hs.pe]
    exact h.stops s hs

theorem barred_privCheck : Barred privCheck where
  stops s hs := ⟨_, s, privCheck_stops hs.pe hs.cpl, touches_steady.refl s⟩

theorem barred_loadSeg (r : SegReg) (v : Sel) : Barred (loadSeg r v) where
  stops s hs := by
    obtain ⟨load, _⟩ := hs.refuses
    unfold loadSeg pmLoadSeg
    rw [if_pos hs.pe, load]
    exact ⟨_, s, rfl, touches_steady.refl s⟩

theorem barred_farTransferPm (kind : FarKind) (osz : Size) (sel : Sel) (off : Word) : Barred (farTransferPm kind osz sel off) where
  stops s hs := by
    unfold farTransferPm
    rw [pmFarTransfer_refuses hs.refuses]
    exact ⟨_, s, rfl, touches_steady.refl s⟩

theorem barred_iretPm (osz : Size) : Barred (iretPm osz) where
  stops s hs := by
    unfold iretPm
    rw [pmIret_refuses hs.refuses]
    exact ⟨_, s, rfl, touches_steady.refl s⟩

theorem barred_popSegReg (osz : Size) (r : SegReg) : Barred (popSegReg osz r) :=
  .after (readTop_touches _) fun _ => .after (.look touches_steady _) fun _ => (barred_loadSeg ..).first

theorem barred_loadFarPointer (p : Pfx) (m : Mem) (q : Reg) (r : SegReg) : Barred (loadFarPointer p m q r) :=
  .after (readFarPointer_touches ..) fun _ => (barred_loadSeg ..).first

theorem barred_farJump (p : Pfx) {target : Act (Word × Sel)} (ht : Keeps Touches target) : Barred (farJump p target) :=
  .after ht fun _ => .inProtectedMode (barred_farTransferPm ..)

theorem barred_farCall (p : Pfx) {target : Act (Word × Sel)} (ht : Keeps Touches target) : Barred (farCall p target) :=
  .after ht fun _ => .inProtectedMode (barred_farTransferPm ..)

theorem barred_returnFar (p : Pfx) (kind : FarKind) (imm : BitVec 16) : Barred (returnFar p kind imm) :=
  .inProtectedMode <| .after (readTop_touches _) fun _ => .after (.look touches_steady _) fun _ => .after (memReadBits_touches ..) fun _ =>
    barred_farTransferPm ..

/-- A barred action keeps the control state: where it goes on, the code was not unprivileged. -/
theorem Barred.keepsControl {a : Act α} (h : Barred a) : Keeps KeepsControl a := by
  refine ⟨fun s v t completed hs => ?_, fun s e t stopped hs => ?_⟩
  · obtain ⟨e, u, stopped, -⟩ := h.stops s hs
    rw [stopped] at completed
    cases completed
  · obtain ⟨e', u, stopped', touches⟩ := h.stops s hs
    rw [stopped'] at stopped
    cases stopped
    exact touches.sameControl

/-! The instructions that write flags. -/

/-- The mask of POPF leaves the guarded flags out for unprivileged code (R617). -/
theorem popfMask_guards (hs : Unprivileged s) (osz : Size) {k : Nat} (guarded : s.guards k) :
    (popfMask osz s.pe s.cpl s.iopl).getLsbD k = false := by
  have privileged : ¬(!s.pe || s.cpl == 0#2) = true := by simp [hs.pe, hs.cpl]
  unfold popfMask
  rw [if_neg privileged]
  rcases guarded with rfl | rfl | ⟨rfl, below⟩
  · cases osz <;> split <;> rfl
  · cases osz <;> split <;> rfl
  · rw [if_pos below]
    cases osz <;> rfl

theorem popFlags_keepsControl (osz : Size) : Keeps KeepsControl (popFlags osz) := by
  rw [popFlags_eq]
  refine keepsControl_routine.seq (keepsControl_routine.pops _) fun v => .update fun s hs => ?_
  have masked := sameControl_setEflags s (v.setWidth 32) fun k => popfMask_guards hs osz
  cases osz with
  | w16 => exact masked
  | w32 => exact masked.trans (sameControl_setFlag _ .rf false (by simp [State.guards, Flag.bit]))

/-- IF is guarded where IOPL is below CPL alone. -/
theorem guards_intr (hs : Unprivileged s) (h : s.ioplAllows) : ¬s.guards Flag.intr.bit := by
  have notBelow : ¬s.iopl.toNat < s.cpl.toNat := Nat.not_lt.2 (h.resolve_left (by simp [hs.pe]))
  simp [State.guards, Flag.bit, notBelow]

theorem clearInterrupt_keepsControl : Keeps KeepsControl clearInterrupt := .of_apply fun s => by
  by_cases allowed : s.ioplAllows
  · exact .inl ⟨_, _, clearInterrupt_passes allowed, fun hs => sameControl_setFlag s .intr false (guards_intr hs allowed)⟩
  · exact .inr ⟨_, s, bind_error (ioplCheck_stops allowed), fun _ => .refl s⟩

theorem setInterrupt_keepsControl : Keeps KeepsControl setInterrupt := .of_apply fun s => by
  by_cases allowed : s.ioplAllows
  · exact .inl ⟨_, _, setInterrupt_passes allowed, fun hs =>
      (sameControl_setFlag s .intr true (guards_intr hs allowed)).trans (sameControl_of_same rfl)⟩
  · exact .inr ⟨_, s, bind_error (ioplCheck_stops allowed), fun _ => .refl s⟩

/-- Every special body keeps the control state: POPF, CLI and STI by their masks and checks, the others because they are barred. -/
theorem specialBody_keepsControl (p : Pfx) (i : Instr) (a : Act Unit) (e : specialBody p i = some a) : Keeps KeepsControl a := by
  have check {f : Unit → Act Unit} : Keeps KeepsControl (privCheck >>= f) := barred_privCheck.first.keepsControl
  cases i with
  | popf => cases e; exact popFlags_keepsControl _
  | cli => cases e; exact clearInterrupt_keepsControl
  | sti => cases e; exact setInterrupt_keepsControl
  | movSregRm16 => cases e; exact (Barred.after (readRM_touches ..) fun _ => (barred_loadSeg ..).first).keepsControl
  | popEs | popSs | popDs | popFs | popGs => cases e; exact (barred_popSegReg ..).keepsControl
  | ldsRMemFar | lesRMemFar | lssRMemFar | lfsRMemFar | lgsRMemFar => cases e; exact (barred_loadFarPointer ..).keepsControl
  | jmpPtr => cases e; exact (barred_farJump p (.pure touches_steady _)).keepsControl
  | jmpMemFar => cases e; exact (barred_farJump p (readFarPointer_touches ..)).keepsControl
  | callPtr => cases e; exact (barred_farCall p (.pure touches_steady _)).keepsControl
  | callMemFar => cases e; exact (barred_farCall p (readFarPointer_touches ..)).keepsControl
  | retf | retfIw => cases e; exact (barred_returnFar ..).keepsControl
  | iret => cases e; exact (Barred.inProtectedMode (barred_iretPm _)).keepsControl
  | movCr0R32 | movCr2R32 | movCr3R32 | lmswRm16 | invlpgM | clts | hlt => cases e; exact check
  | _ => cases e

/-! Steps. -/

/-- Taking an event in protected mode ends the run, with the control state as it was (spec/60_exceptions.md R713). -/
theorem deliver_sameControl (hs : Unprivileged s) (v : Byte) (err : Option Word) (kind : EventKind) (ret : Word) :
    SameControl s (deliver v err kind ret s) := by
  obtain ⟨_, _, _, unsupplied⟩ := hs.refuses
  rw [deliver_unanswered hs.pe (pmDeliver_refuses unsupplied (by rfl) v err kind)]
  unfold refusedDelivery
  split
  · exact sameControl_of_same rfl
  · exact sameControl_of_same rfl

/-- An instruction that stops leaves the control state it began with (R700). -/
theorem stopped_sameControl (hs : Unprivileged s)
    (h : (∃ v err kind ret, t = deliver v err kind ret (rollback s u)) ∨ EndsRun (rollback s u) t) : SameControl s t := by
  have rolled : SameControl s (rollback s u) := sameControl_of_same rfl
  rcases h with ⟨v, err, kind, ret, rfl⟩ | ended
  · exact rolled.trans (deliver_sameControl (rolled.unprivileged hs) ..)
  · rw [ended.rest]
    exact sameControl_of_same rfl

theorem exec_sameControl {i : Instr} (hs : Unprivileged s) (h : exec i s = .next t) : SameControl s t := by
  have body := exec_bodyKeeps keepsControl_routine i s fun a e => specialBody_keepsControl s.pfx i a e
  rcases exec_cases keepsControl_routine body h with kept | ⟨u, _, stopped⟩
  · exact kept hs
  · exact stopped_sameControl hs stopped

theorem runInstr_sameControl (hs : Unprivileged s) (h : runInstr exec s = .next t) : SameControl s t := by
  rcases runInstr_cases exec s with ⟨e, u, hr, _⟩ | ⟨p, i, bs, u, hu, hr⟩
  · rw [hr] at h
    rcases finish_cases h with ok | ⟨_, _, error, stopped⟩
    · cases ok
    · exact stopped_sameControl hs stopped
  · have fetched : Fetches s u := fetchInstr_fetches hu
    have decoded : SameControl s (withDecoded p bs u) := by
      rw [fetched]
      exact sameControl_of_same rfl
    rw [hr] at h
    exact decoded.trans (exec_sameControl (decoded.unprivileged hs) h)

theorem step_sameControl (hs : Unprivileged s) (h : step s = .next t) : SameControl s t := by
  obtain ⟨-, ⟨v, -, rfl⟩ | ⟨-, rfl⟩ | ⟨u, hu, rfl⟩⟩ := step_cases h
  · have delivered := deliver_sameControl hs v none .external s.eip
    rcases acceptIntr_cases v s with e | e <;> rw [e]
    · exact delivered
    · exact delivered.trans (sameControl_of_same rfl)
  · exact sameControl_of_same rfl
  · have started : SameControl s (startInstr s) := sameControl_of_same rfl
    have executed := started.trans (runInstr_sameControl (started.unprivileged hs) hu)
    have trapped : SameControl s (singleStep s u) := by
      rcases singleStep_cases s u with e | e <;> rw [e]
      · exact executed
      · exact executed.trans (deliver_sameControl (executed.unprivileged hs) ..)
    rcases reportHalt_cases (singleStep s u) with e | e <;> rw [e]
    · exact trapped
    · exact trapped.trans (sameControl_of_same rfl)

/-- Settles O12: unprivileged code is barred from the instructions that write the control registers or load CS, every delivery ends the run, and
the flag instructions leave the guarded flags out. -/
theorem unprivilegedCodeCannotChangeControl : Obligations.UnprivilegedCodeCannotChangeControl := by
  intro s t refuses hpe hcpl h
  have same := step_sameControl ⟨refuses, hpe, hcpl⟩ h
  exact ⟨same.cr0, same.cr3, same.cpl, same.iopl, fun below => same.flags 9 (.inr (.inr ⟨rfl, below⟩))⟩

end Sys2Proof.Machine
end

section
/-! PROOFS. The flag instructions (spec/47_flags.md R615 to R623). -/

namespace Sys2Proof.Machine

variable {s t : State}

/-- The mask of POPF, mode and privilege read off as conditions (R617). -/
theorem popfMask_eq (osz : Size) (s : State) : popfMask osz s.pe s.cpl s.iopl =
    (let full : Word := if osz = .w16 then 0x7FD5#32 else 0x247FD5#32
     if s.pe = false ∨ s.cpl = 0#2 then full
     else if s.iopl.toNat < s.cpl.toNat then full &&& ~~~0x3200#32 else full &&& ~~~0x3000#32) := by
  unfold popfMask
  cases osz <;> simp

/-- POPF writes what it popped under the mask of the state it began in (R617). -/
theorem popFlags_ok {osz : Size} {v : BitVec osz.width.bits} (popped : pop osz.width.bits s = .ok v t) :
    popFlags osz s = .ok () (let u := t.setEflags (v.setWidth 32) (popfMask osz s.pe s.cpl s.iopl)
      if osz = .w16 then u else { u with eflags := u.eflags &&& ~~~0x10000#32 }) := by
  have same := (pop_moves _).1 _ _ _ popped
  rw [popFlags_eq, bind_ok popped, update_apply, ← same.pe, ← same.cpl, ← same.iopl]
  cases osz with
  | w16 => rfl
  | w32 => rfl

/-- PUSHF pushes the flags, VM and RF as 0 in the 32-bit form (R616). -/
theorem pushFlags_eq (osz : Size) (s : State) : pushFlags osz s = push ((s.eflags &&& 0x00FCFFFF#32).setWidth osz.width.bits) s := by
  unfold pushFlags
  rw [bind_ok (look_apply _ s)]
  cases osz with
  | w16 =>
    have low : (s.eflags &&& 0x00FCFFFF#32).setWidth 16 = s.eflags.setWidth 16 := by
      rw [BitVec.setWidth_and]
      exact BitVec.and_allOnes
    exact congrArg (fun v => push v s) low.symm
  | w32 => exact congrArg (fun v => push v s) (BitVec.setWidth_eq _).symm

/-- CMC turns CF over (R620). -/
theorem setFlag_complement (s : State) : s.setFlag .cf (!s.flag .cf) = { s with eflags := s.eflags ^^^ 1#32 } := by
  have bit : ∀ k < 32, (1#32).getLsbD k = decide (k = 0) := by decide
  have complemented : putFlag s.eflags .cf (!getFlag s.eflags .cf) = s.eflags ^^^ 1#32 := by
    apply BitVec.eq_of_getLsbD_eq
    intro k hk
    rw [getLsbD_putFlag _ _ _ hk, BitVec.getLsbD_xor, bit k hk]
    by_cases h : k = 0
    · subst h
      simp [getFlag, Flag.bit]
    · simp [Flag.bit, h]
  exact congrArg (fun v => { s with eflags := v }) complemented

/-- Settles O48, one body at a time. -/
theorem flagInstructionsComplete : Obligations.FlagInstructionsComplete := by
  intro s s1 s2 p w allowed full mask ha
  refine ⟨exec_completes (exec_clc_eq s) ha rfl, exec_completes (exec_stc_eq s) ha rfl,
    exec_completes (exec_cmc_eq s) ha (congrArg (EStateM.Result.ok ()) (setFlag_complement s)),
    exec_completes (exec_cld_eq s) ha rfl, exec_completes (exec_std_eq s) ha rfl, fun may => ⟨?_, ?_⟩, fun barred i hi => ?_,
    exec_completes (exec_sahf_eq s) ha rfl, exec_completes (exec_lahf_eq s) ha ?_, fun cc rm stored => ?_, fun pushed => ?_, fun v popped => ?_⟩
  · exact exec_completes (exec_cli_eq s) ha (clearInterrupt_passes may)
  · exact exec_completes (exec_sti_eq s) ha (setInterrupt_passes may)
  · simp only [List.mem_cons, List.not_mem_nil, or_false] at hi
    rcases hi with rfl | rfl
    · exact exec_faults (exec_cli_eq s) ha (bind_error (ioplCheck_stops barred))
    · exact exec_faults (exec_sti_eq s) ha (bind_error (ioplCheck_stops barred))
  · rw [← BitVec.setWidth_eq_extractLsb' (by decide)]
    rfl
  · exact exec_completes (exec_setccRm8_eq s cc rm) ha ((bind_ok (look_apply _ s)).trans stored)
  · exact exec_completes (exec_pushf_eq s) ha ((pushFlags_eq _ s).trans pushed)
  · have body := popFlags_ok popped
    rw [popfMask_eq] at body
    exact exec_completes (exec_popf_eq s) ha body

end Sys2Proof.Machine
end

section
/-! PROOFS. The system instructions, past their privilege check and stopped by it (spec/49_system.md R670 to R682). -/

namespace Sys2Proof.Machine

variable {s t : State}

/-- Every generation but the first is the 486 or later. -/
theorem g486_le_iff (gen : CpuGen) : CpuGen.g486.num ≤ gen.num ↔ gen ≠ .g386 := by
  cases gen <;> decide

/-- The values MOV CR0 rejects (R670). -/
theorem cr0Rejected_iff (gen : CpuGen) (v : Word) : cr0Rejected gen v = true ↔
    (v.getLsbD 31 = true ∧ v.getLsbD 0 = false) ∨ (gen ≠ .g386 ∧ v.getLsbD 29 = true ∧ v.getLsbD 30 = false) := by
  have later : gen.num ≥ 486 ↔ gen ≠ .g386 := g486_le_iff gen
  simp only [cr0Rejected, later, Bool.or_eq_true, Bool.and_eq_true, Bool.not_eq_true', decide_eq_true_eq, and_assoc]

/-- MOV CR0 empties the TLB where PG changes (R670). -/
theorem putCr0_eq (s : State) (v : Word) : s.putCr0 v =
    if v.getLsbD 31 = s.pg then { s with cr0 := cr0Of s.cfg.gen v } else { s with cr0 := cr0Of s.cfg.gen v, tlbR := [], tlbW := [] } := by
  unfold State.putCr0
  rw [← (cr0Of_pePg s.cfg.gen v).2]
  rfl

/-- MOV CR0 past its privilege check (R670). -/
theorem writeCr0_passes (h : s.pe = false ∨ s.cpl = 0#2) (r : Reg) : writeCr0 r s =
    if cr0Rejected s.cfg.gen (s.gpr32 r) = true then .error (.fault 13#8 (some 0#32)) s else .ok () (s.putCr0 (s.gpr32 r)) := by
  unfold writeCr0
  rw [bind_ok (privCheck_passes h), bind_ok (look_apply _ s), bind_ok (look_apply _ s)]
  split
  · rfl
  · rfl

/-- LMSW past its privilege check (R675). -/
theorem loadStatusWord_passes (h : s.pe = false ∨ s.cpl = 0#2) {p : Pfx} {rm : RM} {v : BitVec 16} (read : readRM .b16 p rm s = .ok v t) :
    loadStatusWord p rm s = .ok () { t with cr0 := (s.cr0 &&& 0xFFFFFFF1#32) ||| (v.setWidth 32 &&& 0xF#32) } := by
  unfold loadStatusWord
  rw [bind_ok (privCheck_passes h), bind_ok read, ← ((readRM_touches ..).1 _ _ _ read).cr0]
  rfl

/-- Settles O51: each body goes on past its privilege check. -/
theorem systemInstructionsComplete : Obligations.SystemInstructionsComplete := by
  intro s s1 ha privileged
  have passed {f : Unit → Act Unit} : (privCheck >>= f) s = f () s := bind_ok (privCheck_passes privileged)
  refine ⟨fun r => ⟨fun rejected => ?_, fun accepted => ?_⟩, fun r => exec_completes (exec_movCr3R32_eq s r) ha passed,
    fun r => exec_completes (exec_movCr2R32_eq s r) ha passed, fun r => exec_completes (exec_movR32Cr0_eq s r) ha passed,
    fun r => exec_completes (exec_movR32Cr2_eq s r) ha passed, fun r => exec_completes (exec_movR32Cr3_eq s r) ha passed,
    fun rm v read => exec_completes (exec_lmswRm16_eq s rm) ha (loadStatusWord_passes privileged read),
    exec_completes (exec_clts_eq s) ha passed, exec_completes (exec_hlt_eq s) ha passed, fun gen => ?_⟩
  · exact exec_faults (exec_movCr0R32_eq s r) ha ((writeCr0_passes privileged r).trans (if_pos ((cr0Rejected_iff ..).2 rejected)))
  · rw [← putCr0_eq]
    exact exec_completes (exec_movCr0R32_eq s r) ha
      ((writeCr0_passes privileged r).trans (if_neg fun rejected => accepted ((cr0Rejected_iff ..).1 rejected)))
  · have ha : s.allows .g486 false := ⟨(g486_le_iff _).2 gen, ha.2⟩
    exact ⟨fun m => exec_completes (exec_invlpgM_eq s m) ha passed, exec_completes (exec_invd_eq s) ha (privCheck_passes privileged),
      exec_completes (exec_wbinvd_eq s) ha (privCheck_passes privileged)⟩

/-- Settles O53: the privilege check is the first thing each body does. -/
theorem privilegedInstructionTraps : Obligations.PrivilegedInstructionTraps := by
  intro s r rm m hpe hcpl i hi ha
  have stops := privCheck_stops hpe hcpl
  simp only [List.mem_cons, List.not_mem_nil, or_false] at hi
  rcases hi with rfl | rfl | rfl | rfl | rfl | rfl | rfl | rfl | rfl | rfl | rfl | rfl
  · exact exec_faults (exec_movCr0R32_eq s r) ha (bind_error stops)
  · exact exec_faults (exec_movCr2R32_eq s r) ha (bind_error stops)
  · exact exec_faults (exec_movCr3R32_eq s r) ha (bind_error stops)
  · exact exec_faults (exec_movR32Cr0_eq s r) ha (bind_error stops)
  · exact exec_faults (exec_movR32Cr2_eq s r) ha (bind_error stops)
  · exact exec_faults (exec_movR32Cr3_eq s r) ha (bind_error stops)
  · exact exec_faults (exec_lmswRm16_eq s rm) ha (bind_error stops)
  · exact exec_faults (exec_invlpgM_eq s m) ha (bind_error stops)
  · exact exec_faults (exec_clts_eq s) ha (bind_error stops)
  · exact exec_faults (exec_invd_eq s) ha stops
  · exact exec_faults (exec_wbinvd_eq s) ha stops
  · exact exec_faults (exec_hlt_eq s) ha (bind_error stops)

end Sys2Proof.Machine
end

section
/-! PROOFS. The single-step trap, and the delivery of an event in real mode (spec/60_exceptions.md R707, R712, R714, R716, R722, R731). -/

namespace Sys2Proof.Machine

variable {s t : State}

/-! The single-step trap. -/

/-- The single-step trap is due (R707). -/
theorem singleStep_due (tf : s.flag .tf = true) (unmarked : t.unmarked = true) (same : sameDeliveries s t) (shadow : t.shadow ≠ .movss) :
    singleStep s t = deliver 1#8 none .trap t.eip t :=
  if_pos (by simp [tf, unmarked, show deliveredCount t.history = deliveredCount s.history from same, shadow])

/-- Where one of its conditions fails, no trap is due (R707). -/
theorem singleStep_idle (h : s.flag .tf = false ∨ t.unmarked = false ∨ ¬sameDeliveries s t ∨ t.shadow = .movss) : singleStep s t = t := by
  refine if_neg ?_
  rcases h with h | h | h | h
  · simp [h]
  · simp [h]
  · simp [show deliveredCount t.history ≠ deliveredCount s.history from h]
  · simp [h]

theorem reportHalt_eq (t : State) : reportHalt t = if t.halted = true ∧ t.outcome = .cont then { t with outcome := .halted } else t := by
  simp only [reportHalt, Bool.and_eq_true, beq_iff_eq]

/-- Settles O15: the trap is due under the first clause's conditions alone, and a delivery leaves no halt to report. -/
theorem singleStepTrap : Obligations.SingleStepTrap := by
  intro s t
  have ends : endInstr s (.next t) = .next (reportHalt (singleStep s t)) := rfl
  refine ⟨fun tf unmarked same shadow => ?_, fun h => ?_⟩
  · rw [ends, singleStep_due tf unmarked same shadow, reportHalt_deliver]
  · rw [ends, singleStep_idle h, reportHalt_eq]

/-! Delivery in real mode. -/

/-- IF, TF and AC are cleared together (R714). -/
theorem setFlag_intr_tf_ac (s : State) :
    ((s.setFlag .intr false).setFlag .tf false).setFlag .ac false = { s with eflags := s.eflags &&& ~~~0x00040300#32 } := by
  have cleared : putFlag (putFlag (putFlag s.eflags .intr false) .tf false) .ac false = s.eflags &&& ~~~0x00040300#32 := by
    simp only [putFlag, Bool.false_eq_true, if_false, BitVec.and_assoc]
    rfl
  exact congrArg (fun v => { s with eflags := v }) cleared

/-- The address of a vector's entry (R714). -/
theorem vectorAddress (v : Byte) : (v.setWidth 32 <<< 2 : Word) = BitVec.ofNat 32 (4 * v.toNat) := by
  apply BitVec.eq_of_toNat_eq
  rw [BitVec.toNat_shiftLeft, BitVec.toNat_setWidth, BitVec.toNat_ofNat, Nat.shiftLeft_eq]
  omega

theorem vectorAddress_selector (v : Byte) : (v.setWidth 32 <<< 2 : Word) + 2#32 = BitVec.ofNat 32 (4 * v.toNat + 2) := by
  rw [vectorAddress, BitVec.ofNat_add]

theorem deliveredOutcome_eq (v : Byte) (err : Option Word) (kind : EventKind) :
    deliveredOutcome v err kind = if kind = .fault then .fault (.guest v err) else .cont := by
  cases kind with
  | fault | trap | software | external => rfl

/-- A delivery in real mode that completes (R712, R716). -/
theorem deliver_real {v : Byte} {err : Option Word} {kind : EventKind} {ret : Word} (hpe : s.pe = false)
    (h : deliverReal v ret (s.record (.delivered v kind)) = .ok () t) :
    deliver v err kind ret s = t.afterDelivery (deliveredOutcome v err kind) := by
  unfold deliver
  simp only
  rw [if_neg (by simp [hpe]), h]

/-- The pushes and the reads of a real-mode delivery, in their order (R714). -/
theorem deliverReal_ok {v : Byte} {ret : Word} {s1 s2 s3 s4 s5 : State} {off sel : List Byte}
    (pushedFlags : push (s.eflags.setWidth 16) s = .ok () s1)
    (pushedCs : push s.segs.cs.sel { s1 with eflags := s.eflags &&& ~~~0x00040300#32 } = .ok () s2)
    (pushedRet : push (ret.setWidth 16) s2 = .ok () s3)
    (readOff : linRead (BitVec.ofNat 32 (4 * v.toNat)) 2 s3 = .ok off s4)
    (readSel : linRead (BitVec.ofNat 32 (4 * v.toNat + 2)) 2 s4 = .ok sel s5) :
    deliverReal v ret s = .ok () { s5 with
      segs := { s.segs with cs := s.segs.cs.loadReal (ofBytes 16 sel) }
      eip := (ofBytes 16 off).setWidth 32 } := by
  have first := (push_moves _).1 _ _ _ pushedFlags
  have second := (push_moves _).1 _ _ _ pushedCs
  have third := (push_moves _).1 _ _ _ pushedRet
  have reads := touches_steady.trans _ _ _ ((linRead_touches ..).1 _ _ _ readOff) ((linRead_touches ..).1 _ _ _ readSel)
  have segs : s5.segs = s.segs := reads.segs.trans (third.segs.trans (second.segs.trans first.segs))
  rw [← vectorAddress] at readOff
  rw [← vectorAddress_selector] at readSel
  rw [← first.eflags, ← setFlag_intr_tf_ac, ← first.segs] at pushedCs
  unfold deliverReal
  rw [bind_ok (look_apply _ s), bind_ok pushedFlags, bind_ok (update_apply _ s1), bind_ok (look_apply _ _)]
  refine (bind_ok pushedCs).trans ((bind_ok pushedRet).trans ((bind_ok readOff).trans ((bind_ok readSel).trans ?_)))
  rw [← segs]
  rfl

/-- Settles O16: the delivery completes by its pushes and reads, and ends halt and shadow. -/
theorem realModeDelivery : Obligations.RealModeDelivery := by
  intro v err kind ret s s1 s2 s3 s4 s5 off sel hpe pushedFlags pushedCs pushedRet readOff readSel
  rw [deliver_real hpe (deliverReal_ok (s := s.record (.delivered v kind)) pushedFlags pushedCs pushedRet readOff readSel), deliveredOutcome_eq]
  rfl

end Sys2Proof.Machine
end
